-- ==== Sys2Proof/Word.lean ====
section
/-! DEFINITION. The plain words of the model: 32-bit register words, bytes, the two ports and their
paths, the two backplane dies, sparse tables, and the operand records that the commands of
`Sys2Proof.Instr` carry. -/

namespace Sys2Proof

/-- A register of the device is 32 bits wide (R14). -/
abbrev Word := BitVec 32

/-- A byte of a memory, of a packet or of a bus transfer. -/
abbrev Byte := BitVec 8

/-- A sparse table: key and value pairs with strictly rising keys and no value equal to what an
unlisted key reads as. `Sys2Proof.Machine.Tab` holds its operations. -/
abbrev Tab (α : Type) := List (Nat × α)

/-- The two host ports (R249). -/
inductive Port where
  | A
  | B
deriving DecidableEq, Repr, Inhabited

/-- The two access paths of a port (R250). -/
inductive Path where
  | link
  | bus
deriving DecidableEq, Repr, Inhabited

/-- The two backplane dies (R26): die L is numbered 0 and die R is numbered 1 (R11). -/
inductive Die where
  | L
  | R
deriving DecidableEq, Repr, Inhabited

/-- The status codes of R23. -/
inductive Status where
  | ok
  | busy
  | refusedOwner
  | lenRange
  | addrRange
  | blockOff
  | slotLeased
  | lbufShort
  | fenceTimeout
  | semHeld
  | lifecycle
  | authFail
  | crcFail
  | notPlated
  | state
deriving DecidableEq, Repr, Inhabited

/-- The header of a link command (R262): the port whose queue carries it, the host's tag, the quiet
flag Q and the payload length that the header announces. -/
structure CmdHead where
  port : Port
  tag : Byte
  quiet : Bool
  len : Nat
deriving DecidableEq, Repr, Inhabited

/-- A 10-bit code group of a lane (R298), its bits in the order abcdei fghj, bit a the highest. -/
abbrev CodeGroup := BitVec 10

/-- What an instruction of the test access port does, by what R547 tells apart. -/
inductive TapInstr where
  | bypass
  /-- Boundary scan that only samples the lands, and boundary scan that drives them. -/
  | sample
  | extest
  | other
deriving DecidableEq, Repr, Inhabited

/-- What a receive lane gets, in order: a code group, or `n` code groups K28.5 of the right disparity (R298, R299). -/
inductive LineItem where
  | group (g : CodeGroup)
  | idle (n : Nat)
deriving DecidableEq, Repr, Inhabited

/-- Bits that the checker of a lane gets (R328, R332): `n` bits that follow its pattern, or bits as received. -/
inductive PrbsRun where
  | good (n : Nat)
  | bits (l : List Bool)
deriving DecidableEq, Repr, Inhabited

/-- The START of a management-bus transaction, or a repeated one (R281, R282): the 7-bit address, and the four address
bytes that follow it with W, if they do. -/
structure BusHead where
  target : Nat
  addr : Option Nat
deriving DecidableEq, Repr, Inhabited

/-- The STOP of a management-bus transaction (R281): its START and address phase, if no group and no word of it came
before, and whether the STOP cuts a group short. -/
structure BusEnd where
  head : Option BusHead
  cut : Bool
deriving DecidableEq, Repr, Inhabited

/-- One sample of a pixel's column (R338, R339): the pixel, the regulation monitor of the sink that
drove it and the column voltage in mV. -/
structure Sample where
  x : Nat
  y : Nat
  reg : Bool
  v : Nat
deriving DecidableEq, Repr, Inhabited

/-- What one receive lane gets up to and with a marker column, and its delay behind the earliest lane at the pins in
code groups (R304, R305). -/
structure LaneMark where
  items : List LineItem
  skew : Nat
deriving DecidableEq, Repr, Inhabited

/-- One fault event before grading (R501): source and detail. -/
structure FaultReport where
  source : Nat
  detail : Nat
deriving DecidableEq, Repr, Inhabited

/-- The measurement of one calibration step (R394): the four sums of sense samples, the sum of the
reference samples, and whether REG read 1 in every monitored slot. -/
structure StepSums where
  r0 : Nat
  r1 : Nat
  r2 : Nat
  r3 : Nat
  rref : Nat
  regOk : Bool
deriving DecidableEq, Repr, Inhabited

/-- The sums of one region over a flux-monitor interval (R414). -/
structure FluxSums where
  f : Nat
  d : Nat
  slots : Nat
  paused : Bool
deriving DecidableEq, Repr, Inhabited

/-- The reason an active lane became faulty (R321). -/
inductive LaneCause where
  | los
  | lol
  | lockLost
  | misaligned
  | violations
deriving DecidableEq, Repr, Inhabited

/-- A timer of a waiting commit (R171): of an ungrouped commit, or of a flip group. -/
inductive TimerOf where
  | commit (seq : Nat)
  | group (g : Nat)
deriving DecidableEq, Repr, Inhabited

/-- The three checks of the Seal layer (R179). -/
inductive SealPart where
  | content
  | palette
  | output
deriving DecidableEq, Repr, Inhabited

/-- The memories whose ECC errors MEMORY_ECC_ERROR reports (R503), corrected or not. -/
inductive EccPlace where
  | cpuSram
  | layerMem (addr : Nat)
  | cellar (addr : Nat)
  | tileStore (buf : Bool) (index : Nat)
  | pipeRam
  | queue (p : Port)
  | flash (addr : Nat)
  | logRecord (seq : Nat)
  | storeroom (g : Nat)
deriving DecidableEq, Repr, Inhabited

/-- A power domain that finishes a switch-on sequence (R47, R465). -/
inductive Domain where
  | core
  | pipe
  | bulk
  | cellar
  | phyA
  | phyB
  | arrL
  | arrR
deriving DecidableEq, Repr, Inhabited

/-- The device writes of the flash that end with FLASH_WRITE_DONE (R418, R358, R545). -/
inductive FlashJob where
  | trims
  | settings
  | bootRecord
deriving DecidableEq, Repr, Inhabited

/-- The fixed supplies of the integrator (R592). -/
inductive Supply where
  | vio
  | vphy
deriving DecidableEq, Repr, Inhabited

/-- The scheduled conversions of a region converter (R430), by input code. -/
abbrev AdcInput := Nat

end Sys2Proof
end

