-- ==== Sys2Proof/Syntax.lean ====
section
/-! DEFINITION. The commands of the block: one constructor per row of spec/opcode_table.json, in the
table's order. A command is a link command at the front of a port's queue, a register request of a port
(`p`, over the path `w`), or an event of an engine, a pin, a lane or a converter. Operands that the
world supplies (sample values, converter codes, training-set bytes) are plain data. -/

namespace Sys2Proof

/-- The commands of the FXH-1048. -/
inductive Instr where
  -- link commands (R262 to R272)
  | nop (h : CmdHead) (payload : List Word)
  | regWrite (h : CmdHead) (payload : List Word)
  | regRead (h : CmdHead) (payload : List Word)
  | regRmw (h : CmdHead) (payload : List Word)
  | echo (h : CmdHead) (payload : List Word)
  | layerWrite (h : CmdHead) (payload : List Word)
  | streamBlock (p : Port) (words : List Word)
  | slotCtrl (h : CmdHead) (payload : List Word)
  -- slot actions (R211, R212)
  | slotOpen (p : Port) (w : Path) (slot : Nat)
  | slotReady (p : Port) (w : Path) (slot : Nat)
  | slotRelease (p : Port) (w : Path) (slot : Nat)
  -- commits and fences
  | commit (h : CmdHead) (payload : List Word)
  | cmpCommitWrite (p : Port) (w : Path) (v : Word)
  | fenceSignal (h : CmdHead) (payload : List Word)
  | fenceSigWrite (p : Port) (w : Path) (v : Word)
  | fenceSet (p : Port) (w : Path) (k : Nat) (v : Word)
  -- semaphores
  | semAcquire (h : CmdHead) (payload : List Word)
  | semRelease (h : CmdHead) (payload : List Word)
  | semAcqWrite (p : Port) (w : Path) (v : Word)
  | semRelWrite (p : Port) (w : Path) (v : Word)
  -- updates
  | updateBegin (h : CmdHead) (payload : List Word)
  | updateBlock (h : CmdHead) (payload : List Word)
  | updateFinish (h : CmdHead) (payload : List Word)
  | updateEraseDone
  | programBufferDrain (words : Nat)
  -- register requests
  | registerWrite (p : Port) (w : Path) (addr : Nat) (v : Word)
  | loHalfRead (p : Port) (w : Path) (addr : Nat)
  | chainRead (p : Port) (w : Path) (k : Nat)
  | scnFrecSelWrite (p : Port) (w : Path) (v : Word)
  | scnTmodeWrite (p : Port) (w : Path) (v : Word)
  | scnBlankWrite (p : Port) (w : Path) (v : Word)
  | scnIfsWrite (p : Port) (w : Path) (v : Word)
  | cmpCresSelWrite (p : Port) (w : Path) (v : Word)
  | paletteWrite (p : Port) (w : Path) (pal : Nat) (i : Nat) (v : Word)
  | palDiscard (p : Port) (w : Path) (v : Word)
  | szrCload (p : Port) (w : Path) (v : Word)
  | szrCselWrite (p : Port) (w : Path) (v : Word)
  | maskSetHost (p : Port) (w : Path) (g : Nat) (xr : Nat) (yr : Nat)
  | maskClear (p : Port) (w : Path) (g : Nat) (xr : Nat) (yr : Nat)
  | readmit (p : Port) (w : Path) (g : Nat) (v : Word)
  | pixselWrite (p : Port) (w : Path) (g : Nat) (v : Word)
  | tilAdcStart (p : Port) (w : Path) (g : Nat) (v : Word)
  | adcStart (p : Port) (w : Path) (n : Nat) (v : Word)
  | groupGo (p : Port) (w : Path)
  | calZero (p : Port) (w : Path) (conv : Nat) (input : Nat)
  | calFull (p : Port) (w : Path) (conv : Nat) (input : Nat)
  | ucalReset (p : Port) (w : Path) (conv : Nat) (input : Nat)
  | ucalDone
  | requestSleep (p : Port) (w : Path)
  | requestStandby (p : Port) (w : Path)
  | requestRun (p : Port) (w : Path)
  | requestHold (p : Port) (w : Path)
  | vcoreOfsWrite (p : Port) (w : Path) (v : Word)
  | clearFallback (p : Port) (w : Path)
  | clearDark (p : Port) (w : Path)
  | clearFirst (p : Port) (w : Path)
  | fltInjWrite (p : Port) (w : Path) (v : Word) (real : List FaultReport)
  | logSelWrite (p : Port) (w : Path) (v : Word)
  | safInjWrite (p : Port) (w : Path) (v : Word)
  | botResetWrite (p : Port) (w : Path) (v : Word)
  | activate (p : Port) (w : Path) (target : Nat) (slot : Nat)
  | activateNow (p : Port) (w : Path) (target : Nat) (slot : Nat)
  | confirmFirmware (p : Port) (w : Path)
  | confirmPlate (p : Port) (w : Path)
  | lcReq (p : Port) (w : Path) (target : Nat)
  | keyProgram (p : Port) (w : Path) (slot : Nat)
  | keyRevoke (p : Port) (w : Path) (slot : Nat)
  | bistGo (p : Port) (w : Path) (groups : Nat)
  | bistDone (sigs : List Word)
  | custRead (p : Port) (w : Path)
  | custErase (p : Port) (w : Path)
  | custProgram (p : Port) (w : Path)
  | custOpDone (flashError : Bool)
  | saveNow (p : Port) (w : Path)
  | reload (p : Port) (w : Path)
  | calCtrlWrite (p : Port) (w : Path) (v : Word)
  | chkCfgWrite (p : Port) (w : Path) (u : Nat) (v : Word)
  | chkStateWrite (p : Port) (w : Path) (u : Nat) (v : Word)
  | chkData8 (p : Port) (w : Path) (u : Nat) (v : Word)
  | chkData16 (p : Port) (w : Path) (u : Nat) (v : Word)
  | chkData32 (p : Port) (w : Path) (u : Nat) (v : Word)
  | chkScanGo (p : Port) (w : Path) (u : Nat)
  | chkScanEnd (u : Nat)
  | pmcCntWrite (p : Port) (w : Path) (k : Nat) (v : Word)
  | pmcSelWrite (p : Port) (w : Path) (k : Nat) (v : Word)
  | pmcSmpCfgWrite (p : Port) (w : Path) (v : Word)
  | pmcSmpSelWrite (p : Port) (w : Path) (v : Word)
  | retrain (p : Port) (w : Path) (lp : Port)
  | linkEnWrite (p : Port) (w : Path) (lp : Port) (en : Bool)
  | lnkRejoinWrite (p : Port) (w : Path) (lp : Port) (v : Word)
  | lnkLoopWrite (p : Port) (w : Path) (lp : Port) (prbs : Bool) (v : Word)
  | prbsClr (p : Port) (w : Path) (lp : Port)
  -- packet layer
  | dataPacket (p : Port) (lines : List (List LineItem))
  | ackReceived (p : Port) (lines : List (List LineItem))
  | nakReceived (p : Port) (lines : List (List LineItem))
  | ackTimeout (p : Port)
  | ackDue (p : Port)
  | nakRepeat (p : Port)
  | portLoss (p : Port)
  -- serial lanes
  | markerColumn (p : Port) (lanes : List LaneMark)
  | symbolLock (p : Port) (lane : Nat) (items : List LineItem) (inverted : Bool) (eyes : List Nat)
  | hostCap (p : Port) (lines : List (List LineItem))
  | tsAckReceived (p : Port) (lines : List (List LineItem))
  | tsIgnored (p : Port) (lines : List (List LineItem))
  | trainTimeout (p : Port)
  | rateRestart (p : Port)
  | laneFault (p : Port) (lane : Nat) (cause : LaneCause)
  | parkDecision (p : Port)
  | rejoinDue (p : Port)
  | prbsWindowDone (p : Port) (lane : Nat) (received : List PrbsRun)
  | prbsLockTimeout (p : Port) (lane : Nat)
  -- management buses
  | mbWriteGroup (p : Port) (head : Option BusHead) (v : Word)
  | mbReadWord (p : Port) (head : Option BusHead)
  | mbStop (p : Port) (stop : BusEnd)
  -- scan
  | slotBoundary (wire0 wire1 : Bool) (within : Bool)
  | litSample (samples : List Sample)
  | darkSample (samples : List Sample)
  | decisionPoint
  | line7Blanking
  | cycleBoundary (badComparators : List Nat)
  | d2dTransferFail (d : Die) (wire : Option Nat)
  | syncinEdge
  | syncLossTimeout
  | camsyncPulse
  -- composition
  | passStart
  | passEnd
  | proofCompare (k : Nat)
  | sealCheck (part : SealPart) (x : Nat) (y : Nat) (disturb : Word)
  | fallbackPatternCheck (disturb : Word)
  | fallbackReloadDone (disturb : Word)
  | storeEccError (g : Nat)
  | fenceTimeout (t : TimerOf)
  -- rails
  | avsAcknowledge (rail : Nat)
  | avsNack (rail : Nat)
  | avsTimeout (rail : Nat)
  | avsStatusPoll (rail : Nat) (vdone : Bool)
  | headroomUpdate (d : Die)
  -- calibration
  | calStepEnd (g : Nat) (regOk : Bool)
  | roundStall (g : Nat)
  | fluxInterval
  | trimSaveDue
  | settingsWrite
  -- converters
  | scheduledConversion (g : Nat)
  | conversionDone (conv : Nat) (raw : Nat)
  | urgentRequest (k : Nat)
  | hostConversionStart (conv : Nat)
  | groupTrigger
  | groupDone (raws : List Nat)
  -- power, start, wake
  | vinRise
  | vinFall
  | resetN (low : Bool)
  | supplyGoodLoss (r : Supply)
  | start (cause : Nat)
  | startPhaseDone (passed : Bool)
  | startRetry
  | nativeWake (p : Port) (target : Nat) (write : Bool)
  | laneWake (p : Port) (squelch : List (Bool × Nat))
  | wakeStepDone
  | wakeStepTimeout
  | sclRelease (p : Port)
  | domainOnDone (d : Domain) (sequencersOk : Bool)
  | refClockLoss
  | pllLockLoss
  | lockstep
  -- guardian
  | inputAccepted (changes : List (Nat × Bool))
  | discrepancyTimeout (sib : Bool)
  | po1OffDemand
  | outputOverload (po2 : Bool)
  | offPulseStart (po2 : Bool)
  | pulseReadbackLow (po2 : Bool) (isLow : Bool)
  | pulseEnd (po2 : Bool)
  | pulseReadbackHigh (po2 : Bool) (isHigh : Bool)
  | heartbeatSend
  | heartbeatBeat (count : Byte) (complement : Byte)
  | heartbeatMiss
  | guardianRestart
  | faReadback (differs : Bool)
  | killReadback (d : Die) (differs : Bool)
  | aonClockCheck (deviates : Bool)
  | relight
  -- faults
  | faultEvent (events : List FaultReport)
  | windowElapse (k : Nat)
  | logWriteDone
  -- the remaining rows
  | pwrPhyCtrlWrite (p : Port) (w : Path) (v : Word)
  | powerGoodReturn (r : Supply)
  | flashWriteDone (j : FlashJob)
  | storeroomLoadDone
  | memoryEccError (place : EccPlace) (corrected : Bool)
  | handshakeTimeout (p : Port)
  | checkerLock (p : Port) (lane : Nat) (received : List Bool) (eyes : List Nat)
  | transmitIdleEnd (p : Port)
  | syncoutPulseEnd
  | faultAliveEdge
deriving DecidableEq, Repr

end Sys2Proof
end

