-- ==== Sys2Proof/Config.lean ====
section
/-! DEFINITION. What the manual leaves to an implementation, and the free values.

A free value is a constant without a body: nothing proves what it is. `Config.freeWord n` is the n-th
free value that a run draws; the counter is the state's field `free`. -/

namespace Sys2Proof

/-- The structure that a plate fixes (R533). The manual does not give the bytes in which an image body
holds it. -/
structure Plate where
  /-- Populated tiles (R538), bit T for tile T. -/
  pop : BitVec 512
  nlayers : Nat
  /-- Operation code of each general layer (R156). -/
  ops : List Nat
  sealOwner : Port
  sealPal : Nat
  fbBank : Nat
  /-- Format codes of L0 to L5 and of the Seal layer (R244). -/
  fmt : List Nat
  /-- Palette of each general layer. -/
  pal : List Nat
  /-- Scaler of each general layer, 7 for none. -/
  szr : List Nat
  /-- Content of the eight palettes (R221). -/
  palettes : List (Tab Word)
  /-- First page, page count and Seal mark of each memory slot (R205). -/
  slots : List (Nat × Nat × Bool)
  /-- Bit k: rectangle k is of class SEAL (R181). -/
  prfClass : BitVec 16
  /-- Bit n: timing mode Sn allowed (R78). -/
  modes : BitVec 4
  /-- 0 NONE, 1 LEADER, 2 FOLLOWER, 3 STRAP (R98). -/
  syncRole : Nat
  /-- The fallback pattern (R191), by offset in its bank. -/
  pattern : Tab Byte
  /-- The reaction matrix, format of FLT_MAPk; an unlisted source holds 0x0001_0100. -/
  fltMap : Tab Word
  budPkg : Nat
  budDieL : Nat
  budDieR : Nat
  budReg : List Nat
  vf0L : Nat
  rsL : Nat
  vf0R : Nat
  rsR : Nat
  /-- AVSBus rail selects and the Power Mode values for on and off (R466). -/
  railSel : List Nat
  pmOn : Nat
  pmOff : Nat
  /-- Initial values of RWL registers, by address. -/
  rwl : Tab Word
  /-- Locks, bits as BOT_PLATE_LOCK. -/
  lock : BitVec 10
deriving DecidableEq, Repr, Inhabited

/-- The fields that the body of a plate image holds (R525, R533). Free: the manual gives no encoding
of a plate body (log 8). -/
opaque Config.plateFields : List Byte → Plate

/-- The n-th free value (log 3). -/
opaque Config.freeWord : Nat → Word

/-- The instruction that bits of the instruction register stand for, but for all 1, which is BYPASS: the manual gives no
codes (log 84). -/
opaque Config.tapCode : List Bool → TapInstr

/-- What the instruction register captures before its two last bits; its length is that of the register less two
(log 84). -/
opaque Config.tapCapture : List Bool

/-- What a data register that the manual does not give shows on TDO at an instant (log 84). -/
opaque Config.tapData : Nat → Bool

end Sys2Proof
end

