-- ==== Sys2Proof/Machine/State.lean ====
section
/-! DEFINITION. The state of the FXH-1048, as plain data: every register (in `regs`, under its address,
or computed from a typed field), every memory, queue, mode, pin and engine state that the manual names,
and the queue of commands that wait. INVENTORY.md lists each with its rule and its reset value. -/

namespace Sys2Proof.Machine

/-- The block has no stop: R23 and R24 give every request a status, R501 makes every fault of the
hardware an event of the fault collector. No meaning answers a fault. -/
inductive Fault where
deriving DecidableEq, Repr

/-- Why a command has no meaning. -/
inductive Refusal where
  /-- The command has no meaning in this model. No arm raises it. Safe: the block stops. -/
  | notModelled (mnemonic : String)
deriving DecidableEq, Repr

/-! ### Ports -/

/-- A packet that the device sends (R251, R252): type, sequence number and payload. -/
structure TxPacket where
  type : Nat
  seq : Nat
  payload : List Word
deriving DecidableEq, Repr, Inhabited

/-- What kind of streamed command is in progress (R274). -/
inductive StreamKind where
  | nop
  /-- REG_WRITE into a register block, next address. -/
  | regs (addr : Nat)
  /-- LAYER_WRITE: memory slot and next byte offset in it. -/
  | layer (slot : Nat) (off : Nat)
  /-- REG_WRITE into the bulk window: memory slot and next byte offset in it. -/
  | window (slot : Nat) (off : Nat)
  /-- REG_WRITE into the cellar, next address. -/
  | cellar (addr : Nat)
deriving DecidableEq, Repr, Inhabited

/-- A streamed command in progress (R274, R276). `remain` payload words are not yet served or
discarded; `refused` holds the status of a refusal, after which the rest is discarded (R265). -/
structure Stream where
  opcode : Nat
  tag : Byte
  quiet : Bool
  len : Nat
  kind : StreamKind
  /-- The memory slot that the command names, refused or not (R279, R297). -/
  named : Option Nat := none
  remain : Nat
  served : Nat
  refused : Option Status
  /-- Position and instant at which the header entered the queue (R575). -/
  qpos : Nat
  arrived : Nat
deriving DecidableEq, Repr, Inhabited

/-- What waits to leave on a port's transmit lane, in the order in which it arose (R261, R292): a
completion record or an event word. -/
inductive OutItem where
  | resp (words : List Word)
  | evt (w : Word)
deriving DecidableEq, Repr, Inhabited

/-- Words that entered a command queue together and are not all consumed (R273, R575): how many are
left, the instant they entered, and the words that then stood ahead of the first one left. -/
structure Arrival where
  left : Nat
  time : Nat
  ahead : Nat
deriving DecidableEq, Repr, Inhabited

/-- A symbol of a lane (R299): a byte, or one of the five special code groups K28.5, K28.3, K27.7, K29.7, K30.7. -/
inductive Sym where
  | data (b : Byte)
  | comma
  | marker
  | sop
  | eop
  | err
deriving DecidableEq, Repr, Inhabited

/-- What the transmit lane sends between packets and training sets (R312): nothing, idle with markers, or idle with
markers and a CAP every 1,024 code groups. -/
inductive TxMode where
  | quiet
  | idle
  | train
deriving DecidableEq, Repr, Inhabited

/-- A stretch of the transmit lane: `n` columns of a mode from column `col` of the marker interval on, symbols as they
stand, or electrical idle. -/
inductive TxItem where
  | run (mode : TxMode) (col n : Nat)
  | syms (l : List Sym)
  | quiet
deriving DecidableEq, Repr, Inhabited

/-- The transmit lane of a port. -/
structure TxLane where
  mode : TxMode := .quiet
  /-- Instant at which the next column begins. -/
  at_ : Nat := 0
  /-- Columns since the latest marker, 0 to 16,383: in column 16,383 the next marker falls (R303). -/
  col : Nat := 0
  /-- Everything sent, newest first (the model's own record of the lane). -/
  line : List TxItem := []
deriving DecidableEq, Repr, Inhabited

/-- One port: link packet layer, command queue, outward packets, events (R249 to R279, R292). -/
structure PortState where
  linkUp : Bool := false
  lost : Bool := false
  /-- Start and length of the running port-loss timer (R277, R630): the link is down and the bus silent.
  It runs from reset with the reset value of HPT_LOSS_TMO, 100 ms. -/
  silent : Option (Nat × Nat) := some (0, 1000000000)
  expSeq : Nat := 0
  /-- Reason of the NAK whose expected packet has not arrived (R255). -/
  nakOut : Option Nat := none
  /-- Start and length of the running timer of the NAK that is repeated (R255, R630). -/
  nakTimer : Option (Nat × Nat) := none
  /-- Packets accepted since the last ACK, and the instant of the oldest of them (R258). -/
  sinceAck : Nat := 0
  oldest : Option Nat := none
  creditSent : Nat := 4096
  /-- Inward packets are discarded from a parking decision to the switch (R322). -/
  inDiscard : Bool := false
  /-- The command queue (R273), oldest word first. -/
  queue : List Word := []
  /-- When the words of the queue entered it, oldest first; the `left` fields add up to its length. -/
  arrivals : List Arrival := []
  stream : Option Stream := none
  txSeq : Nat := 0
  /-- Packets sent and not acknowledged (R259), oldest first. -/
  unacked : List TxPacket := []
  /-- Completion records not yet packed (R278) and events not yet sent (R293), oldest first. -/
  outbox : List OutItem := []
  /-- Successive retransmissions without an ACK (R323, cause 5). -/
  retries : Nat := 0
  /-- The running ACK timer: its start and its length (R259, R630). -/
  ackTimer : Option (Nat × Nat) := none
  /-- Every packet put on the link, newest first (the model's own record of the wire). -/
  wire : List TxPacket := []
  /-- The transmit lane (R303, R312). -/
  tx : TxLane := {}
  /-- Shadows of two-half values and of chained counters (R290, R572), by register address. -/
  shadows : Tab Word := []
  /-- The guardian holds SCL of this port's bus (R473), and since when. -/
  sclHeld : Bool := false
  sclSince : Nat := 0
  /-- The guardian withholds the acknowledge of the next byte (R474, R477). -/
  busNack : Bool := false
  /-- Address of the next word of the transaction that runs on this port's bus; none while none addressed to the
  device has had its address phase (R281, R282). -/
  busPtr : Option Nat := none
  /-- The device has not acknowledged the latest address with R (R282). -/
  busRefused : Bool := false
  /-- Start and end of the latest stretching of SCL by a request that waited for the arbiter (R283). -/
  stretch : Option (Nat × Nat) := none
deriving DecidableEq, Repr, Inhabited

/-! ### Lanes -/

/-- The link states of R312. -/
inductive LinkState where
  | disabled
  | train
  | caps
  | rate
  | up
deriving DecidableEq, Repr, Inhabited

/-- What a receive lane does (R325, R329). -/
inductive LaneRole where
  | parked
  | active
  | check
  | resync
  | lpPark
deriving DecidableEq, Repr, Inhabited

/-- One receive lane. -/
structure Lane where
  role : LaneRole := .parked
  lock : Bool := false
  inverted : Bool := false
  logical : Option Nat := none
  aligned : Bool := false
  /-- Running disparity, true positive; none before the first code group (R298, R301). -/
  disp : Option Bool := none
  /-- The latest consecutive valid code groups, newest first, at most 16: whether each was a K28.5 (R313). -/
  recent : List Bool := []
  /-- Code groups since each violation of the latest 64 groups (R313). -/
  viols : List Nat := []
  /-- Code violations since the latest marker column (R321). -/
  cv : Nat := 0
  /-- Code groups since its latest K28.3, and the spacing of that one from the one before it (R304). -/
  since : Option Nat := none
  gap : Option Nat := none
  /-- Symbols since the latest K27.7 (`framed`), or else since the latest K28.5, newest first; none is a violation. -/
  framed : Bool := false
  held : List (Option Sym) := []
  /-- Columns of the packet in progress that came before the lane joined (R325, R327). -/
  joined : Nat := 0
  /-- Latest bits of its pattern checker, newest first, and the consecutive ones that fit the pattern (R328). -/
  bits : List Bool := []
  streak : Nat := 0
  /-- Consecutive marker columns without its marker (R321). -/
  missed : Nat := 0
  /-- Consecutive marker columns aligned while resynchronising (R325). -/
  good : Nat := 0
  /-- What has made the active lane faulty (R321); empty while it is healthy. -/
  faults : List LaneCause := []
  /-- The PRBS TS that starts its check has been acknowledged; its checker has locked (R325, R328). -/
  acked : Bool := false
  checking : Bool := false
  /-- Start and length of the timer of its check or resynchronisation (R325, R630). -/
  timer : Option (Nat × Nat) := none
  /-- Start and length of the rejoin interval of a parked lane (R325, R630); none with REJOIN = 0. -/
  rejoin : Option (Nat × Nat) := none
deriving DecidableEq, Repr, Inhabited

/-- What the device waits for with a training set (R314, R322, R325, R329). -/
inductive TsFor where
  | rate
  | park
  | holdPark
  | join
  | prbsStart
  | prbsStop
deriving DecidableEq, Repr, Inhabited

/-- The latest training set of the device of a code: purpose, bytes 4 and 5 (R306, R309). -/
structure TsWait where
  why : TsFor
  b4 : Nat
  b5 : Nat
  /-- Its ACK has been accepted; the switch waits for the host's marker column. -/
  acked : Bool := false
  start : Nat
  length : Nat
deriving DecidableEq, Repr, Inhabited

/-- The link of one port (R312 to R330). -/
structure Link where
  state : LinkState := .disabled
  rate : Nat := 0
  target : Nat := 0
  /-- Bit r: rate code r failed since the last link-up, RETRAIN or EN change (R314). -/
  failed : BitVec 5 := 0
  /-- Rates of the latest host CAP, and cause of the latest link-down (R336). -/
  hostRates : BitVec 5 := 0
  downCause : Nat := 0
  /-- The aligned set at the previous marker column. -/
  prevSet : Option (List Nat) := none
  /-- Lanes aligned at 1.25 Gbit/s (R315). -/
  baseLanes : Nat := 0
  /-- MAXRATE, MINLANES, LNK_TXCFG and the fixed codes of LNK_EQ_CFG as the latest entry to TRAIN found them (R318);
  before one, their reset values. -/
  maxRate : Nat := 4
  minLanes : Nat := 0
  txcfg : Word := 0x4
  fixed : Word := 0x10101010
  /-- Pattern code of the latest PRBS START (R306, R325). -/
  pattern : Nat := 3
  /-- Instant at which the transmit lane stopped for its rate change (R314). -/
  stopped : Option Nat := none
  /-- The transmit lane has restarted at the target rate. -/
  restarted : Bool := false
  /-- Start of the 20 us idle of the transmit lane (R314). -/
  idle : Option Nat := none
  lanes : List Lane := [{}, {}, {}, {}]
  /-- The RATE or LANES set, and the PRBS set, whose ACK has not arrived (R309). -/
  wait : Option TsWait := none
  prbs : Option TsWait := none
  /-- Instant at which an active lane first became faulty, until the decision (R322). -/
  deciding : Option Nat := none
  /-- The training timer: start and length (R314, R630). -/
  timer : Option (Nat × Nat) := none
  /-- Every training set sent, newest first: code, byte 4, byte 5 (the model's record of the wire). -/
  sent : List (Nat × Nat × Nat) := []
deriving DecidableEq, Repr, Inhabited

/-! ### Composition -/

/-- The staged or applied values of one layer (R199): CMP_*_SLOT, SRC, POS and CTRL. -/
structure LayerVals where
  slot : Word := 0
  src : Word := 0
  pos : Word := 0
  ctrl : Word := 0
deriving DecidableEq, Repr, Inhabited

/-- The values of one scaler (R247): OUT, HSTEP, VSTEP, HINIT, VINIT, CTRL. -/
structure ScalerVals where
  out : Word := 0x00010001
  hstep : Word := 0x00010000
  vstep : Word := 0x00010000
  hinit : Word := 0
  vinit : Word := 0
  ctrl : Word := 2
deriving DecidableEq, Repr, Inhabited

/-- The values of one proof rectangle (R180). -/
structure RectVals where
  org : Word := 0
  size : Word := 0
  exp : Word := 0
deriving DecidableEq, Repr, Inhabited

/-- The commit states of R170 and R201. -/
inductive CommitState where
  | pending
  | ready
  | applied
  | discarded
  | superseded
deriving DecidableEq, Repr, Inhabited

/-- A commit that has been accepted and has not ended (R159 to R173). -/
structure Commit where
  seq : Nat
  port : Port
  state : CommitState
  /-- Named layers with the staged values taken at acceptance; number 6 is the Seal layer. -/
  layers : List (Nat × LayerVals)
  /-- Scaler values taken with their layers, by scaler. -/
  scalers : List (Nat × ScalerVals)
  rects : List (Nat × RectVals)
  /-- Palettes taken, by palette number (R224). -/
  pals : List (Nat × Tab Word)
  hasSeal : Bool
  sealCrc : Word
  group : Nat
  close : Bool
  /-- Fence index and target of a FENCED commit (R167). -/
  fence : Option (Nat × Word)
  /-- Start and length of the timeout of R171. -/
  timer : Option (Nat × Nat)
  /-- The Seal layer and SEAL-class rectangles have been applied in fallback (R192). -/
  sealApplied : Bool
deriving DecidableEq, Repr, Inhabited

/-- The result of one commit as CMP_CRES_STATE shows it (R201). -/
structure CommitResult where
  seq : Nat
  state : CommitState
  status : Status
deriving DecidableEq, Repr, Inhabited

/-- The slot states of R210. -/
inductive SlotMode where
  | undef
  | free
  | filling
  | ready
  | scanning
  | retiring
deriving DecidableEq, Repr, Inhabited

/-- One memory slot: its state and the incomplete mark (R212, R279). -/
structure SlotState where
  mode : SlotMode := .undef
  incomplete : Bool := false
deriving DecidableEq, Repr, Inhabited

/-- A staging copy of a palette (R223, R224). -/
structure PalStage where
  entries : Tab Word := []
  dirty : Bool := false
deriving DecidableEq, Repr, Inhabited

/-- One coefficient bank (R237): horizontal taps at 8 * phase + j, vertical taps at 6 * phase + j,
and the LOADED flags. -/
structure Bank where
  ch : Tab (BitVec 10) := []
  cv : Tab (BitVec 10) := []
  hload : BitVec 64 := 0
  vload : BitVec 64 := 0
deriving DecidableEq, Repr, Inhabited

/-- A slot timing: mode code (R77) and blanking in ticks. -/
structure Timing where
  mode : Nat := 0
  blank : Nat := 256
deriving DecidableEq, Repr, Inhabited

/-- Where the block of a region in the storeroom came from (R380). -/
inductive StoreSource where
  | notLoaded
  | primary
  | mirror
  | invalid
deriving DecidableEq, Repr, Inhabited

/-- The block of one region in the storeroom (R378): the bytes that differ from `fill`, by offset. -/
structure StoreBlock where
  fill : Byte := 0
  bytes : Tab Byte := []
deriving DecidableEq, Repr, Inhabited

/-- Everything that a composition pass reads at its start (R52, R53, R116): the composition inputs and
the drive inputs of a frame. Every composed value and every drive word of the frame is a function of
this record, so a tile store holds the record and not a million words. -/
structure Frame where
  pass : Nat := 0
  fallback : Bool := false
  /-- The fallback pattern is composed; otherwise 0 stands in its place (R196). -/
  pattern : Bool := false
  layers : List LayerVals := []
  scalers : List ScalerVals := []
  palettes : List (Tab Word) := []
  banks : List Bank := []
  mem : List Host.Cell := []
  rects : List RectVals := []
  plate : Option Plate := none
  timing : Timing := {}
  /-- Composed for HOLD (R88, R94, R95). -/
  hold : Bool := false
  ifs : Word := 0xFFFFFFFF
  /-- Quantised temperature of each region in 0.25 degree C (R117). -/
  temps : List Int := []
  store : List StoreBlock := []
  trims : Tab (BitVec 9) := []
  mask : Tab (BitVec 3) := []
  xover : Nat := 64
  fill : Nat := 256
  /-- Effective region gains (R124). -/
  rge : List Nat := []
  /-- Bit G: region G is in flux-monitor fall-back (R123). -/
  fluxFb : BitVec 16 := 0
  budPkg : Nat := 0
  budDieL : Nat := 0
  budDieR : Nat := 0
  budReg : List Nat := []
  /-- Newest commit composed (R160), and the layers that took a new commit (R60). -/
  commit : Nat := 0
  updated : BitVec 7 := 0
  /-- The budget scale factor S (R134). -/
  scale : Nat := 1024
  /-- PWR_HR_CFG.H at the start of the pass (R145, R481). -/
  headroom : Nat := 250
deriving DecidableEq, Repr, Inhabited

/-- A pass that runs (R162 to R164). -/
structure Pass where
  frame : Frame
  start : Nat
  /-- Its candidate is discarded (R165, R499). -/
  dropped : Bool := false
  /-- Slots that its start, or an earlier one, left unreferenced (R213). -/
  retiring : List Nat := []
  /-- Rectangles that mismatched in this pass (R188). -/
  missed : Bool := false
  /-- The instant up to which its reads and transfers have been counted (R570). -/
  counted : Nat := start
deriving DecidableEq, Repr, Inhabited

/-- A complete candidate that waits for its flip (R31): the frame, the peak current of each die in µA (R144), and the
required VLED of each die (R145) when its pass completed. -/
structure Candidate where
  frame : Frame
  ipkL : Nat
  ipkR : Nat
  vreqL : Nat
  vreqR : Nat
deriving DecidableEq, Repr, Inhabited

/-- One buffer of the tile stores (R81): the frame whose drive words it holds (none: all words 0) and
the words that differ from it, by word index 2,048 * T + 256 * m + s (an uncorrectable word of R503). -/
structure Buffer where
  frame : Option Frame := none
  words : Tab Word := []
deriving DecidableEq, Repr, Inhabited

/-- A flip record (R57 to R61). The identities of R59 are computed from the recorded inputs. -/
structure FlipRecord where
  seq : Nat
  time : Nat
  frame : Frame
deriving DecidableEq, Repr, Inhabited

/-- The compositor, layer memory control, palettes and scalers. -/
structure Comp where
  run : Option Pass := none
  cand : Option Candidate := none
  /-- Passes started since reset (R199). -/
  passes : Nat := 0
  /-- Instant of the previous pass start (R162). -/
  prevStart : Option Nat := none
  /-- The frame of the newest pass that ended (signatures, predictions). -/
  shown : Option Frame := none
  commits : List Commit := []
  /-- Results of the newest commits of port A and of port B, newest first (R199). -/
  resultsA : List CommitResult := []
  resultsB : List CommitResult := []
  /-- Slot k at position k; 64 of them. -/
  slots : List SlotState := List.replicate 64 {}
  pals : List (Tab Word) := List.replicate 8 []
  stageA : List PalStage := List.replicate 8 {}
  stageB : List PalStage := List.replicate 8 {}
  /-- Bank b of scaler j at position 2 * j + b. -/
  banks : List Bank := List.replicate 8 {}
  /-- A refresh condition of R119 or R388 has arisen since the previous pass start. -/
  refresh : Bool := false
  /-- A refresh condition of R95 has arisen in HOLD. -/
  holdRefresh : Bool := false
  /-- The next pass start does not wait for the interval of R162 (R163, R194, R458, R460, R500). -/
  noWait : Bool := false
  /-- A fallback pass starts at the boundary of the pending flip (R163). -/
  fbAtFlip : Bool := false
  /-- The fallback bank is reloading (R196), or failed its reload until the next reset. -/
  fbReload : Bool := false
  fbDead : Bool := false
  /-- Content check value of the applied Seal commit (R178, R179). -/
  sealCrc : Word := 0
  /-- Highest sequence number of a commit that a pass has applied (R160). -/
  newest : Nat := 0
  /-- Layers that took a commit since the latest flip (R60). -/
  updated : BitVec 7 := 0
deriving DecidableEq, Repr, Inhabited

/-! ### Scan -/

/-- The synchronisation states of R103. -/
inductive SyncState where
  | freeRun
  | acquire
  | locked
deriving DecidableEq, Repr, Inhabited

/-- The scan engine (R66 to R114). -/
structure Scan where
  /-- The timebase runs: both array domains are on. -/
  on : Bool := false
  /-- Line of the running slot. -/
  slot : Nat := 0
  cycle : BitVec 64 := 0
  /-- Instant of the last cycle boundary. -/
  cycleStart : Nat := 0
  cur : Timing := {}
  abuf : Bool := false
  buf0 : Buffer := {}
  buf1 : Buffer := {}
  flipPend : Bool := false
  /-- The trim of a re-admitted unit has come into force in this cycle's line-7 blanking (R90, R409). -/
  calCommit : Bool := false
  /-- A changed SCN_TMODE.RUN, SCN_TMODE.HOLD, SCN_BLANK that no flip has applied: how many passes had started when the
  latest change was accepted (R88). -/
  pendRun : Option Nat := none
  pendHold : Option Nat := none
  pendBlank : Option Nat := none
  /-- HOLD replay in progress (R93). -/
  replay : Bool := false
  flipSeq : Nat := 0
  flips : List FlipRecord := []
  /-- 0 NONE, 1 LEADER, 2 FOLLOWER (R98). -/
  role : Nat := 0
  sync : SyncState := .freeRun
  /-- Instants of the latest SYNCIN edge and the one before (R103). -/
  lastEdge : Option Nat := none
  /-- Consecutive edges with other spacing, and with a phase error above 250 ticks. -/
  badSpacing : Nat := 0
  badPhase : Nat := 0
  /-- Phase error that stretches the coming cycle, that of the stretched cycle that runs, and whether the first
  edge after it is still to come (R103). -/
  stretchDue : Option Int := none
  stretching : Option Int := none
  stretched : Bool := false
  /-- Correction of the running cycle's line-7 blanking (R102), and one that an edge in that blanking has measured. -/
  delta : Int := 0
  deltaDue : Option Int := none
  /-- Bit G: a sink of region G conducted in the slot before the running one (R425, R470). -/
  conducted : BitVec 16 := 0
  syncout : Bool := false
  /-- CMP_PHASE as the running cycle found it (R162, R630). -/
  phase : Nat := 0x927C
  /-- SCN_CAMSYNC_OFFSET as the running cycle found it, and whether it was treated as 0 (R107, R630); none once the pulse
  of the cycle has been given. -/
  cam : Option (Nat × Bool) := none
  /-- End of the latest CAMSYNC pulse (R106, R107). -/
  camEnd : Nat := 0
  wire0 : Bool := true
  wire1 : Bool := true
  scanLock : Bool := true
  /-- Wires of the buses of die L and die R that a repair wire replaces at the next boundary (R85). -/
  repairL : List Nat := []
  repairR : List Nat := []
deriving DecidableEq, Repr, Inhabited

/-! ### Diagnostics and the array -/

/-- The connection of an attic sink (R68), with the column it serves. -/
inductive Attic where
  | parked
  | takeover (col : Nat)
  | replace (col : Nat)
  | shadow (col : Nat)
deriving DecidableEq, Repr, Inhabited

/-- The failing results of a sample (R340). -/
inductive SampleResult where
  | pass
  | opened
  | short
  | leak
  | sink
deriving DecidableEq, Repr, Inhabited

/-- The confirmation count of a pixel or a sink (R343, R344). -/
structure Confirm where
  last : SampleResult
  count : Nat
  /-- Latest failing result, as TIL_PIXINFO.LAST shows it. -/
  latest : SampleResult
deriving DecidableEq, Repr, Inhabited

/-- A unit under re-admission (R365): tile of the field, number of the sink in its tile, attic or working. -/
structure Readmit where
  tile : Nat
  unit : Nat
  attic : Bool
deriving DecidableEq, Repr, Inhabited

/-- The diagnostics of the two backplane dies (R338 to R376). Pixels are numbered 2,048 * y + x, working
sinks 256 * T + s, attic sinks 8 * T + a. -/
structure Diag where
  /-- Mask causes: bit 0 FAULT, bit 1 HOST, bit 2 COLUMN (R355). -/
  mask : Tab (BitVec 3) := []
  pix : Tab Confirm := []
  sinks : Tab Confirm := []
  /-- Failed working sinks, failed attic sinks, and the connections of the attic sinks (R68, R359, R361). -/
  failed : Tab Bool := []
  failedAttic : Tab Bool := []
  attic : Tab Attic := []
  /-- Columns, by working sink number, that wait for a replacement at the next line-7 blanking (R359); true
  where an attic sink in REPLACE has failed. -/
  toReplace : List (Nat × Bool) := []
  /-- Failed attic sinks that the next line-7 blanking disconnects (R361). -/
  toDrop : List Nat := []
  /-- Columns, by working sink number, that have no sink (R364). -/
  noSink : List Nat := []
  /-- Rejoins that wait for the next line-7 blanking (R367), with the trim that comes into force (R409). -/
  toRejoin : List (Readmit × BitVec 9) := []
  /-- Pixels driven with no current since their failure, and those whose failure the running slot has confirmed, which
  are driven with none from the next slot on (R354). -/
  holdOff : List Nat := []
  holdNext : List Nat := []
  /-- Pixels whose last mask cause has cleared since the latest flip (R353, R357). -/
  returned : List Nat := []
  readmit : List (Option Readmit) := List.replicate 16 none
  /-- APMIN as the latest flip found it: pixels change their state with a flip only (R353). -/
  apLit : Nat := 8
  /-- After the attic-bus change of the running line-7 slot: the columns that no sink served before it (R341). -/
  before : Option (List Nat) := none
  /-- The self-test of a period that began with the first cycle after an array switch-on is still to come (R372). -/
  testDue : Bool := false
  /-- Count of the cycle in which the running diagnostic period started, if one runs (R346). -/
  period : Option Nat := none
  /-- Pixels with a passing lit sample or probe in the period. -/
  verified : List Nat := []
  /-- Sampling of die L, die R was suspended in the period (R370). -/
  suspL : Bool := false
  suspR : Bool := false
  /-- Probe windows that run: pixel, cycles since the window opened, and the sum of R347 through the running
  cycle. -/
  windows : List (Nat × Nat × Nat) := []
  /-- Pixels whose probe has failed: a new window at the next boundary (R348). -/
  retry : List Nat := []
  /-- Windows ended in the running period, by region (R350, R370). -/
  aborted : Tab Nat := []
  /-- Columns whose comparator failed the latest self-test, and those suspended until their array domain
  switches on (R372, R509). -/
  badComp : List Nat := []
  retiredComp : List Nat := []
  /-- Codes of VLED of die L, die R as last measured: 5.0 V in 65,536 (R342, R426). -/
  vledL : Nat := 0
  vledR : Nat := 0
  /-- A change of R358 that the settings record does not hold yet: instant of the first. -/
  unsaved : Option Nat := none
deriving DecidableEq, Repr, Inhabited

/-! ### Calibration -/

/-- The calibration states of R403; PAUSED is a state of the die (`State.calPaused`), in which a region keeps
the state it will return to. -/
inductive CalMode where
  | off
  | survey
  | round
  | stopped
deriving DecidableEq, Repr, Inhabited

/-- The calibration of one region (R389 to R416). -/
structure CalRegion where
  mode : CalMode := .off
  /-- Steps of the plan that are done or skipped, 0 to 8,448, and the index of the step in progress. -/
  pos : Nat := 0
  step : Nat := 0
  /-- A step runs; the count of its cycle 0 (R392); it measures the unit under re-admission (R366). -/
  stepOn : Bool := false
  stepAt : BitVec 64 := 0
  readmitting : Bool := false
  /-- Sums of the corrected samples of the running step and how many each holds (R393, R394): the sense load at codes 32,
  96, 160 and 224, then the package reference. -/
  sums : List (Nat × Nat) := List.replicate 5 (0, 0)
  /-- A pause condition of R404 has arisen since the step began. -/
  upset : Bool := false
  /-- Steps to repeat at the end of the round (R404), and those abandoned once. -/
  again : List Nat := []
  once : List Nat := []
  /-- Trims staged by the round, by sink number (R401). -/
  staged : Tab (BitVec 9) := []
  /-- Trims that come into force at the next cycle boundary. -/
  commit : Option (List (Nat × BitVec 9)) := none
  ms : List Nat := []
  mG : Option Nat := none
  target : Option Nat := none
  /-- The median of the package that the round was given (R399). -/
  mP : Option Nat := none
  /-- CAL_CFG that the round started with (R410). -/
  cfg : Word := 0
  nPass : Nat := 0
  nOff : Nat := 0
  nSkip : Nat := 0
  nFail : Nat := 0
  nAband : Nat := 0
  nAttic : Nat := 0
  /-- The region ends its round after the step in progress (R407). -/
  ending : Bool := false
  /-- Cycle count at the round's start, and whether R411 has reported. -/
  startCycle : BitVec 64 := 0
  stalled : Bool := false
  /-- IFS code of the region in the frame last lit (R405). -/
  ifs : Nat := 3
  /-- Correction C in units of 1/32,768 (R413). -/
  c : Nat := 32768
  fallback : Bool := false
  /-- The block has been found valid: fall-back ends with the first pass after the load (R413). -/
  leaving : Bool := false
  monitorRetired : Bool := false
  /-- Latest efficiency e_G of a valid interval (R414). -/
  eff : Option Nat := none
  /-- The on sample of a slot and that slot's current in µA, until its blanking sample comes (R414). -/
  fluxOn : Option (Nat × Nat) := none
  /-- The running interval: F_G, D_G, its slots, and whether a pause condition of R404 has arisen in it (R414). -/
  fluxF : Int := 0
  fluxD : Nat := 0
  fluxSlots : Nat := 0
  fluxUpset : Bool := false
deriving DecidableEq, Repr, Inhabited

/-- The calibration engine and the storeroom. -/
structure Cal where
  regions : List CalRegion := List.replicate 16 {}
  store : List StoreBlock := List.replicate 16 {}
  source : List StoreSource := List.replicate 16 .notLoaded
  /-- A storeroom load runs (R380, R385). -/
  loading : Bool := false
  loaded : Bool := false
  /-- Trims in force, which are the trim image (R386, R387, R417), by sink number: 264 * T + s for working sinks and
  264 * T + 256 + a for attic sinks; signed. -/
  trims : Tab (BitVec 9) := []
  /-- The trim image has been restored since PD_BULK switched on (R387, R418). -/
  restored : Bool := false
  /-- A commit has occurred since the image was last written (R418). -/
  dirty : Bool := false
  /-- Start and length of the running interval of CAL_SAVE.MINUTES (R418, R630). -/
  save : Nat × Nat := (0, 36000000000000)
  /-- Start and length of the running flux-monitor interval (R414, R630). -/
  flux : Option (Nat × Nat) := none
deriving DecidableEq, Repr, Inhabited

/-! ### Converters -/

/-- A host request of a converter (R429, R437): input, averaging code, conversions left, sum so far. -/
structure HostReq where
  input : Nat
  avg : Nat
  left : Nat
  sum : Nat
deriving DecidableEq, Repr, Inhabited

/-- Who a running conversion belongs to (R430, R433). -/
inductive Asker where
  /-- A scheduled conversion: its tick and its line. -/
  | scheduled (tick line : Nat)
  | urgent (k : Nat)
  | host
  | ucal
  | group
deriving DecidableEq, Repr, Inhabited

/-- One converter: 0 to 15 the region converters, 16 to 19 the system converters (R423). -/
structure Conv where
  retired : Bool := false
  /-- The latest conversion whose code has not come: input, asker and end (R424). -/
  busy : Option (Nat × Asker × Nat) := none
  /-- Instant of the latest scheduled conversion (R430). -/
  sched : Nat := 0
  /-- A sink of the region conducted in the slot that the latest HMIN result covers, and in the slot that the running
  HMIN conversion reads (R425, R470). -/
  conducted : Bool := false
  reads : Bool := false
  /-- OFS and GAIN in force when the latest conversion started (R446). -/
  coef : Int × Nat := (0, 32768)
  req : Option HostReq := none
  /-- Latest corrected result of each input. -/
  latest : Tab Nat := []
  /-- The latest eight TDIODE results, newest first (R432). -/
  tdiode : List Nat := []
  /-- Source 0x6C reported: eight consecutive good results are needed (R118). -/
  tempBad : Bool := false
  tempGood : Nat := 0
  tempOut : Nat := 0
  /-- Last valid quantised temperature (R118). -/
  tempHeld : Option Int := none
  /-- A result of the self-check in progress has failed it, and failed self-checks in a row (R447). -/
  checkBad : Bool := false
  checkFails : Nat := 0
deriving DecidableEq, Repr, Inhabited

/-- The operation of the user calibration in progress (R445). -/
inductive UcalOp where
  | zero
  | full
  | reset
deriving DecidableEq, Repr, Inhabited

/-- A user calibration in progress (R445): channel, operation, conversions left, sum of the raw codes, and whether one
of them was 65,535. -/
structure Ucal where
  chan : Nat
  op : UcalOp
  left : Nat := 256
  sum : Nat := 0
  sat : Bool := false
deriving DecidableEq, Repr, Inhabited

/-- A group conversion in progress (R439 to R443): its converters, the end of its last conversion, and the converters
whose results have come, each with its result. -/
structure Group where
  sel : List Nat
  fin : Nat
  results : List (Nat × Nat) := []
deriving DecidableEq, Repr, Inhabited

/-- The twenty converters (R423 to R452). -/
structure Adc where
  convs : List Conv := List.replicate 20 {}
  /-- Converter 0 to 3 that each system requester 0 to 7 uses (R448). -/
  urgentOn : List Nat := [0, 1, 2, 3, 0, 1, 2, 3]
  /-- Drops in total and in a row of the twenty-four requesters: 0 to 7 system, 8 + G headroom. -/
  drops : List (Nat × Nat) := List.replicate 24 (0, 0)
  /-- Instants at which the running periods of the twenty-four requesters began (R434). -/
  urgentAt : List Nat := List.replicate 24 0
  /-- Requesters that have made a request since reset. -/
  asked : List Nat := []
  group : Option Group := none
  /-- CK_ADC cycle in which a group conversion has last started or been skipped, and whether it started (R440). -/
  groupAt : Option (Nat × Bool) := none
  /-- Start of the slot in which the line-slot trigger fired last (R440). -/
  trigAt : Option Nat := none
  /-- Instant of a group conversion that an edge of SYNCIN has triggered, and the converters and inputs that it then
  had (R440, R443). -/
  syncAt : Option (Nat × List (Nat × Nat)) := none
  /-- Instants of the samples that the flux-monitor hold stages hold: of the on-window and of the blanking (R431). -/
  holdOn : Nat := 0
  holdBlank : Nat := 0
  ucal : Option Ucal := none
  /-- Pending zero: channel and OFS_p. -/
  zero : Option (Nat × Int) := none
  /-- OFS and GAIN of channel 8 n + i; a channel not listed has 0 and 32,768. -/
  coef : Tab (Int × Nat) := []
  vinLow : Nat := 0
  vinHigh : Nat := 0
  tempHigh : Nat := 0
  rangeL : Nat := 0
  rangeR : Nat := 0
deriving DecidableEq, Repr, Inhabited

/-! ### Power -/

/-- The power states of R453. -/
inductive PowerState where
  | off
  | sleep
  | standby
  | run
  | hold
deriving DecidableEq, Repr, Inhabited

/-- The phases of a start (R530). -/
inductive Phase where
  | a | b | c | d | e | f | g | h
deriving DecidableEq, Repr, Inhabited

/-- Where a start or wake stands (R476, R530, R531). -/
inductive Stage where
  /-- VIO or VPHY missing, or RESET_N low (R592, R601). -/
  | waiting
  /-- Step 1 to 4 of R476; attempts that have timed out. -/
  | step (n : Nat) (tries : Nat)
  | phase (ph : Phase)
  /-- A failed start waits one second (R530). -/
  | retry
  /-- Phase A failed: the processor stays in reset. -/
  | dead
  | recovery
  | complete
  /-- OFF or SLEEP: no start runs. -/
  | idle
deriving DecidableEq, Repr, Inhabited

/-- A transition between power states in progress (R456 to R463). -/
structure Transition where
  target : PowerState
  source : PowerState
  port : Port
  /-- Step of R459, R460 or R463 that comes next. -/
  step : Nat
  /-- A Seal commit or a FALLBACK reaction has come while an entry to STANDBY from HOLD runs (R459). -/
  leave : Bool := false
deriving DecidableEq, Repr, Inhabited

/-- Why a rail request was made (R469). -/
inductive RailWhy where
  | raise
  | lower
  | loop
  | entry
  | preset
  /-- Step 1 of a start (R476). -/
  | wake
  | other
deriving DecidableEq, Repr, Inhabited

/-- A rail request outstanding (R468). Power Mode writes carry 0 mV. -/
structure RailReq where
  power : Option Bool
  mv : Nat
  why : RailWhy
  fails : Nat
  /-- Instant of the write frame of the present attempt. -/
  sent : Nat
deriving DecidableEq, Repr, Inhabited

/-- The commands of AVSBus that the device uses (R466). -/
inductive AvsKind where
  | voltage
  | powerMode
  | status
  | version
deriving DecidableEq, Repr, Inhabited

/-- A frame on AVSBus (R466): its rail select value, its command, the value written (none in a read), and whether the
guardian drives the bus. -/
structure AvsFrame where
  select : Nat
  kind : AvsKind
  value : Option Nat
  guardian : Bool
deriving DecidableEq, Repr, Inhabited

/-- An adaptive rail (R466 to R469). -/
structure Rail where
  on : Bool := false
  acked : Nat := 0
  req : Option RailReq := none
  /-- Larger target asked for while a request is outstanding (R148). -/
  next : Option (Nat × RailWhy) := none
  /-- A lower or headroom-loop request has failed: a new one follows at the next flip or loop update (R469). -/
  owed : Bool := false
deriving DecidableEq, Repr, Inhabited

/-- The state of a cellar bank (R454). -/
inductive BankState where
  | off
  | retained
  | on
deriving DecidableEq, Repr, Inhabited

/-- Power, start and wake. -/
structure Power where
  state : PowerState := .standby
  trans : Option Transition := none
  stage : Stage := .phase .a
  /-- Instant at which the present attempt of a step of R476, or the wait of R530 for a retry, began. -/
  stepAt : Nat := 0
  /-- The start is a wake from SLEEP (R464). -/
  wake : Bool := false
  /-- Domains on, bits as PWR_STATE.DOMAINS (R481); domains in their switch-on sequence. -/
  doms : BitVec 8 := 0x01
  rising : BitVec 8 := 0x0E
  rails : List Rail := [{ on := true, acked := 800 }, {}, {}, {}]
  /-- Frames on AVSBus, newest first (the model's own record of the bus). -/
  avs : List AvsFrame := []
  vin : Bool := true
  vio : Bool := true
  vphy : Bool := true
  resetN : Bool := true
  /-- T of die L and die R in mV (R470), and low updates in a row (R471). -/
  hrL : Int := 0
  hrR : Int := 0
  hrLowL : Nat := 0
  hrLowR : Nat := 0
  /-- Start and length of the running period of the headroom loop, die L and die R (R470, R630). -/
  hrTimL : Nat × Nat := (0, 100000000)
  hrTimR : Nat × Nat := (0, 100000000)
  /-- A wake has failed since the last successful start (R477). -/
  wakeFailed : Bool := false
  /-- The reference oscillator runs and the root PLL is locked (R479). -/
  refClock : Bool := true
  pll : Bool := true
  /-- PWR_RET and PWR_WAKE_CFG as latched at SLEEP entry step 4 (R481). -/
  retain : BitVec 8 := 0
  wakeCfg : Word := 3
  /-- Cellar banks 0 to 7 (R454, R288). -/
  banks : List BankState := List.replicate 8 .off
  /-- Levels of the straps MADDR0, MADDR1 and SYNCROLE (R589). -/
  straps : BitVec 3 := 0
  cpuRun : Bool := false
  cpuHalt : Bool := false
  /-- Count b of the latest heartbeat sent (R493, R614). -/
  hbCount : Byte := 0
  /-- Instant of the latest heartbeat sent since the start, and the time to the next, which a later write to
  SAF_HB_CFG.PERIOD does not change; none before phase D (R493, R531). -/
  hbSent : Option (Nat × Nat) := none
  /-- The start followed a guardian restart (source 0x14). -/
  restarted : Bool := false
  /-- Step of R500 that a relighting waits in: 0 none, 2 rails 2 and 3 are being set. -/
  relightStep : Nat := 0
deriving DecidableEq, Repr, Inhabited

/-! ### Guardian -/

/-- The pair states of R483. -/
inductive PairState where
  | opened
  | closing
  | closed
  | opening
  | discrepancy
deriving DecidableEq, Repr, Inhabited

/-- A dual-contact input (R482, R483). -/
structure Pair where
  state : PairState := .opened
  /-- Accepted levels of the two channels; true is closed. -/
  c1 : Bool := false
  c2 : Bool := false
  /-- The channel whose change began CLOSING or OPENING: true is the second. -/
  first : Bool := false
  /-- Start and length of the discrepancy timer. -/
  timer : Option (Nat × Nat) := none
deriving DecidableEq, Repr, Inhabited

/-- A high-side output (R486 to R491). -/
structure Output where
  cmd : Bool := false
  rb : Bool := false
  ovl : Bool := false
  /-- Start and length of the pending off-demand (PO1 only). -/
  offDemand : Option (Nat × Nat) := none
  /-- Off-pulse in progress; its result is to be discarded. -/
  pulse : Bool := false
  discard : Bool := false
  /-- The first reading of the pulse has been taken (R490). -/
  taken : Bool := false
  /-- The pulse has ended and the second reading is still to come. -/
  verify : Bool := false
  /-- Instant at which the latest pulse began, and its width, which a later write to SAF_TEST_CFG.WIDTH does not
  change. -/
  began : Nat := 0
  width : Nat := 0
deriving DecidableEq, Repr, Inhabited

/-- The guardian die (R482 to R500, R520). -/
structure Guard where
  sia : Pair := {}
  sib : Pair := {}
  po1 : Output := {}
  po2 : Output := {}
  /-- The period counter of the off-pulse tests (R489, R630): start and length of a period of it, and the length of those
  that follow. -/
  testAt : Nat := 0
  testLen : Nat := 5000000000
  testNext : Nat := 5000000000
  /-- Heartbeat watch (R493, R494). -/
  armed : Bool := false
  lastBeat : Byte := 0
  badBeats : Nat := 0
  goodBeats : Nat := 0
  action : Bool := false
  /-- Start and length of the miss deadline. -/
  hbTimer : Option (Nat × Nat) := none
  /-- A HALT has been signalled (R493). -/
  haltTold : Bool := false
  /-- Instant of the miss after which a restart is due (R494). -/
  restartAt : Option Nat := none
  /-- Source 0x76 is to be reported (R495). -/
  hbReport : Bool := false
  faLevel : Bool := false
  /-- Start and length of the running half period of FAULT_ALIVE (R496). -/
  faTimer : Option (Nat × Nat) := none
  /-- The latest edge of FAULT_ALIVE, while its comparison is still to come (R497). -/
  faEdgeAt : Option Nat := none
  faDiffs : Nat := 0
  faLatched : Bool := false
  /-- DARKHOLD persists after its causes until PO1 reads on (R499). -/
  darkWait : Bool := false
  /-- Discrepancies found in SLEEP, to be reported at the next start (R484). -/
  sleepDisc : List Nat := []
  /-- Forced channels and heartbeat block of SAF_INJ (R517): those of its latest write, the CK_AON cycle of that write,
  and what of the fields before it still acts in that cycle. -/
  inj : BitVec 5 := 0
  injAt : Nat := 0
  injWas : BitVec 5 := 0
deriving DecidableEq, Repr, Inhabited

/-! ### Fault collector -/

/-- A record of the fault log (R513): its eight words. -/
abbrev LogRecord := List Word

/-- The fault collector (R501 to R516). -/
structure Faults where
  fallback : Bool := false
  dark : Bool := false
  halt : Bool := false
  degraded : Bool := false
  /-- Sources whose events latched FALLBACK, DARK since its last clear (R508). -/
  fbBy : List Nat := []
  darkBy : List Nat := []
  /-- The latest comparison found the kill line of die L, die R different, or CK_AON out of range (R503). -/
  killDiffL : Bool := false
  killDiffR : Bool := false
  aonOff : Bool := false
  /-- Open windows: source to start (time base) and count (R505). -/
  windows : Tab (Nat × Nat) := []
  /-- Log sequence number of the newest record, buffer (oldest first) and ring in flash (newest first). -/
  logHead : Nat := 0
  buffer : List LogRecord := []
  ring : List LogRecord := []
  /-- Where the next record goes in the ring of 32,768 (R513). -/
  ringPos : Nat := 0
  /-- Log sequence numbers of the records in flash that hold an uncorrectable error (R524). -/
  logBad : List Nat := []
  /-- Reports of the running step that the fault arbiter has not yet ordered. -/
  reports : List FaultReport := []
  /-- The injected event of the running step that the fault arbiter has not yet taken (R516). -/
  injected : Option FaultReport := none
  /-- Sources of the latest CK_FAB cycle with an event, and that cycle (R501). -/
  flash : BitVec 128 := 0
  flashAt : Nat := 0
deriving DecidableEq, Repr, Inhabited

/-! ### Boot -/

/-- The state of an image slot (R542). -/
inductive ImageState where
  | empty
  | writing
  | invalid
  | valid
deriving DecidableEq, Repr, Inhabited

/-- The role of an image slot (R542). -/
inductive ImageRole where
  | none
  | active
  | pending
  | trial
deriving DecidableEq, Repr, Inhabited

/-- An image slot as the boot record holds it (R554). -/
structure ImageSlot where
  state : ImageState := .empty
  role : ImageRole := .none
  version : Word := 0
  secver : Nat := 0
deriving DecidableEq, Repr, Inhabited

/-- An open update session of a target (R539 to R541). -/
structure Session where
  size : Nat
  /-- Words written, by word index. -/
  words : List (Nat × Word)
  /-- Words in the program buffer, not yet in flash, oldest first. -/
  buffer : List (Nat × Word)
  erasing : Bool
deriving DecidableEq, Repr, Inhabited

/-- The settings record as the device uses it (R544). -/
structure Settings where
  setver : Nat
  seq : Nat
  coef : Tab (Int × Nat)
  trims : Tab (BitVec 9)
  failed : Tab Bool
  failedAttic : Tab Bool
  attic : Tab Attic
  mask : Tab (BitVec 3)
  /-- VERSION of the firmware that wrote the copy (R544). -/
  version : Word := 0
  /-- The copy matches its CRC-32C (R545). -/
  intact : Bool := true
deriving DecidableEq, Repr, Inhabited

/-- A copy of the boot record (R522, R530, R542, R553): its sequence number, the starts since manufacture and the roles
of the four image slots. -/
structure BootRecord where
  seq : Nat := 0
  starts : Nat := 0
  roles : List ImageRole := [.active, .none, .active, .none]
  /-- The copy is valid (R524, R530). -/
  intact : Bool := true
deriving DecidableEq, Repr, Inhabited

/-- A customer-area operation in progress (R552). -/
inductive CustOp where
  | read
  | erase
  | program
deriving DecidableEq, Repr, Inhabited

/-- The one-time-programmable memory (R379, R428, R526, R547, R613). -/
structure Otp where
  uid : BitVec 64 := 0
  speed : Nat := 800
  bin : BitVec 16 := 0
  /-- Life-cycle code of R554. -/
  lc : Nat := 2
  /-- Public keys of slots 0 to 3: x and y, if programmed. -/
  keys : List (Option (Nat × Nat)) := [none, none, none, none]
  revoked : BitVec 4 := 0
  fwsec : Nat := 0
  plsec : Nat := 0
  /-- CRC-32C of each region block, and monitor sensitivity k_G (R379). -/
  blockCrc : List Word := List.replicate 16 0
  kG : List Nat := List.replicate 16 32768
  /-- Factory OFS and GAIN of region converter G, input i at 16 * G + i (R428). -/
  adc : Tab (Int × Nat) := []
  goldenCrc : Word := 0
  /-- AVSBus rail selects and Power Mode values of the factory record (R466, R536). -/
  railSel : List Nat := [0, 0, 0, 0]
  pmOn : Nat := 0
  pmOff : Nat := 0
deriving DecidableEq, Repr, Inhabited

/-- Boot, plate, update, life-cycle, self-test and customer area. -/
structure Boot where
  otp : Otp := {}
  /-- Flash, bytes that are not 0xFF (R522), without the settings, fault-log and boot-record partitions, whose contents are
  the copies and the ring. -/
  flash : List Host.Cell := []
  /-- Aligned 8-byte words of the flash with an uncorrectable error (R524). -/
  flashBad : List Nat := []
  /-- The two copies of the boot record (R522). -/
  recA : Option BootRecord := some {}
  recB : Option BootRecord := none
  /-- Firmware A, firmware B, plate A, plate B. -/
  slots : List ImageSlot := [{ role := .active }, {}, { role := .active }, {}]
  plate : Option Plate := none
  fwSlot : Nat := 0
  fwTrial : Bool := false
  fwVersion : Word := 0
  fwSetver : Nat := 0
  plSlot : Nat := 0
  plTrial : Bool := false
  recovery : Bool := false
  /-- Slot that failed first, which an update in recovery writes (R532). -/
  failedFirst : Nat := 0
  /-- Open sessions of the two targets (R539). -/
  sessionFw : Option Session := none
  sessionPl : Option Session := none
  copyA : Option Settings := none
  copyB : Option Settings := none
  /-- Copy in use: false A, true B. -/
  copyUsed : Bool := false
  defaults : Bool := false
  migrated : Bool := false
  jobs : List FlashJob := []
  nonce : BitVec 64 := 0
  cust : Option CustOp := none
  /-- Byte offset in the customer area of the operation in progress. -/
  custAt : Nat := 0
  /-- The customer buffer holds the result of a read with an uncorrectable error (R524). -/
  custBad : Bool := false
  /-- Groups of the running self-test. -/
  bist : Option (BitVec 8) := none
  starts : Nat := 0
deriving DecidableEq, Repr, Inhabited

/-! ### Check-value units and counters -/

/-- A running scan (R561): next address, bytes left, value and count at its start. -/
structure ChkScan where
  addr : Nat
  left : Nat
  saved : Word
  savedCount : Word
deriving DecidableEq, Repr, Inhabited

/-- A record of the command sampler (R575), with its sequence number. -/
structure SampleRecord where
  seq : Nat
  words : List Word
deriving DecidableEq, Repr, Inhabited

/-- The command sampler (R574 to R577). -/
structure Sampler where
  seq : Nat := 0
  held : List SampleRecord := []
  /-- Eligible commands since the last sample. -/
  tally : Nat := 0
deriving DecidableEq, Repr, Inhabited

/-- The answer to the latest register request (R23). -/
structure Answer where
  port : Port
  path : Path
  status : Status
  value : Word
deriving DecidableEq, Repr, Inhabited

/-- What happened in one CK_FAB cycle that a later command of the same cycle must respect, by register key (DEDUCED,
log 79). -/
structure SameCycle where
  /-- The cycle that the rest speaks of. -/
  cycle : Nat := 0
  /-- Event bits that hardware set in it (R19). -/
  flags : Tab Word := []
  /-- Bits of software-written fields that hardware updated in it (R22). -/
  fields : Tab Word := []
  /-- Keys of the start bits that software has written with 1 while they read 1 (R21). -/
  ones : List Nat := []
  /-- Pixels whose FAULT cause hardware has set in it (R357). -/
  faults : List Nat := []
  /-- Domains whose switch-on sequence ended in it, bits as PWR_STATE.DOMAINS (R288). -/
  rose : BitVec 8 := 0
  /-- The port whose request the arbiter began to serve in it (R49). -/
  chosen : Option Port := none
deriving DecidableEq, Repr, Inhabited

/-! ### The test access port -/

/-- The states of the controller of IEEE 1149.1 (R606). -/
inductive TapState where
  | reset
  | idle
  | selectDr
  | captureDr
  | shiftDr
  | exit1Dr
  | pauseDr
  | exit2Dr
  | updateDr
  | selectIr
  | captureIr
  | shiftIr
  | exit1Ir
  | pauseIr
  | exit2Ir
  | updateIr
deriving DecidableEq, Repr, Inhabited

/-- The test access port (R606): the level of TRST_N, low while the land is open, the controller, the instruction and
the cells of the boundary-scan register, the one next to TDI first. -/
structure Tap where
  trstN : Bool := false
  st : TapState := .reset
  ir : TapInstr := .bypass
  /-- The stages of the instruction register and of the boundary-scan register that shift, the stage of the latter that
  drives the lands, and the bypass bit. -/
  irBits : List Bool := []
  cells : List Bool := List.replicate 15 false
  driven : List Bool := List.replicate 15 false
  byp : Bool := false
deriving DecidableEq, Repr, Inhabited

/-! ### The whole machine -/

/-- The state of the block. -/
structure State where
  /-- Model time in units of 100 ps, and the instant at which the time base of R45 was cleared. -/
  now : Nat
  tbStart : Nat
  /-- Free values drawn so far (the model's own field). -/
  free : Nat
  /-- The register file: values that differ from the reset value, by register key. -/
  regs : Tab Word
  /-- Bulk window and cellar, bytes that are not 0. -/
  mem : List Host.Cell
  /-- Aligned 8-byte words with an uncorrectable error (R629). -/
  ecc : List Nat
  portA : PortState
  portB : PortState
  /-- Owner of each semaphore (R284). -/
  sems : List (Option Port)
  /-- Port that wins the next tie (R49). -/
  nextTie : Port
  /-- Instant until which the arbiter serves its last request (R275), and the memory slot that this request writes
  (R216). -/
  arbFree : Nat
  writing : Option Nat
  /-- What hardware did in the latest CK_FAB cycle in which it did something (R19, R22, R288). -/
  cyc : SameCycle
  linkA : Link
  linkB : Link
  comp : Comp
  scan : Scan
  /-- Captured flip records of port A and port B (R58). -/
  frecA : Option FlipRecord
  frecB : Option FlipRecord
  diag : Diag
  cal : Cal
  adc : Adc
  power : Power
  guard : Guard
  faults : Faults
  boot : Boot
  /-- Running scans of CHK0 to CHK3. -/
  scans : List (Option ChkScan)
  sampler : Sampler
  answer : Option Answer
  tap : Tap
  /-- Commands that wait, first in first out. -/
  pending : List Instr
deriving DecidableEq, Repr

/-- The machine right after the register reset of a start (R529, R612): step 4 of R476 is done, phase A
of R530 comes next. The values the manual does not give are those of log entries 2, 5, 6 and 7. -/
def State.reset : State where
  now := 0
  tbStart := 0
  free := 0
  regs := []
  mem := []
  ecc := []
  portA := {}
  portB := {}
  sems := List.replicate 16 none
  nextTie := .A
  arbFree := 0
  writing := none
  cyc := {}
  linkA := {}
  linkB := {}
  comp := {}
  scan := {}
  frecA := none
  frecB := none
  diag := {}
  cal := {}
  adc := {}
  power := {}
  guard := {}
  faults := {}
  boot := {}
  scans := [none, none, none, none]
  sampler := {}
  answer := none
  tap := {}
  pending := []

end Sys2Proof.Machine
end

