-- ==== Sys2Proof/Machine/Ops.lean ====
section
/-! DEFINITION. The named operations over the state that every meaning shares: sparse tables, memory,
ports and links by name, and model time. -/

namespace Sys2Proof.Machine

/-! ### Sparse tables -/

/-- The value at key `i`; an unlisted key reads as `d`. -/
def tabGet {α : Type} (d : α) : Tab α → Nat → α
  | [], _ => d
  | (k, v) :: t, i => if k = i then v else tabGet d t i

/-- `t` without an entry at key `i`. -/
def tabErase {α : Type} (i : Nat) : Tab α → Tab α
  | [] => []
  | (k, w) :: t => if k = i then tabErase i t else (k, w) :: tabErase i t

/-- `t` with the entry `v` at key `i`, in order of keys. -/
def tabPut {α : Type} (i : Nat) (v : α) : Tab α → Tab α
  | [] => [(i, v)]
  | (k, w) :: t =>
    if i < k then (i, v) :: (k, w) :: t
    else if i = k then (i, v) :: t
    else (k, w) :: tabPut i v t

/-- `t` with `v` at key `i`, in canonical form: writing what an unlisted key reads as removes the entry. -/
def tabSet {α : Type} [DecidableEq α] (d : α) (t : Tab α) (i : Nat) (v : α) : Tab α :=
  if v = d then tabErase i t else tabPut i v t

/-- The canonical form above key `lo`: keys strictly rise from `lo` and no value equals `d`. -/
def tabWfFrom {α : Type} [DecidableEq α] (d : α) : Nat → Tab α → Bool
  | _, [] => true
  | lo, (k, v) :: t => decide (lo ≤ k) && decide (v ≠ d) && tabWfFrom d (k + 1) t

/-- The canonical form of a sparse table. -/
def tabWf {α : Type} [DecidableEq α] (d : α) (t : Tab α) : Bool := tabWfFrom d 0 t

/-- Keys strictly rise from `lo`, whatever the values. -/
def tabRisesFrom {α : Type} : Nat → Tab α → Bool
  | _, [] => true
  | lo, (k, _) :: t => decide (lo ≤ k) && tabRisesFrom (k + 1) t

/-- The entries whose key satisfies `p`. -/
def tabFilter {α : Type} (p : Nat → Bool) : Tab α → Tab α
  | [] => []
  | (k, v) :: t => if p k then (k, v) :: tabFilter p t else tabFilter p t

/-! ### Memory (bulk window and cellar) -/

/-- What a byte that nothing has written reads as: a domain's switch-on wipes its memory to 0 (R465,
R529) (DEDUCED, log 33). -/
def memDefault : Byte := 0

/-- The canonical form of the memory. -/
def Memory.wf (m : List Host.Cell) : Bool := tabWf memDefault m

def memByte (m : List Host.Cell) (a : Nat) : Byte := tabGet memDefault m a

def memSet (m : List Host.Cell) (a : Nat) (b : Byte) : List Host.Cell := tabSet memDefault m a b

/-- Byte `i` of a word, byte 0 lowest (R7). -/
def byteOf (w : Word) (i : Nat) : Byte := w.extractLsb' (8 * i) 8

/-- The word of four bytes, low byte first (R7). -/
def wordOf (b0 b1 b2 b3 : Byte) : Word := b3 ++ b2 ++ b1 ++ b0

/-- Bytes of a word in ascending order of address (R7). -/
def bytesOfWord (w : Word) : List Byte := [byteOf w 0, byteOf w 1, byteOf w 2, byteOf w 3]

def bytesOfWords (ws : List Word) : List Byte := ws.flatMap bytesOfWord

/-- The words that a byte sequence holds, low byte first; a last part word is filled with 0. -/
def wordsOfBytes : List Byte → List Word
  | b0 :: b1 :: b2 :: b3 :: t => wordOf b0 b1 b2 b3 :: wordsOfBytes t
  | [b0, b1, b2] => [wordOf b0 b1 b2 0]
  | [b0, b1] => [wordOf b0 b1 0 0]
  | [b0] => [wordOf b0 0 0 0]
  | [] => []

def memWord (m : List Host.Cell) (a : Nat) : Word :=
  wordOf (memByte m a) (memByte m (a + 1)) (memByte m (a + 2)) (memByte m (a + 3))

/-- `m` with the bytes `bs` stored from address `a` upward. -/
def memStore (m : List Host.Cell) (a : Nat) : List Byte → List Host.Cell
  | [] => m
  | b :: bs => memStore (memSet m a b) (a + 1) bs

def memSetWord (m : List Host.Cell) (a : Nat) (w : Word) : List Host.Cell := memStore m a (bytesOfWord w)

def memSetWords (m : List Host.Cell) (a : Nat) : List Word → List Host.Cell
  | [] => m
  | w :: ws => memSetWords (memSetWord m a w) (a + 4) ws

/-- `n` bytes from address `a` upward. -/
def memBytes (m : List Host.Cell) (a n : Nat) : List Byte := (List.range n).map fun i => memByte m (a + i)

def bulkBase : Nat := 0x01000000
def bulkSize : Nat := 0x00800000
def cellarBase : Nat := 0x03000000
def cellarSize : Nat := 0x00080000

/-- A page of layer memory is 4 KiB (R205). -/
def pageSize : Nat := 4096

/-! ### Words and fields -/

/-- Field of `width` bits from bit `lsb`, as a number. -/
def field (w : Word) (lsb width : Nat) : Nat := (w.toNat >>> lsb) % 2 ^ width

/-- `w` with the field of `width` bits from bit `lsb` set to `v`. -/
def setField (w : Word) (lsb width v : Nat) : Word :=
  let m : Word := BitVec.ofNat 32 ((2 ^ width - 1) <<< lsb)
  (w &&& ~~~m) ||| (BitVec.ofNat 32 (v <<< lsb) &&& m)

def bit (w : Word) (i : Nat) : Bool := w.getLsbD i

def bitWord (i : Nat) : Word := BitVec.ofNat 32 (1 <<< i)

def boolNat (b : Bool) : Nat := if b then 1 else 0

def word (n : Nat) : Word := BitVec.ofNat 32 n

/-- The sum of `b 2^i` over a list of flags, flag 0 lowest. -/
def packBits : List Bool → Nat
  | [] => 0
  | b :: t => boolNat b + 2 * packBits t

/-- Addition that saturates at `2^width - 1` (R20). -/
def satAdd (width a b : Nat) : Nat := min (a + b) (2 ^ width - 1)

/-- A signed number of `width` bits from its bits. -/
def signedOf (width n : Nat) : Int := if n % 2 ^ width < 2 ^ (width - 1) then ((n % 2 ^ width : Nat) : Int)
  else ((n % 2 ^ width : Nat) : Int) - (2 ^ width : Nat)

/-- The bits of a signed number, `width` of them. -/
def bitsOf (width : Nat) (z : Int) : Nat := (z % (2 ^ width : Nat)).toNat

/-- Insertion sort of numbers. -/
def insertNat (x : Nat) : List Nat → List Nat
  | [] => [x]
  | y :: t => if x ≤ y then x :: y :: t else y :: insertNat x t

def sortNats : List Nat → List Nat
  | [] => []
  | x :: t => insertNat x (sortNats t)

/-- `l` with `x` among its elements once. -/
def addNat (x : Nat) (l : List Nat) : List Nat := if l.contains x then l else x :: l

/-- Element `i` replaced by `f` of it. -/
def modifyAt {α : Type} (f : α → α) : Nat → List α → List α
  | _, [] => []
  | 0, x :: t => f x :: t
  | i + 1, x :: t => x :: modifyAt f i t

/-! ### Parts of the state by name -/

def portIx : Port → Nat
  | .A => 0
  | .B => 1

def otherPort : Port → Port
  | .A => .B
  | .B => .A

def dieIx : Die → Nat
  | .L => 0
  | .R => 1

/-- Die of region G (R11). -/
def dieOf (g : Nat) : Die := if g < 8 then .L else .R

/-- The port with index `p`. -/
def portOf (p : Nat) : Port := if p = 0 then .A else .B

def State.port (s : State) : Port → PortState
  | .A => s.portA
  | .B => s.portB

def State.setPort (s : State) : Port → PortState → State
  | .A, x => { s with portA := x }
  | .B, x => { s with portB := x }

def State.onPort (s : State) (p : Port) (f : PortState → PortState) : State := s.setPort p (f (s.port p))

def State.link (s : State) : Port → Link
  | .A => s.linkA
  | .B => s.linkB

def State.setLink (s : State) : Port → Link → State
  | .A, x => { s with linkA := x }
  | .B, x => { s with linkB := x }

def State.onLink (s : State) (p : Port) (f : Link → Link) : State := s.setLink p (f (s.link p))

def State.onComp (s : State) (f : Comp → Comp) : State := { s with comp := f s.comp }
def State.onScan (s : State) (f : Scan → Scan) : State := { s with scan := f s.scan }
def State.onDiag (s : State) (f : Diag → Diag) : State := { s with diag := f s.diag }
def State.onCal (s : State) (f : Cal → Cal) : State := { s with cal := f s.cal }
def State.onAdc (s : State) (f : Adc → Adc) : State := { s with adc := f s.adc }
def State.onPower (s : State) (f : Power → Power) : State := { s with power := f s.power }
def State.onGuard (s : State) (f : Guard → Guard) : State := { s with guard := f s.guard }
def State.onFaults (s : State) (f : Faults → Faults) : State := { s with faults := f s.faults }
def State.onBoot (s : State) (f : Boot → Boot) : State := { s with boot := f s.boot }

def State.slot (s : State) (k : Nat) : SlotState := s.comp.slots.getD k {}

def State.onSlot (s : State) (k : Nat) (f : SlotState → SlotState) : State :=
  s.onComp fun c => { c with slots := modifyAt f k c.slots }

def State.region (s : State) (g : Nat) : CalRegion := s.cal.regions.getD g {}

def State.onRegion (s : State) (g : Nat) (f : CalRegion → CalRegion) : State :=
  s.onCal fun c => { c with regions := modifyAt f g c.regions }

def State.conv (s : State) (n : Nat) : Conv := s.adc.convs.getD n {}

def State.onConv (s : State) (n : Nat) (f : Conv → Conv) : State :=
  s.onAdc fun a => { a with convs := modifyAt f n a.convs }

def State.rail (s : State) (k : Nat) : Rail := s.power.rails.getD k {}

def State.onRail (s : State) (k : Nat) (f : Rail → Rail) : State :=
  s.onPower fun w => { w with rails := modifyAt f k w.rails }

/-! ### Power and clock domains -/

/-- Bit of a domain in PWR_STATE.DOMAINS (R481). -/
def domBit : Domain → Nat
  | .core => 0
  | .pipe => 1
  | .bulk => 2
  | .cellar => 3
  | .phyA => 4
  | .phyB => 5
  | .arrL => 6
  | .arrR => 7

/-- A domain is on: its switch-on sequence has ended and its switch-off sequence has not begun (R288). -/
def State.domOn (s : State) (d : Domain) : Bool := s.power.doms.getLsbD (domBit d)

/-- The array domain of a die. -/
def arrDomain : Die → Domain
  | .L => .arrL
  | .R => .arrR

def phyDomain : Port → Domain
  | .A => .phyA
  | .B => .phyB

/-- The control die runs: step 4 of R476 is done (R631). Before it no request is served. -/
def State.controlOn (s : State) : Bool :=
  match s.power.stage with
  | .phase _ => true
  | .dead => true
  | .recovery => true
  | .complete => true
  | _ => false

/-! ### Time (log 2) -/

/-- Model time units (100 ps) in a CK_FAB cycle, a tick, a CK_CORE cycle, a CK_AON cycle, a
microsecond and a millisecond (R43, R3) (DESIGN CHOICE, log 2). -/
def fabCycle : Nat := 64
def tickLen : Nat := 40
def coreCycle : Nat := 16
def aonCycle : Nat := 2500
def usec : Nat := 10000
def msec : Nat := 10000000

/-- The time base of R45: CK_FAB cycles since it was cleared. -/
def State.timeBase (s : State) : Nat := ((s.now - s.tbStart) / fabCycle) % 2 ^ 64

/-! ### Free values (log 3) -/

/-- The next free value, and the state with it drawn (DESIGN CHOICE, log 3). -/
def State.draw (s : State) : Word × State := (Config.freeWord s.free, { s with free := s.free + 1 })

end Sys2Proof.Machine
end

