-- ==== Sys2Proof/Machine/Crc.lean ====
section
/-! DEFINITION. The check values of R555: CRC-32 (also of packets, R253), CRC-32C (also of R61, R143,
R178, R184), CRC-16/CCITT and CRC-8. A running value is the shift register before the final XOR (R556). -/

namespace Sys2Proof.Machine

/-- `n` shifts of a reflected register. -/
def crcShiftR (poly : Word) : Nat → Word → Word
  | 0, c => c
  | n + 1, c => crcShiftR poly n (if c.getLsbD 0 then (c >>> 1) ^^^ poly else c >>> 1)

/-- `n` shifts of an unreflected register of `width` bits. -/
def crcShiftL (poly : Word) (width : Nat) : Nat → Word → Word
  | 0, c => c
  | n + 1, c =>
    crcShiftL poly width n
      (((if c.getLsbD (width - 1) then (c <<< 1) ^^^ poly else c <<< 1)) &&& word (2 ^ width - 1))

/-- The algorithms of R555, by ALG. -/
def crcStep (alg : Nat) (c : Word) (b : Byte) : Word :=
  match alg with
  | 0 => crcShiftR 0xEDB88320 8 (c ^^^ b.zeroExtend 32)
  | 1 => crcShiftR 0x82F63B78 8 (c ^^^ b.zeroExtend 32)
  | 2 => crcShiftL 0x1021 16 8 (c ^^^ (b.zeroExtend 32 <<< 8))
  | _ => crcShiftL 0x1D 8 8 (c ^^^ b.zeroExtend 32)

def crcWidth : Nat → Nat
  | 0 => 32
  | 1 => 32
  | 2 => 16
  | _ => 8

def crcInit : Nat → Word
  | 0 => 0xFFFFFFFF
  | 1 => 0xFFFFFFFF
  | 2 => 0xFFFF
  | _ => 0xFF

def crcFinal : Nat → Word
  | 0 => 0xFFFFFFFF
  | 1 => 0xFFFFFFFF
  | 2 => 0
  | _ => 0xFF

/-- The running value after a byte sequence. -/
def crcFeed (alg : Nat) : Word → List Byte → Word
  | c, [] => c
  | c, b :: bs => crcFeed alg (crcStep alg c b) bs

/-- The check value of a byte sequence. -/
def crcOf (alg : Nat) (bs : List Byte) : Word := crcFeed alg (crcInit alg) bs ^^^ crcFinal alg

/-- CRC-32C with initial value and final XOR of all ones. -/
def crc32c (bs : List Byte) : Word := crcOf 1 bs

/-- The CRC-32 of a packet (R253), over its header and payload. -/
def packetCrc (header : Word) (payload : List Word) : Word := crcOf 0 (bytesOfWords (header :: payload))

end Sys2Proof.Machine
end

