-- ==== Sys2Proof/Machine/LineCode.lean ====
section
/-! DEFINITION. The line code of a lane (R298 to R301), how packets and training sets stand on it (R251, R302,
R306), the transmit lane (R303, R307, R312) and the test patterns (R328). -/

namespace Sys2Proof.Machine

/-! ### The 8b/10b code (R298) -/

/-- Clause 36, 5b/6b: abcdei of D.x at negative running disparity (PRESUMED, log 82). -/
def sixOf : List (BitVec 6) :=
  [0b100111, 0b011101, 0b101101, 0b110001, 0b110101, 0b101001, 0b011001, 0b111000,
   0b111001, 0b100101, 0b010101, 0b110100, 0b001101, 0b101100, 0b011100, 0b010111,
   0b011011, 0b100011, 0b010011, 0b110010, 0b001011, 0b101010, 0b011010, 0b111010,
   0b110011, 0b100110, 0b010110, 0b110110, 0b001110, 0b101110, 0b011110, 0b101011]

/-- Clause 36, 3b/4b: fghj of D.x.y at negative running disparity (PRESUMED, log 82). -/
def fourOf : List (BitVec 4) := [0b1011, 0b1001, 0b0101, 0b1100, 0b1101, 0b1010, 0b0110, 0b1110]

/-- The ones of a bit vector. -/
def ones {w : Nat} (b : BitVec w) : Nat := ((List.range w).filter b.getLsbD).length

/-- Running disparity after a sub-block: positive after more ones than zeros, 000111 or 0011; negative after more
zeros, 111000 or 1100; else unchanged. -/
def rdSix (rd : Bool) (b : BitVec 6) : Bool :=
  if 3 < ones b ∨ b = 0b000111 then true else if ones b < 3 ∨ b = 0b111000 then false else rd

def rdFour (rd : Bool) (b : BitVec 4) : Bool :=
  if 2 < ones b ∨ b = 0b0011 then true else if ones b < 2 ∨ b = 0b1100 then false else rd

/-- Running disparity after a code group. -/
def rdAfter (rd : Bool) (g : CodeGroup) : Bool := rdFour (rdSix rd (g.extractLsb' 4 6)) (g.extractLsb' 0 4)

/-- The six-bit sub-block of D.x. -/
def encodeSix (rd : Bool) (x : Nat) : BitVec 6 :=
  let b := sixOf.getD x 0
  if rd && (decide (ones b ≠ 3) || decide (x = 7)) then ~~~b else b

/-- The four-bit sub-block of D.x.y at the running disparity after the first sub-block: D.x.A7 avoids runs of five. -/
def encodeFour (rd : Bool) (x y : Nat) : BitVec 4 :=
  if y = 7 then
    if rd then if x = 11 ∨ x = 13 ∨ x = 14 then 0b1000 else 0b0001
    else if x = 17 ∨ x = 18 ∨ x = 20 then 0b0111 else 0b1110
  else
    let b := fourOf.getD y 0
    if rd && (decide (ones b ≠ 2) || decide (y = 3)) then ~~~b else b

/-- The special code groups of R299 at negative running disparity; at positive it is the complement (PRESUMED,
log 82). -/
def specials : List (Sym × CodeGroup) :=
  [(.comma, 0b0011111010), (.marker, 0b0011110011), (.sop, 0b1101101000), (.eop, 0b1011101000),
   (.err, 0b0111101000)]

/-- The code group of a symbol at a running disparity (R298, R299). -/
def encodeSym (rd : Bool) : Sym → CodeGroup
  | .data b =>
    let x := b.toNat % 32
    let six := encodeSix rd x
    six ++ encodeFour (rdSix rd six) x (b.toNat / 32)
  | s =>
    let g := ((specials.find? fun e => e.1 = s).map (·.2)).getD 0
    if rd then ~~~g else g

/-- The code groups of symbols in order. -/
def encodeSyms : Bool → List Sym → List CodeGroup
  | _, [] => []
  | rd, s :: t =>
    let g := encodeSym rd s
    g :: encodeSyms (rdAfter rd g) t

/-- The symbol of a code group at a running disparity; none where the tables give none (R300): no entry, the entry of
the other disparity, or a special code group not listed in R299. -/
def symAt (rd : Bool) (g : CodeGroup) : Option Sym :=
  match specials.find? fun e => (if rd then ~~~e.2 else e.2) = g with
  | some e => some e.1
  | none =>
    let six := g.extractLsb' 4 6
    match (List.range 32).find? fun x => encodeSix rd x = six with
    | none => none
    | some x =>
      match (List.range 8).find? fun y => encodeFour (rdSix rd six) x y = g.extractLsb' 0 4 with
      | none => none
      | some y => some (.data (BitVec.ofNat 8 (x + 32 * y)))

/-- A code group as a lane receives it, with the running disparity after it; a first code group is taken at either
disparity (R301). -/
def decodeGroup (disp : Option Bool) (g : CodeGroup) : Option Sym × Bool :=
  match disp with
  | some rd => (symAt rd g, rdAfter rd g)
  | none =>
    match symAt false g with
    | some s => (some s, rdAfter false g)
    | none => (symAt true g, rdAfter true g)

/-! ### Receiving -/

/-- A symbol reaches the lane's deframer: a marker is removed (R303), K27.7 opens a packet, and outside a packet a
K28.5 opens what may become a training set (R306). -/
def Lane.hold (o : Option Sym) (x : Lane) : Lane :=
  match o with
  | some .marker => x
  | some .sop => { x with framed := true, held := [o] }
  | some .comma => if x.framed then { x with held := o :: x.held } else { x with held := [o] }
  | o => { x with held := o :: x.held }

/-- The latest 16 code groups are valid, and at least four of them are K28.5 (R313). -/
def lockSeen (l : List Bool) : Bool := decide (l.length = 16) && decide (4 ≤ (l.filter id).length)

/-- Four code violations lie within 64 code groups (R313); the list holds the groups since each. -/
def tooMany (viols : List Nat) : Bool :=
  viols.any fun a => decide (4 ≤ (viols.filter fun b => decide (a ≤ b) && decide (b < a + 64)).length)

/-- Symbol lock after code violations: the groups since each of the latest ones, and whether the lock is lost (R313). -/
def Lane.violated (viols : List Nat) (x : Lane) : Lane × Bool :=
  let lost := x.lock && tooMany viols
  ({ x with
      viols := if lost then [] else viols.filter (decide <| · < 64)
      recent := if lost then [] else x.recent
      lock := x.lock && !lost
      aligned := x.aligned && !lost }, lost)

/-- The latest symbol of a packet in progress is a K28.5. -/
def Lane.commaInside (x : Lane) : Bool := x.framed && decide (x.held.head? = some (some .comma))

/-- The lane after one code group, and whether it has lost symbol lock (R298, R300, R301, R304, R313). A K28.5 inside a
packet shows itself to be no pad when no K29.7 follows it. -/
def Lane.takeGroup (g : CodeGroup) (x : Lane) : Lane × Bool :=
  let (o, rd) := decodeGroup x.disp (if x.inverted then ~~~g else g)
  let ok := o.isSome
  let isMarker := decide (o = some .marker)
  let stray := x.commaInside && !isMarker && decide (o ≠ some .eop)
  let viols := (if ok then [] else [0]) ++ (if stray then [1] else []) ++ x.viols.map (· + 1)
  let recent := if ok then (decide (o = some .comma) :: x.recent).take 16 else []
  let n := x.since.map (· + 1)
  ({ x.hold o with
      disp := some rd, recent := recent
      cv := x.cv + boolNat (!ok) + boolNat stray
      lock := x.lock || lockSeen recent
      since := if isMarker then some 0 else n
      gap := if isMarker then n else x.gap }).violated viols

/-- The lane after `n` code groups K28.5 of the right disparity, and whether it has lost symbol lock: inside a packet
each K28.5 that another follows is a violation. -/
def Lane.takeIdle (n : Nat) (x : Lane) : Lane × Bool :=
  if n = 0 then (x, false)
  else
    let before := x.commaInside
    let strays := if x.framed then n - 1 + boolNat before else 0
    let viols := (if x.framed then ((List.range (min n 64)).drop 1) ++ (if before then [n] else []) else [])
      ++ x.viols.map (· + n)
    let recent := (List.replicate (min n 16) true ++ x.recent).take 16
    ({ x with
        disp := x.disp.map fun d => if n % 2 = 0 then d else !d
        recent := recent, cv := x.cv + strays
        lock := x.lock || lockSeen recent
        since := x.since.map (· + n)
        held := if x.framed then List.replicate n (some Sym.comma) ++ x.held else [some .comma] }).violated viols

/-- The lane after what it gets, and whether it has lost symbol lock on the way. -/
def Lane.takeAll : List LineItem → Lane → Lane × Bool
  | [], x => (x, false)
  | i :: t, x =>
    let (y, a) := match i with
      | .idle n => x.takeIdle n
      | .group g => x.takeGroup g
    let (z, b) := Lane.takeAll t y
    (z, a || b)

/-! ### Packets on columns (R251, R302) -/

/-- The bytes that stand on several lanes, column by column (R302). -/
def unstripe {α : Type} : Nat → List (List α) → List α
  | 0, _ => []
  | n + 1, ls => ls.filterMap List.head? ++ unstripe n (ls.map List.tail)

/-- Byte `i` to lane `i mod n`, lane by lane (R302), the lanes left over in the last column padded with `pad`. -/
def stripe {α : Type} (n : Nat) (pad : α) (l : List α) : List (List α) :=
  let columns := (l.length + n - 1) / n
  (List.range n).map fun k => (List.range columns).map fun c => l.getD (c * n + k) pad

/-- What a lane holds between the K27.7 and the K29.7 of a packet. -/
def frameBody (x : Lane) : Option (List (Option Sym)) :=
  match x.held with
  | some .eop :: t => if x.framed then some (t.reverse.drop 1) else none
  | _ => none

/-- The bytes of symbols, none where one is not a byte. -/
def bytesOfSyms : List (Option Sym) → Option (List Byte)
  | [] => some []
  | some (.data b) :: t => (bytesOfSyms t).map (b :: ·)
  | _ :: _ => none

/-- The words of little-endian bytes (R252), none where bytes are left over. -/
def wordsOfLine : List Byte → Option (List Word)
  | [] => some []
  | a :: b :: c :: d :: t =>
    (wordsOfLine t).map ((word (a.toNat + 2 ^ 8 * b.toNat + 2 ^ 16 * c.toNat + 2 ^ 24 * d.toNat)) :: ·)
  | _ => none

/-- A packet as the receiver of a port sees it (R251, R252): its header word, payload and CRC-32. -/
structure RxPacket where
  header : Word
  payload : List Word
  crc : Word
deriving DecidableEq, Repr, Inhabited

/-- The pads at the end of the last data column (R302): fewer than one for each lane. -/
def dropPads : Nat → List (Option Sym) → List (Option Sym)
  | n + 1, some .comma :: t => dropPads n t
  | _, l => l

/-- The bytes that stand on the lanes of a packet (R302): lanes that have joined in its course carry bytes from their
joining on (R327). None where a lane's framing is missing, or its end stands in another column. -/
def lineBytes (lanes : List Lane) : Option (List (Option Sym)) :=
  let bodies := lanes.map frameBody
  let l := (lanes.zip bodies).filterMap fun (x, b) => b.map fun b => (x.joined, b)
  let n := l.foldl (fun a (j, b) => max a (j + b.length)) 0
  let late := l.foldl (fun a (j, _) => max a j) 0
  if bodies.any (·.isNone) ∨ l.any fun (j, b) => decide (j + b.length ≠ n) then none
  else
    some (unstripe late ((l.filter fun (j, _) => decide (j = 0)).map (·.2.take late))
      ++ unstripe (n - late) (l.map fun (j, b) => b.drop (late - j)))

/-- The lanes that carry the last data column of a packet (R302): not those that joined after it (R327). -/
def lastColumn (lanes : List Lane) : List Lane :=
  lanes.filter fun x => decide (x.joined = 0) || decide (frameBody x ≠ some [])

/-- The packet on the active lanes, in ascending logical order (R302); none where a violation, a K30.7, a K28.5 other
than as pad, or missing framing has damaged it (R254, R300). -/
def packetOf (lanes : List Lane) : Option RxPacket :=
  match lineBytes lanes with
  | none => none
  | some l =>
    match bytesOfSyms (dropPads ((lastColumn lanes).length - 1) l.reverse).reverse with
    | none => none
    | some bs =>
      match wordsOfLine bs with
      | some (h :: w :: ws) =>
        let t := w :: ws
        some { header := h, payload := t.dropLast, crc := t.getLastD 0 }
      | _ => none

/-- The lane's last column before the K29.7 carries a K28.5. -/
def Lane.padded (x : Lane) : Bool :=
  match frameBody x with
  | some l => decide (l.getLast? = some (some .comma))
  | none => false

/-- How many of the lanes of the last data column, the last ones, carry a pad in it (R302). -/
def padCount (lanes : List Lane) : Nat := min (lanes.length - 1) (lanes.reverse.takeWhile Lane.padded).length

/-- The latest K28.5 of lane `i` of the last data column is no pad: it stands before a lane with data, or no K29.7 has
come (R300). Those before it have counted already. -/
def strayComma (lanes : List Lane) (i : Nat) : Option Nat :=
  let x := lanes.getD i {}
  if x.padded && decide (i + padCount lanes < lanes.length) then some 1
  else if x.commaInside then some 0
  else none

/-- The header word of a packet (R252). -/
def headerWord (type seq len : Nat) : Word := word (type + 16 * seq + 65536 * len)

/-- The symbols of an outward packet (R251, R253): on the one transmit lane every column is one symbol. -/
def TxPacket.symbols (k : TxPacket) : List Sym :=
  let h := headerWord k.type k.seq k.payload.length
  .sop :: ((bytesOfWords (h :: k.payload ++ [packetCrc h k.payload])).map Sym.data ++ [.eop])

/-! ### Training sets (R306) -/

/-- A training set after its K28.5 and D21.5. -/
structure TrainSet where
  code : Byte
  lane : Byte
  b4 : Byte
  b5 : Byte
  b6 : Byte
deriving DecidableEq, Repr, Inhabited

/-- The check byte: the bitwise NOT of the XOR of bytes 2 to 6. -/
def TrainSet.check (t : TrainSet) : Byte := ~~~(t.code ^^^ t.lane ^^^ t.b4 ^^^ t.b5 ^^^ t.b6)

/-- The eight symbols of a training set. -/
def TrainSet.symbols (t : TrainSet) : List Sym :=
  .comma :: ([0xB5, t.code, t.lane, t.b4, t.b5, t.b6, t.check].map Sym.data)

/-- The reserved bits of a training set are 0 and its code is one that the host sends, CAP or ACK (R306, R307)
(DEDUCED, log 25). -/
def TrainSet.known (t : TrainSet) : Bool :=
  decide (t.lane.toNat < 4) &&
    match t.code.toNat with
    | 1 => decide (t.b4.toNat < 32) && decide (t.b5.toNat < 8)
    | 5 => true
    | _ => false

/-- What a lane has received since its latest K28.5 outside a packet: nothing, a training set, or one to be ignored
(R306, R307). -/
inductive SetSeen where
  | nothing
  | damaged
  | set (t : TrainSet)
deriving DecidableEq, Repr, Inhabited

/-- A data code group after K28.5 always starts a training set (R306). -/
def Lane.trainSet (x : Lane) : SetSeen :=
  if x.framed || !x.lock || decide (x.held.length < 2) then .nothing
  else
    match bytesOfSyms (x.held.reverse.drop 1) with
    | some [a, c, l, b4, b5, b6, k] =>
      let t : TrainSet := { code := c, lane := l, b4 := b4, b5 := b5, b6 := b6 }
      if a = 0xB5 ∧ k = t.check ∧ t.known then .set t else .damaged
    | _ => .damaged

/-- The CAP of the device (R306, R308, R310): lane number 0, all five rates, four receive lanes (DEDUCED, log 25). -/
def deviceCap : TrainSet := { code := 1, lane := 0, b4 := 0x1F, b5 := 4, b6 := 1 }

/-! ### The transmit lane (R303, R307, R312) -/

/-- Duration of a code group at a rate code (R310). -/
def groupTime : Nat → Nat
  | 0 => 80
  | 1 => 40
  | 2 => 32
  | 3 => 20
  | _ => 16

/-- The symbol of column `c` of a marker interval between packets: K28.3 after 16,383 other columns (R303), a CAP
every 1,024 code groups while training (R312), else K28.5. -/
def columnSym (mode : TxMode) (c : Nat) : Sym :=
  if c % 16384 = 16383 then .marker
  else if mode = .train then deviceCap.symbols.getD (c % 1024) .comma
  else .comma

/-- The symbols of a stretch of the lane; none in electrical idle. -/
def TxItem.symbols : TxItem → List Sym
  | .run m c n => (List.range n).map fun i => columnSym m (c + i)
  | .syms l => l
  | .quiet => []

/-- The stretch put behind those sent before it. -/
def addRun (m : TxMode) (c n : Nat) : List TxItem → List TxItem
  | .run m' c' n' :: t => if m' = m then .run m c' (n' + n) :: t else .run m c n :: .run m' c' n' :: t
  | l => .run m c n :: l

/-- `n` columns between packets. -/
def TxLane.idle (gt n : Nat) (x : TxLane) : TxLane :=
  if n = 0 then x
  else
    { x with at_ := x.at_ + n * gt, col := (x.col + n) % 16384, line := addRun x.mode x.col n x.line }

/-- The lane has sent what it sends by itself up to `now`. -/
def TxLane.fill (gt now : Nat) (x : TxLane) : TxLane :=
  if x.mode = .quiet then { x with at_ := max x.at_ now }
  else x.idle gt ((now + gt - 1 - x.at_) / gt)

/-- The lane changes what it sends by itself. A restart begins a marker interval. -/
def TxLane.enter (gt now : Nat) (m : TxMode) (x : TxLane) : TxLane :=
  let y := x.fill gt now
  if m = .quiet then { y with mode := .quiet, at_ := now, col := 0
                              line := if x.mode = .quiet then y.line else .quiet :: y.line }
  else if x.mode = .quiet then { y with mode := m, col := 0 }
  else { y with mode := m }

/-- The lane is cut off: nothing more is sent. -/
def TxLane.halt (now : Nat) (x : TxLane) : TxLane :=
  { x with mode := .quiet, at_ := now, col := 0, line := .quiet :: x.line }

/-- Symbols with a marker put in after every 16,383 other columns (R303); the column after them comes first. -/
def withMarkers : Nat → List Sym → Nat × List Sym
  | c, [] => (c, [])
  | c, s :: t =>
    if c = 16383 then
      let (d, l) := withMarkers 1 t
      (d, .marker :: s :: l)
    else
      let (d, l) := withMarkers (c + 1) t
      (d, s :: l)

/-- Columns between packets before symbols may begin: the rest of a CAP, one idle column after a packet (R303), and for
a training set those up to a marker that falls due within it (R307). -/
def TxLane.wait (ts : Bool) (x : TxLane) : Nat :=
  let a := if x.mode = .train ∧ 0 < x.col % 1024 ∧ x.col % 1024 < 8 then 8 - x.col % 1024
    else match x.line with
      | .syms _ :: _ => if x.col = 16383 then 2 else 1
      | .run _ 16383 1 :: .syms _ :: _ => 1
      | _ => 0
  let c := (x.col + a) % 16384
  if ts ∧ 16375 < c then a + (16384 - c) else a

/-- Symbols put on the lane at `now`, or when what stands before them has been sent. -/
def TxLane.put (gt now : Nat) (ts : Bool) (l : List Sym) (x : TxLane) : TxLane :=
  let y := x.fill gt now
  if y.mode = .quiet then y
  else
    let z := y.idle gt (y.wait ts)
    let (c, m) := withMarkers z.col l
    { z with at_ := z.at_ + m.length * gt, col := c, line := .syms m :: z.line }

/-- What has been put on the lane and begins at `now` or later is taken back, down from the end `e` and the column `c`
behind it: the line, its end and column, and the symbols taken back, oldest first. -/
def takeBack (gt now : Nat) : List TxItem → Nat → Nat → List (List Sym) → List TxItem × Nat × Nat × List (List Sym)
  | .syms l :: t, e, c, acc =>
    if now + l.length * gt ≤ e then
      takeBack gt now t (e - l.length * gt) ((c + 16384 - l.length % 16384) % 16384) (l.filter (decide <| · ≠ .marker) :: acc)
    else (.syms l :: t, e, c, acc)
  | .run m c' n :: t, e, c, acc =>
    if now + n * gt ≤ e then takeBack gt now t (e - n * gt) c' acc else (.run m c' n :: t, e, c, acc)
  | l, e, c, acc => (l, e, c, acc)

/-- A training set put on the lane at `now`: it goes before the packets that have not begun (R307, R322), after the
training sets put there before. -/
def TxLane.putSet (gt now : Nat) (l : List Sym) (x : TxLane) : TxLane :=
  let y := x.fill gt now
  if y.mode = .quiet then y
  else
    let (line, e, c, later) := takeBack gt now y.line y.at_ y.col []
    let isPacket (k : List Sym) : Bool := decide (k.head? = some .sop)
    let z : TxLane := { y with line := line, at_ := e, col := c }
    let sets := (later.filter (!isPacket ·) ++ [l]).foldl (fun w k => w.put gt now true k) z
    (later.filter isPacket).foldl (fun w k => w.put gt now false k) sets

/-- The code groups on the lane since it last was electrically idle: its running disparity starts negative (PRESUMED,
log 82). -/
def TxLane.groups (x : TxLane) : List CodeGroup :=
  encodeSyms false ((x.line.takeWhile fun i => i ≠ .quiet).reverse.flatMap TxItem.symbols)

/-! ### Test patterns (R328) -/

/-- The two taps of PRBS7, PRBS15, PRBS23 and PRBS31. -/
def prbsTaps : Nat → Nat × Nat
  | 0 => (7, 6)
  | 1 => (15, 14)
  | 2 => (23, 18)
  | _ => (31, 28)

/-- The next bit of a pattern after the bits before it, newest first; ITU-T O.150 sends all but PRBS7 inverted
(PRESUMED, log 82). -/
def prbsNext (pat : Nat) (hist : List Bool) : Bool :=
  let (a, b) := prbsTaps pat
  (hist.getD (a - 1) false ^^ hist.getD (b - 1) false) ^^ decide (pat ≠ 0)

/-- `n` further bits of a pattern. -/
def prbsRunOn (pat : Nat) : Nat → List Bool → List Bool
  | 0, h => h
  | n + 1, h => prbsRunOn pat n (prbsNext pat h :: h.take 30)

/-- The generator's first `n` bits, newest first, from bits all 1, or all 0 where the pattern is inverted, which all 1
would lock up (DESIGN CHOICE, log 82). -/
def prbsSequence (pat n : Nat) : List Bool :=
  (List.range n).foldl (fun h _ => prbsNext pat h :: h) (List.replicate 31 (decide (pat = 0)))

/-- Bits received before the checker has locked: it locks on 64 consecutive error-free bits. A constant input that meets
the recurrence locks it too (DESIGN CHOICE, log 82). -/
def Lane.seekPattern (pat : Nat) : List Bool → Lane → Lane
  | [], x => x
  | b :: t, x =>
    if 64 ≤ x.streak then x
    else
      Lane.seekPattern pat t
        { x with streak := if b = prbsNext pat x.bits then x.streak + 1 else 0, bits := b :: x.bits.take 30 }

/-- Bits received while the checker counts: the bits of its own pattern after them, and the bit errors. -/
def prbsCompare (pat : Nat) : List Bool → List Bool → List Bool × Nat
  | [], h => (h, 0)
  | b :: t, h =>
    let e := prbsNext pat h
    let (r, n) := prbsCompare pat t (e :: h.take 30)
    (r, n + (if b = e then 0 else 1))

def prbsCount (pat : Nat) : List PrbsRun → List Bool → List Bool × Nat
  | [], h => (h, 0)
  | .good n :: t, h => prbsCount pat t (prbsRunOn pat n h)
  | .bits l :: t, h =>
    let (r, n) := prbsCompare pat l h
    let (r', m) := prbsCount pat t r
    (r', n + m)

/-! ### Equaliser (R319) -/

/-- The code with the widest eye, on a tie the lower one; none where no eye has been measured. -/
def widestEye (eyes : List Nat) : Option Nat :=
  let l := eyes.take 16
  let m := l.foldl max 0
  (List.range l.length).find? fun k => l.getD k 0 = m

end Sys2Proof.Machine
end

