-- ==== Sys2Proof/Machine/Operands.lean ====
section
/-! DEFINITION. The register map: every register row of the manual, where an address lies (R610, R611,
R620, R621), what a write may hold (R17, R18), and the register file over `State.regs`. -/

namespace Sys2Proof.Machine

/-- Access codes of R16. A bit of access W1S lies in a register whose row says RW. -/
inductive Access where
  | ro | rw | wo | w1c | rwl
deriving DecidableEq, Repr

/-- The registers of the map (R610 to R621), one name for each row of a register table; a row that stands
for several registers takes an index. -/
inductive Reg where
  | glbPart | glbStep | glbMapver | glbStrap | glbUidLo | glbUidHi | glbTimeLo | glbTimeHi
  | glbSpeed | glbBin | glbCpu | glbScratch
  | hptWhoami | hptPortState | hptEvent | hptLossTmo | hptAckTmo | hptEvtMask | hptMbStatus
  | hptBlkoffCnt | hptPktCnt | hptRetxCnt | hptEvtDrop | hptAbandon | hptAbandonCnt | hptIncomplete
  | hptSemAcq | hptSemRel | hptSemOwner | hptSemFailCnt | hptLossCnt
  | cmdArb | cmdQfill | cmdStream | cmdServed | cmdLref | cmdRefcnt
  | lnkCtrl | lnkStatus | lnkEvent | lnkCnt | lnkLanemap | lnkEqCfg | lnkEqState | lnkTxcfg
  | lnkErrCfg | lnkTmo | lnkLoop | lnkPrbs | lnkLcnt | lnkPrbsErr | lnkParkCnt | lnkSkew
  | lnkRejoin
  | lyrSlotCmd | lyrEvent | lyrLeasedCnt | lyrNslots | lyrFmt | lyrPal | lyrSzr | lyrSlotState
  | lyrSlotMap
  | szrStgOut | szrStgHstep | szrStgVstep | szrStgHinit | szrStgVinit | szrStgCtrl | szrOut
  | szrHstep | szrVstep | szrHinit | szrVinit | szrCtrl | szrBank | szrCtap | szrCload | szrCsel
  | szrCval
  | cmpStatus | cmpPhase | cmpFenceTmo | cmpCommit | cmpCommitCnt | cmpPassCnt | cmpEvent
  | cmpHeldCnt | cmpTmoCnt | cmpDiscardCnt | cmpStgFence | cmpStgFtarget | cmpStgSealCrc
  | cmpFenceSig | cmpCresSel | cmpCresSeq | cmpCresState | cmpClast | cmpPlate | cmpOps | cmpFence
  | cmpStgSlot | cmpStgSrc | cmpStgPos | cmpStgCtrl | cmpLyrSlot | cmpLyrSrc | cmpLyrPos
  | cmpLyrCtrl | cmpLyrSeq
  | prfStatus | prfClass | prfMismatch | prfMissCnt | prfPassSeq | prfStgOrg | prfStgSize
  | prfStgExp | prfOrg | prfSize | prfExp | prfSig
  | drvXover | drvFill | drvRefresh | drvBudgetPkg | drvBudgetDie | drvEvent | drvClipCnt
  | drvLastScale | drvPredPkg | drvPredDieL | drvPredDieR | drvIpk | drvFillCnt | drvBudgetReg
  | drvRgain | drvRgainEff | drvPredReg | drvPalStatus | drvPalDiscard | drvPal | drvApal
  | scnTmode | scnBlank | scnIfs | scnStatus | scnCycleLo | scnCycleHi | scnHold | scnSyncCtrl
  | scnSyncErr | scnSyncCnt | scnCamsyncCtrl | scnCamsyncOffset | scnEvent | scnPclampCnt | scnD2dL
  | scnD2dR | scnFrecSel | scnFrecSeq | scnFrecTimeLo | scnFrecTimeHi | scnFrecCommit | scnFrecMode
  | scnFrecScale | scnFrecStoreId | scnFrecMaskId | scnFrecSnapId | scnFrecDriveSig | scnFrecTrimId
  | scnFrecTemp | scnDiagCfg | scnDiagVth | scnDiagLim | scnDiagNpc
  | adcStatus | adcEvent | adcDropCfg | adcGrpMiss | adcSctl | adcSres | adcSraw | adcGrpCfg
  | adcGrpPhase | adcGrpCtl | adcGrpSeq | adcUcal | adcUcalStat | adcUcalTarget | adcGrpIn
  | adcGrpIn2 | adcUrg | adcGres | adcUcalCoef
  | calCtrl | calCfg | calStatus | calEvent | calFbCfg | calStoreState | calStoreId | calSave
  | calCmd | calResults | calCommitCnt | calEccCnt | calRstat | calRcova | calRcovb | calRcovc
  | calTrimId | calStep
  | pwrState | pwrReq | pwrEvent | pwrPhyCtrl | pwrRet | pwrWakeCfg | pwrWakeStat | pwrWakeCnt
  | pwrLastRefuse | pwrHrCfg | pwrHrT | pwrHrMin | pwrVcoreOfs | pwrRail | pwrRailCnt | pwrRefcnt
  | safStatus | safEvent | safInCfg | safPoCfg | safTestCfg | safFaCfg | safHbCfg | safTestCnt
  | safGrec | safInj
  | fltStatus | fltEvent | fltClear | fltFirst | fltFirstTimeLo | fltFirstTimeHi | fltLast | fltInj
  | fltInjCnt | fltLogHead | fltLogSel | fltLogLost | fltLogData | fltCond | fltMap | fltCnt
  | chkCfg | chkState | chkResult | chkCount | chkData8 | chkData16 | chkData32 | chkScanAddr
  | chkScanLen | chkScanCtl | chkStatus | chkScanRem
  | pmcCnt | pmcSel | pmcOvf | pmcSmpCfg | pmcSmpStatus | pmcSmpHead | pmcSmpDrop | pmcSmpSel
  | pmcSmpData
  | botStatus | botEvent | botResetCause | botReset | botStarts | botFwVer | botSetStat
  | botSlotver | botSlotst | botActivate | botConfirm | botPlateStat | botPlateCap | botPlateLock
  | botPlateVfl | botPlateVfr | botUpdStat | botUpdWords | botLcReq | botLcNonceLo | botLcNonceHi
  | botLcToken | botKeyCmd | botOtpStat | botKeyData | botBistCtl | botBistRes | botBistSig
  | botCustAddr | botCustCmd | botCustStat | botPop | botCustBuf
  | tilDiagStatus | tilDiagEvent | tilCntOpen | tilCntShort | tilCntLeak | tilCntSink
  | tilCntRejoin | tilProbeCnt | tilPabortCnt | tilCovSeq | tilCovLit | tilCovVer | tilCovUnv
  | tilCovMsk | tilCovAbn | tilMaskCmd | tilReadmit | tilPixsel | tilPixinfo | tilTileState
  | tilAdcCtl | tilAdcRes | tilAdcColsel | tilAdcStatus | tilAdcUrg | tilAdcTemp | tilAdcVled
  | tilSinkmap | tilId | tilPixmap
deriving DecidableEq, Repr

/-- The blocks of the register map (R610). -/
inductive Block where
  | glb | hpt | cmd | lnk | lyr | szr | cmp | prf | drv | scn | adc | cal | pwr | saf | flt | chk | pmc | bot | til
deriving DecidableEq, Repr

/-- Base address of a block (R610); of region 0 for the TIL space. -/
def Block.base : Block → Nat
  | .glb => 0x000000
  | .hpt => 0x010000
  | .cmd => 0x020000
  | .lnk => 0x030000
  | .lyr => 0x040000
  | .szr => 0x050000
  | .cmp => 0x060000
  | .prf => 0x070000
  | .drv => 0x080000
  | .scn => 0x090000
  | .adc => 0x0A0000
  | .cal => 0x0B0000
  | .pwr => 0x0C0000
  | .saf => 0x0D0000
  | .flt => 0x0E0000
  | .chk => 0x0F0000
  | .pmc => 0x100000
  | .bot => 0x110000
  | .til => 0x200000

/-- What a field must hold; any other value is a reserved encoding (R18). -/
inductive Limit where
  /-- The field of `width` bits at `lsb` holds `lo` to `hi`. -/
  | range (lsb width lo hi : Nat)
  /-- As `range`, in steps of `step` from 0. -/
  | multiple (lsb width lo hi step : Nat)
  /-- The whole register holds a signed number from `-bound` to `bound`. -/
  | signed (bound : Nat)
  /-- The field holds one of the codes. -/
  | codes (lsb width : Nat) (allowed : List Nat)
deriving DecidableEq, Repr

def Limit.ok (w : Word) : Limit → Bool
  | .range lsb width lo hi => let v := field w lsb width; decide (lo ≤ v) && decide (v ≤ hi)
  | .multiple lsb width lo hi step =>
    let v := field w lsb width; decide (lo ≤ v) && decide (v ≤ hi) && decide (v % step = 0)
  | .signed b => let z := signedOf 32 w.toNat; decide (-(b : Int) ≤ z) && decide (z ≤ (b : Int))
  | .codes lsb width l => l.contains (field w lsb width)

/-- The event codes of R570. -/
def pmcCodes : List Nat :=
  [0x00, 0x01, 0x02, 0x03, 0x04, 0x05, 0x06, 0x07, 0x08, 0x09, 0x10, 0x11, 0x12, 0x13, 0x14, 0x15,
   0x16, 0x17, 0x18, 0x19, 0x20, 0x21, 0x22, 0x28, 0x29, 0x30, 0x31, 0x32, 0x33, 0x34, 0x38, 0x39,
   0x40, 0x41, 0x48]

/-- One row of a register table. Register `(k, j)` of the row stands at
`base + off + stride * k + inner * j`, `k < count`, `j < each`. `mask` has the bits that are not
reserved; `lock` is the bit of BOT_PLATE_LOCK that locks an RWL register. -/
structure RegRow where
  blk : Block
  off : Nat
  acc : Access
  reset : Word := 0
  mask : Word := 0xFFFFFFFF
  stride : Nat := 0
  count : Nat := 1
  inner : Nat := 0
  each : Nat := 1
  perPort : Bool := false
  lock : Option Nat := none
  lims : List Limit := []
deriving DecidableEq, Repr

/-- The table row of each register: R59, R109, R150, R199, R203, R243, R245, R247, R296, R335, R373,
R375, R420, R450, R452, R480, R518, R520, R553, R578, R580, R613, R618 and R621, with the fields and
limits that those rules and their field tables give. -/
def Reg.row : Reg → RegRow
  | .glbPart => { blk := .glb, off := 0, acc := .ro, reset := 0x46581048 }
  | .glbStep => { blk := .glb, off := 4, acc := .ro, reset := 0x11111111 }
  | .glbMapver => { blk := .glb, off := 8, acc := .ro, reset := 0x10000 }
  | .glbStrap => { blk := .glb, off := 0xC, acc := .ro }
  | .glbUidLo => { blk := .glb, off := 0x10, acc := .ro }
  | .glbUidHi => { blk := .glb, off := 0x14, acc := .ro }
  | .glbTimeLo => { blk := .glb, off := 0x18, acc := .ro }
  | .glbTimeHi => { blk := .glb, off := 0x1C, acc := .ro }
  | .glbSpeed => { blk := .glb, off := 0x20, acc := .ro }
  | .glbBin => { blk := .glb, off := 0x24, acc := .ro }
  | .glbCpu => { blk := .glb, off := 0x28, acc := .ro }
  | .glbScratch => { blk := .glb, off := 0x2C, acc := .rw, perPort := true }
  | .hptWhoami => { blk := .hpt, off := 0, acc := .ro }
  | .hptPortState => { blk := .hpt, off := 4, acc := .ro }
  | .hptEvent => { blk := .hpt, off := 8, acc := .w1c, mask := 0x3F, perPort := true }
  | .hptLossTmo => { blk := .hpt, off := 0xC, acc := .rw, reset := 0xA, mask := 0xFF, lims := [.range 0 8 1 255] }
  | .hptAckTmo => { blk := .hpt, off := 0x10, acc := .rw, reset := 0x32, mask := 0x3FF, lims := [.range 0 10 10 1000] }
  | .hptEvtMask => { blk := .hpt, off := 0x14, acc := .rw, mask := 0x3F, perPort := true }
  | .hptMbStatus => { blk := .hpt, off := 0x18, acc := .ro, perPort := true }
  | .hptBlkoffCnt => { blk := .hpt, off := 0x1C, acc := .ro, perPort := true }
  | .hptPktCnt => { blk := .hpt, off := 0x20, acc := .ro, perPort := true }
  | .hptRetxCnt => { blk := .hpt, off := 0x24, acc := .ro, perPort := true }
  | .hptEvtDrop => { blk := .hpt, off := 0x28, acc := .ro, perPort := true }
  | .hptAbandon => { blk := .hpt, off := 0x2C, acc := .ro }
  | .hptAbandonCnt => { blk := .hpt, off := 0x30, acc := .ro }
  | .hptIncomplete => { blk := .hpt, off := 0x34, acc := .ro, stride := 4, count := 2 }
  | .hptSemAcq => { blk := .hpt, off := 0x40, acc := .wo, mask := 0xF }
  | .hptSemRel => { blk := .hpt, off := 0x44, acc := .wo, mask := 0xF }
  | .hptSemOwner => { blk := .hpt, off := 0x48, acc := .ro }
  | .hptSemFailCnt => { blk := .hpt, off := 0x4C, acc := .ro }
  | .hptLossCnt => { blk := .hpt, off := 0x50, acc := .ro }
  | .cmdArb => { blk := .cmd, off := 0, acc := .ro }
  | .cmdQfill => { blk := .cmd, off := 0x10, acc := .ro, stride := 0x10, count := 2 }
  | .cmdStream => { blk := .cmd, off := 0x14, acc := .ro, stride := 0x10, count := 2 }
  | .cmdServed => { blk := .cmd, off := 0x18, acc := .ro, stride := 0x10, count := 2 }
  | .cmdLref => { blk := .cmd, off := 0x1C, acc := .ro, stride := 0x10, count := 2 }
  | .cmdRefcnt => { blk := .cmd, off := 0x40, acc := .ro, stride := 4, count := 2 }
  | .lnkCtrl => { blk := .lnk, off := 0, acc := .rw, reset := 0x1041, mask := 0x1773, stride := 0x100, count := 2, lims := [.range 4 3 0 4, .range 8 3 0 4] }
  | .lnkStatus => { blk := .lnk, off := 4, acc := .ro, stride := 0x100, count := 2 }
  | .lnkEvent => { blk := .lnk, off := 8, acc := .w1c, mask := 0x1FF, stride := 0x100, count := 2 }
  | .lnkCnt => { blk := .lnk, off := 0xC, acc := .ro, stride := 0x100, count := 2 }
  | .lnkLanemap => { blk := .lnk, off := 0x10, acc := .ro, stride := 0x100, count := 2 }
  | .lnkEqCfg => { blk := .lnk, off := 0x14, acc := .rw, reset := 0x10101010, mask := 0x1F1F1F1F, stride := 0x100, count := 2 }
  | .lnkEqState => { blk := .lnk, off := 0x18, acc := .ro, stride := 0x100, count := 2 }
  | .lnkTxcfg => { blk := .lnk, off := 0x1C, acc := .rw, reset := 4, mask := 0x37, stride := 0x100, count := 2, lims := [.range 0 3 0 6, .range 4 2 0 2] }
  | .lnkErrCfg => { blk := .lnk, off := 0x20, acc := .rw, reset := 0x30A0010, mask := 0x3FFFFFF, stride := 0x100, count := 2, lims := [.range 0 8 1 255] }
  | .lnkTmo => { blk := .lnk, off := 0x24, acc := .rw, reset := 0x3E8, mask := 0xFFFF, stride := 0x100, count := 2, lims := [.range 0 16 100 10000] }
  | .lnkLoop => { blk := .lnk, off := 0x28, acc := .rw, mask := 0x1F, stride := 0x100, count := 2 }
  | .lnkPrbs => { blk := .lnk, off := 0x2C, acc := .rw, reset := 0x300, mask := 0x13F1, stride := 0x100, count := 2 }
  | .lnkLcnt => { blk := .lnk, off := 0x30, acc := .ro, stride := 0x100, count := 2, inner := 4, each := 4 }
  | .lnkPrbsErr => { blk := .lnk, off := 0x40, acc := .ro, stride := 0x100, count := 2, inner := 4, each := 4 }
  | .lnkParkCnt => { blk := .lnk, off := 0x50, acc := .ro, stride := 0x100, count := 2 }
  | .lnkSkew => { blk := .lnk, off := 0x54, acc := .ro, stride := 0x100, count := 2 }
  | .lnkRejoin => { blk := .lnk, off := 0x58, acc := .wo, mask := 0xF, stride := 0x100, count := 2 }
  | .lyrSlotCmd => { blk := .lyr, off := 0, acc := .wo, mask := 0x33F, lims := [.range 8 2 0 2] }
  | .lyrEvent => { blk := .lyr, off := 4, acc := .w1c, mask := 3 }
  | .lyrLeasedCnt => { blk := .lyr, off := 8, acc := .ro }
  | .lyrNslots => { blk := .lyr, off := 0xC, acc := .ro }
  | .lyrFmt => { blk := .lyr, off := 0x10, acc := .ro }
  | .lyrPal => { blk := .lyr, off := 0x14, acc := .ro }
  | .lyrSzr => { blk := .lyr, off := 0x18, acc := .ro, reset := 0x3FFFF }
  | .lyrSlotState => { blk := .lyr, off := 0x20, acc := .ro, stride := 4, count := 8 }
  | .lyrSlotMap => { blk := .lyr, off := 0x100, acc := .ro, stride := 4, count := 64 }
  | .szrStgOut => { blk := .szr, off := 0, acc := .rw, reset := 0x10001, mask := 0xFFF0FFF, stride := 0x40, count := 4, perPort := true, lims := [.range 0 12 1 4095, .range 16 12 1 4095] }
  | .szrStgHstep => { blk := .szr, off := 4, acc := .rw, reset := 0x10000, mask := 0x7FFFF, stride := 0x40, count := 4, perPort := true, lims := [.range 0 19 4096 262144] }
  | .szrStgVstep => { blk := .szr, off := 8, acc := .rw, reset := 0x10000, mask := 0x7FFFF, stride := 0x40, count := 4, perPort := true, lims := [.range 0 19 4096 262144] }
  | .szrStgHinit => { blk := .szr, off := 0xC, acc := .rw, stride := 0x40, count := 4, perPort := true, lims := [.signed 262144] }
  | .szrStgVinit => { blk := .szr, off := 0x10, acc := .rw, stride := 0x40, count := 4, perPort := true, lims := [.signed 262144] }
  | .szrStgCtrl => { blk := .szr, off := 0x14, acc := .rw, reset := 2, mask := 3, stride := 0x40, count := 4, perPort := true }
  | .szrOut => { blk := .szr, off := 0x100, acc := .ro, reset := 0x10001, stride := 0x40, count := 4 }
  | .szrHstep => { blk := .szr, off := 0x104, acc := .ro, reset := 0x10000, stride := 0x40, count := 4 }
  | .szrVstep => { blk := .szr, off := 0x108, acc := .ro, reset := 0x10000, stride := 0x40, count := 4 }
  | .szrHinit => { blk := .szr, off := 0x10C, acc := .ro, stride := 0x40, count := 4 }
  | .szrVinit => { blk := .szr, off := 0x110, acc := .ro, stride := 0x40, count := 4 }
  | .szrCtrl => { blk := .szr, off := 0x114, acc := .ro, reset := 2, stride := 0x40, count := 4 }
  | .szrBank => { blk := .szr, off := 0x200, acc := .ro, reset := 0x101, stride := 4, count := 4 }
  | .szrCtap => { blk := .szr, off := 0x300, acc := .rw, mask := 0x3FF03FF, stride := 4, count := 4, perPort := true }
  | .szrCload => { blk := .szr, off := 0x310, acc := .wo, mask := 0x333F, perPort := true }
  | .szrCsel => { blk := .szr, off := 0x314, acc := .rw, mask := 0x333F, perPort := true }
  | .szrCval => { blk := .szr, off := 0x320, acc := .ro, stride := 4, count := 4, perPort := true }
  | .cmpStatus => { blk := .cmp, off := 0, acc := .ro }
  | .cmpPhase => { blk := .cmp, off := 4, acc := .rw, reset := 0x927C, mask := 0xFFFF }
  | .cmpFenceTmo => { blk := .cmp, off := 8, acc := .rw, reset := 0x64, mask := 0x3FF, lims := [.range 0 10 1 1000] }
  | .cmpCommit => { blk := .cmp, off := 0xC, acc := .wo, mask := 0xFFFF1F7F, perPort := true }
  | .cmpCommitCnt => { blk := .cmp, off := 0x10, acc := .ro }
  | .cmpPassCnt => { blk := .cmp, off := 0x14, acc := .ro }
  | .cmpEvent => { blk := .cmp, off := 0x18, acc := .w1c, mask := 0xF }
  | .cmpHeldCnt => { blk := .cmp, off := 0x1C, acc := .ro }
  | .cmpTmoCnt => { blk := .cmp, off := 0x20, acc := .ro }
  | .cmpDiscardCnt => { blk := .cmp, off := 0x24, acc := .ro }
  | .cmpStgFence => { blk := .cmp, off := 0x28, acc := .rw, mask := 0xF, perPort := true }
  | .cmpStgFtarget => { blk := .cmp, off := 0x2C, acc := .rw, perPort := true }
  | .cmpStgSealCrc => { blk := .cmp, off := 0x30, acc := .rw, perPort := true }
  | .cmpFenceSig => { blk := .cmp, off := 0x34, acc := .wo, mask := 0xF }
  | .cmpCresSel => { blk := .cmp, off := 0x38, acc := .rw, mask := 0xF, perPort := true }
  | .cmpCresSeq => { blk := .cmp, off := 0x3C, acc := .ro, perPort := true }
  | .cmpCresState => { blk := .cmp, off := 0x40, acc := .ro, perPort := true }
  | .cmpClast => { blk := .cmp, off := 0x44, acc := .ro, perPort := true }
  | .cmpPlate => { blk := .cmp, off := 0x48, acc := .ro }
  | .cmpOps => { blk := .cmp, off := 0x4C, acc := .ro }
  | .cmpFence => { blk := .cmp, off := 0x80, acc := .rw, stride := 4, count := 16 }
  | .cmpStgSlot => { blk := .cmp, off := 0x100, acc := .rw, mask := 0x3F, stride := 0x20, count := 7, perPort := true }
  | .cmpStgSrc => { blk := .cmp, off := 0x104, acc := .rw, mask := 0xFFF0FFF, stride := 0x20, count := 7, perPort := true, lims := [.range 0 12 1 4095, .range 16 12 1 4095] }
  | .cmpStgPos => { blk := .cmp, off := 0x108, acc := .rw, stride := 0x20, count := 7, perPort := true }
  | .cmpStgCtrl => { blk := .cmp, off := 0x10C, acc := .rw, mask := 1, stride := 0x20, count := 7, perPort := true }
  | .cmpLyrSlot => { blk := .cmp, off := 0x200, acc := .ro, stride := 0x20, count := 7 }
  | .cmpLyrSrc => { blk := .cmp, off := 0x204, acc := .ro, stride := 0x20, count := 7 }
  | .cmpLyrPos => { blk := .cmp, off := 0x208, acc := .ro, stride := 0x20, count := 7 }
  | .cmpLyrCtrl => { blk := .cmp, off := 0x20C, acc := .ro, stride := 0x20, count := 7 }
  | .cmpLyrSeq => { blk := .cmp, off := 0x210, acc := .ro, stride := 0x20, count := 7 }
  | .prfStatus => { blk := .prf, off := 0, acc := .ro }
  | .prfClass => { blk := .prf, off := 4, acc := .ro }
  | .prfMismatch => { blk := .prf, off := 8, acc := .w1c, mask := 0xFFFF }
  | .prfMissCnt => { blk := .prf, off := 0xC, acc := .ro }
  | .prfPassSeq => { blk := .prf, off := 0x10, acc := .ro }
  | .prfStgOrg => { blk := .prf, off := 0x100, acc := .rw, mask := 0x1FF07FF, stride := 0x10, count := 16, perPort := true }
  | .prfStgSize => { blk := .prf, off := 0x104, acc := .rw, mask := 0x3FF0FFF, stride := 0x10, count := 16, perPort := true, lims := [.range 0 12 0 2048, .range 16 10 0 512] }
  | .prfStgExp => { blk := .prf, off := 0x108, acc := .rw, stride := 0x10, count := 16, perPort := true }
  | .prfOrg => { blk := .prf, off := 0x200, acc := .ro, stride := 0x10, count := 16 }
  | .prfSize => { blk := .prf, off := 0x204, acc := .ro, stride := 0x10, count := 16 }
  | .prfExp => { blk := .prf, off := 0x208, acc := .ro, stride := 0x10, count := 16 }
  | .prfSig => { blk := .prf, off := 0x20C, acc := .ro, stride := 0x10, count := 16 }
  | .drvXover => { blk := .drv, off := 0, acc := .rw, reset := 0x40, mask := 0xFF, lims := [.range 0 8 1 255] }
  | .drvFill => { blk := .drv, off := 4, acc := .rw, reset := 0x100, mask := 0x1FF, lims := [.range 0 9 0 256] }
  | .drvRefresh => { blk := .drv, off := 8, acc := .rw, reset := 4, mask := 0xFF, lims := [.range 0 8 1 255] }
  | .drvBudgetPkg => { blk := .drv, off := 0xC, acc := .rw, mask := 0xFFFF }
  | .drvBudgetDie => { blk := .drv, off := 0x10, acc := .rw }
  | .drvEvent => { blk := .drv, off := 0x14, acc := .w1c, mask := 0xF }
  | .drvClipCnt => { blk := .drv, off := 0x18, acc := .ro }
  | .drvLastScale => { blk := .drv, off := 0x1C, acc := .ro, reset := 0x400 }
  | .drvPredPkg => { blk := .drv, off := 0x20, acc := .ro }
  | .drvPredDieL => { blk := .drv, off := 0x24, acc := .ro }
  | .drvPredDieR => { blk := .drv, off := 0x28, acc := .ro }
  | .drvIpk => { blk := .drv, off := 0x2C, acc := .ro }
  | .drvFillCnt => { blk := .drv, off := 0x30, acc := .ro }
  | .drvBudgetReg => { blk := .drv, off := 0x40, acc := .rw, stride := 4, count := 8 }
  | .drvRgain => { blk := .drv, off := 0x80, acc := .rw, reset := 0x8000, mask := 0xFFFF, stride := 4, count := 16 }
  | .drvRgainEff => { blk := .drv, off := 0xC0, acc := .ro, reset := 0x8000, stride := 4, count := 16 }
  | .drvPredReg => { blk := .drv, off := 0x100, acc := .ro, stride := 4, count := 16 }
  | .drvPalStatus => { blk := .drv, off := 0x200, acc := .ro, perPort := true }
  | .drvPalDiscard => { blk := .drv, off := 0x204, acc := .wo, mask := 0xFF, perPort := true }
  | .drvPal => { blk := .drv, off := 0x1000, acc := .rw, mask := 0x1FFFF, stride := 0x400, count := 8, inner := 4, each := 256, perPort := true }
  | .drvApal => { blk := .drv, off := 0x3000, acc := .ro, stride := 0x400, count := 8, inner := 4, each := 256 }
  | .scnTmode => { blk := .scn, off := 0, acc := .rw, mask := 0xF }
  | .scnBlank => { blk := .scn, off := 4, acc := .rw, reset := 0x100, mask := 0x7FF }
  | .scnIfs => { blk := .scn, off := 8, acc := .rwl, reset := 0xFFFFFFFF, lock := some 0 }
  | .scnStatus => { blk := .scn, off := 0xC, acc := .ro, reset := 0x40000 }
  | .scnCycleLo => { blk := .scn, off := 0x10, acc := .ro }
  | .scnCycleHi => { blk := .scn, off := 0x14, acc := .ro }
  | .scnHold => { blk := .scn, off := 0x18, acc := .rw, reset := 8, mask := 0xFF, lims := [.range 0 8 1 255] }
  | .scnSyncCtrl => { blk := .scn, off := 0x20, acc := .rw, mask := 0x3F }
  | .scnSyncErr => { blk := .scn, off := 0x24, acc := .ro }
  | .scnSyncCnt => { blk := .scn, off := 0x28, acc := .ro }
  | .scnCamsyncCtrl => { blk := .scn, off := 0x30, acc := .rw, reset := 0x1000, mask := 0xFFF3, lims := [.range 8 8 1 255] }
  | .scnCamsyncOffset => { blk := .scn, off := 0x34, acc := .rw, mask := 0x3FFFF }
  | .scnEvent => { blk := .scn, off := 0x40, acc := .w1c, mask := 0x3F }
  | .scnPclampCnt => { blk := .scn, off := 0x44, acc := .ro }
  | .scnD2dL => { blk := .scn, off := 0x48, acc := .ro }
  | .scnD2dR => { blk := .scn, off := 0x4C, acc := .ro }
  | .scnFrecSel => { blk := .scn, off := 0x100, acc := .rw, mask := 0xF, perPort := true }
  | .scnFrecSeq => { blk := .scn, off := 0x104, acc := .ro, perPort := true }
  | .scnFrecTimeLo => { blk := .scn, off := 0x108, acc := .ro, perPort := true }
  | .scnFrecTimeHi => { blk := .scn, off := 0x10C, acc := .ro, perPort := true }
  | .scnFrecCommit => { blk := .scn, off := 0x110, acc := .ro, perPort := true }
  | .scnFrecMode => { blk := .scn, off := 0x114, acc := .ro, perPort := true }
  | .scnFrecScale => { blk := .scn, off := 0x118, acc := .ro, perPort := true }
  | .scnFrecStoreId => { blk := .scn, off := 0x11C, acc := .ro, perPort := true }
  | .scnFrecMaskId => { blk := .scn, off := 0x120, acc := .ro, perPort := true }
  | .scnFrecSnapId => { blk := .scn, off := 0x124, acc := .ro, perPort := true }
  | .scnFrecDriveSig => { blk := .scn, off := 0x128, acc := .ro, perPort := true }
  | .scnFrecTrimId => { blk := .scn, off := 0x140, acc := .ro, stride := 4, count := 16, perPort := true }
  | .scnFrecTemp => { blk := .scn, off := 0x180, acc := .ro, stride := 4, count := 8, perPort := true }
  | .scnDiagCfg => { blk := .scn, off := 0x200, acc := .rwl, reset := 0x640837, mask := 0x3FFFFF7, lock := some 1, lims := [.range 4 4 1 15, .range 8 8 1 255, .range 16 10 50 1000] }
  | .scnDiagVth => { blk := .scn, off := 0x204, acc := .rwl, reset := 0x64329608, lock := some 2 }
  | .scnDiagLim => { blk := .scn, off := 0x208, acc := .rwl, reset := 0x100, mask := 0x1FFFF, lock := some 3, lims := [.range 0 17 1 65536] }
  | .scnDiagNpc => { blk := .scn, off := 0x20C, acc := .ro, reset := 0xBF }
  | .adcStatus => { blk := .adc, off := 0, acc := .ro }
  | .adcEvent => { blk := .adc, off := 4, acc := .w1c, mask := 0xFF }
  | .adcDropCfg => { blk := .adc, off := 8, acc := .rw, reset := 8, mask := 0xFF, lims := [.range 0 8 1 255] }
  | .adcGrpMiss => { blk := .adc, off := 0xC, acc := .ro }
  | .adcSctl => { blk := .adc, off := 0x10, acc := .rw, mask := 0xF71, stride := 0x10, count := 4, lims := [.range 8 4 0 8] }
  | .adcSres => { blk := .adc, off := 0x14, acc := .ro, stride := 0x10, count := 4 }
  | .adcSraw => { blk := .adc, off := 0x18, acc := .ro, stride := 0x10, count := 4 }
  | .adcGrpCfg => { blk := .adc, off := 0x50, acc := .rw, mask := 0x3FFFFF, lims := [.range 20 2 0 2] }
  | .adcGrpPhase => { blk := .adc, off := 0x54, acc := .rw, mask := 0x7FFF00F7 }
  | .adcGrpCtl => { blk := .adc, off := 0x58, acc := .rw, mask := 1 }
  | .adcGrpSeq => { blk := .adc, off := 0x5C, acc := .ro }
  | .adcUcal => { blk := .adc, off := 0x60, acc := .wo, mask := 0x373, lims := [.range 8 2 0 2] }
  | .adcUcalStat => { blk := .adc, off := 0x64, acc := .ro }
  | .adcUcalTarget => { blk := .adc, off := 0x68, acc := .rw, reset := 0xF000, mask := 0xFFFF, lims := [.range 0 16 1024 65024] }
  | .adcGrpIn => { blk := .adc, off := 0x70, acc := .rw, stride := 4, count := 2, lims := [.range 0 4 0 11, .range 4 4 0 11, .range 8 4 0 11, .range 12 4 0 11, .range 16 4 0 11, .range 20 4 0 11, .range 24 4 0 11, .range 28 4 0 11] }
  | .adcGrpIn2 => { blk := .adc, off := 0x78, acc := .rw, mask := 0x7777 }
  | .adcUrg => { blk := .adc, off := 0x80, acc := .ro, stride := 4, count := 8 }
  | .adcGres => { blk := .adc, off := 0x100, acc := .ro, stride := 4, count := 20 }
  | .adcUcalCoef => { blk := .adc, off := 0x200, acc := .ro, reset := 0x80000000, stride := 0x20, count := 4, inner := 4, each := 6 }
  | .calCtrl => { blk := .cal, off := 0, acc := .rw, reset := 0xFFFF0001, mask := 0xFFFF0001 }
  | .calCfg => { blk := .cal, off := 4, acc := .rwl, reset := 0x5082110, mask := 0xF0FFFFF, lock := some 4, lims := [.range 8 8 1 255, .range 16 4 1 15, .range 24 4 1 15] }
  | .calStatus => { blk := .cal, off := 8, acc := .ro }
  | .calEvent => { blk := .cal, off := 0xC, acc := .w1c, mask := 0x1FF }
  | .calFbCfg => { blk := .cal, off := 0x10, acc := .rw, reset := 0x14800A, lims := [.range 0 8 1 255, .range 8 8 1 255, .range 16 16 1 65535] }
  | .calStoreState => { blk := .cal, off := 0x14, acc := .ro }
  | .calStoreId => { blk := .cal, off := 0x18, acc := .ro }
  | .calSave => { blk := .cal, off := 0x1C, acc := .rw, reset := 0x3C, mask := 0xFF, lims := [.range 0 8 1 255] }
  | .calCmd => { blk := .cal, off := 0x20, acc := .wo, mask := 3 }
  | .calResults => { blk := .cal, off := 0x24, acc := .ro }
  | .calCommitCnt => { blk := .cal, off := 0x28, acc := .ro }
  | .calEccCnt => { blk := .cal, off := 0x2C, acc := .ro }
  | .calRstat => { blk := .cal, off := 0x100, acc := .ro, stride := 0x20, count := 16 }
  | .calRcova => { blk := .cal, off := 0x104, acc := .ro, stride := 0x20, count := 16 }
  | .calRcovb => { blk := .cal, off := 0x108, acc := .ro, stride := 0x20, count := 16 }
  | .calRcovc => { blk := .cal, off := 0x10C, acc := .ro, stride := 0x20, count := 16 }
  | .calTrimId => { blk := .cal, off := 0x110, acc := .ro, stride := 0x20, count := 16 }
  | .calStep => { blk := .cal, off := 0x114, acc := .ro, stride := 0x20, count := 16 }
  | .pwrState => { blk := .pwr, off := 0, acc := .ro, reset := 2 }
  | .pwrReq => { blk := .pwr, off := 4, acc := .wo, mask := 0xF, lims := [.range 0 4 1 4] }
  | .pwrEvent => { blk := .pwr, off := 8, acc := .w1c, mask := 0x7F }
  | .pwrPhyCtrl => { blk := .pwr, off := 0xC, acc := .rw, mask := 3 }
  | .pwrRet => { blk := .pwr, off := 0x10, acc := .rw, mask := 0xFF }
  | .pwrWakeCfg => { blk := .pwr, off := 0x14, acc := .rw, reset := 3, mask := 0xF3, lims := [.range 4 2 0 2, .range 6 2 0 2] }
  | .pwrWakeStat => { blk := .pwr, off := 0x18, acc := .ro }
  | .pwrWakeCnt => { blk := .pwr, off := 0x1C, acc := .ro }
  | .pwrLastRefuse => { blk := .pwr, off := 0x20, acc := .ro }
  | .pwrHrCfg => { blk := .pwr, off := 0x24, acc := .rw, reset := 0x190A00FA, mask := 0xFFFF03FF, lims := [.range 0 10 150 600, .range 16 8 1 255, .range 24 8 5 255] }
  | .pwrHrT => { blk := .pwr, off := 0x28, acc := .ro }
  | .pwrHrMin => { blk := .pwr, off := 0x2C, acc := .ro }
  | .pwrVcoreOfs => { blk := .pwr, off := 0x30, acc := .rw, mask := 0xFF, lims := [.multiple 0 8 0 150 5] }
  | .pwrRail => { blk := .pwr, off := 0x40, acc := .ro, stride := 8, count := 4 }
  | .pwrRailCnt => { blk := .pwr, off := 0x44, acc := .ro, stride := 8, count := 4 }
  | .pwrRefcnt => { blk := .pwr, off := 0x104, acc := .ro, stride := 0x20, count := 2, inner := 4, each := 7 }
  | .safStatus => { blk := .saf, off := 0, acc := .ro }
  | .safEvent => { blk := .saf, off := 4, acc := .w1c, mask := 0xFF }
  | .safInCfg => { blk := .saf, off := 8, acc := .rwl, reset := 0x320032, mask := 0x3FF03FF, lock := some 5, lims := [.range 0 10 5 500, .range 16 10 5 500] }
  | .safPoCfg => { blk := .saf, off := 0xC, acc := .rwl, reset := 0xB, mask := 0x33F, lock := some 6, lims := [.range 0 6 1 40] }
  | .safTestCfg => { blk := .saf, off := 0x10, acc := .rwl, reset := 0x3050064, mask := 0x37F01FF, lock := some 7, lims := [.range 0 9 50 400, .range 16 7 1 100] }
  | .safFaCfg => { blk := .saf, off := 0x14, acc := .rwl, reset := 0x3E8, mask := 0xFFF, lock := some 8, lims := [.range 0 12 250 4000] }
  | .safHbCfg => { blk := .saf, off := 0x18, acc := .rwl, reset := 0x804, mask := 0x1F1F, lock := some 9, lims := [.range 0 5 1 16, .range 8 4 1 15] }
  | .safTestCnt => { blk := .saf, off := 0x1C, acc := .ro }
  | .safGrec => { blk := .saf, off := 0x20, acc := .ro }
  | .safInj => { blk := .saf, off := 0x30, acc := .rw, mask := 0x1F }
  | .fltStatus => { blk := .flt, off := 0, acc := .ro }
  | .fltEvent => { blk := .flt, off := 4, acc := .w1c, mask := 0xF }
  | .fltClear => { blk := .flt, off := 8, acc := .wo, mask := 7 }
  | .fltFirst => { blk := .flt, off := 0xC, acc := .ro }
  | .fltFirstTimeLo => { blk := .flt, off := 0x10, acc := .ro }
  | .fltFirstTimeHi => { blk := .flt, off := 0x14, acc := .ro }
  | .fltLast => { blk := .flt, off := 0x18, acc := .ro }
  | .fltInj => { blk := .flt, off := 0x1C, acc := .wo, mask := 0xFFFF007F }
  | .fltInjCnt => { blk := .flt, off := 0x20, acc := .ro }
  | .fltLogHead => { blk := .flt, off := 0x24, acc := .ro }
  | .fltLogSel => { blk := .flt, off := 0x28, acc := .rw, perPort := true }
  | .fltLogLost => { blk := .flt, off := 0x2C, acc := .ro }
  | .fltLogData => { blk := .flt, off := 0x30, acc := .ro, stride := 4, count := 8, perPort := true }
  | .fltCond => { blk := .flt, off := 0x60, acc := .ro, stride := 4, count := 4 }
  | .fltMap => { blk := .flt, off := 0x100, acc := .ro, reset := 0x10100, stride := 4, count := 128 }
  | .fltCnt => { blk := .flt, off := 0x400, acc := .ro, stride := 4, count := 128 }
  | .chkCfg => { blk := .chk, off := 0, acc := .rw, mask := 3, stride := 0x40, count := 4 }
  | .chkState => { blk := .chk, off := 4, acc := .rw, reset := 0xFFFFFFFF, stride := 0x40, count := 4 }
  | .chkResult => { blk := .chk, off := 8, acc := .ro, stride := 0x40, count := 4 }
  | .chkCount => { blk := .chk, off := 0xC, acc := .rw, stride := 0x40, count := 4 }
  | .chkData8 => { blk := .chk, off := 0x10, acc := .wo, mask := 0xFF, stride := 0x40, count := 4 }
  | .chkData16 => { blk := .chk, off := 0x14, acc := .wo, mask := 0xFFFF, stride := 0x40, count := 4 }
  | .chkData32 => { blk := .chk, off := 0x18, acc := .wo, stride := 0x40, count := 4 }
  | .chkScanAddr => { blk := .chk, off := 0x20, acc := .rw, stride := 0x40, count := 4 }
  | .chkScanLen => { blk := .chk, off := 0x24, acc := .rw, mask := 0xFFFFFF, stride := 0x40, count := 4 }
  | .chkScanCtl => { blk := .chk, off := 0x28, acc := .rw, mask := 1, stride := 0x40, count := 4 }
  | .chkStatus => { blk := .chk, off := 0x2C, acc := .ro, stride := 0x40, count := 4 }
  | .chkScanRem => { blk := .chk, off := 0x30, acc := .ro, stride := 0x40, count := 4 }
  | .pmcCnt => { blk := .pmc, off := 0, acc := .rw, stride := 4, count := 32 }
  | .pmcSel => { blk := .pmc, off := 0x80, acc := .rw, mask := 0x3FF, stride := 4, count := 32, lims := [.codes 0 8 pmcCodes] }
  | .pmcOvf => { blk := .pmc, off := 0x100, acc := .w1c }
  | .pmcSmpCfg => { blk := .pmc, off := 0x200, acc := .rw, reset := 6, mask := 0xFFFF7F1F }
  | .pmcSmpStatus => { blk := .pmc, off := 0x204, acc := .ro }
  | .pmcSmpHead => { blk := .pmc, off := 0x208, acc := .ro }
  | .pmcSmpDrop => { blk := .pmc, off := 0x20C, acc := .ro }
  | .pmcSmpSel => { blk := .pmc, off := 0x210, acc := .rw, perPort := true }
  | .pmcSmpData => { blk := .pmc, off := 0x220, acc := .ro, stride := 4, count := 4, perPort := true }
  | .botStatus => { blk := .bot, off := 0, acc := .ro }
  | .botEvent => { blk := .bot, off := 4, acc := .w1c, mask := 0x1F }
  | .botResetCause => { blk := .bot, off := 8, acc := .ro, reset := 1 }
  | .botReset => { blk := .bot, off := 0xC, acc := .wo, mask := 0xFF00 }
  | .botStarts => { blk := .bot, off := 0x10, acc := .ro }
  | .botFwVer => { blk := .bot, off := 0x14, acc := .ro }
  | .botSetStat => { blk := .bot, off := 0x18, acc := .ro }
  | .botSlotver => { blk := .bot, off := 0x20, acc := .ro, stride := 8, count := 4 }
  | .botSlotst => { blk := .bot, off := 0x24, acc := .ro, stride := 8, count := 4 }
  | .botActivate => { blk := .bot, off := 0x40, acc := .wo, mask := 7 }
  | .botConfirm => { blk := .bot, off := 0x44, acc := .wo, mask := 3 }
  | .botPlateStat => { blk := .bot, off := 0x48, acc := .ro }
  | .botPlateCap => { blk := .bot, off := 0x4C, acc := .ro }
  | .botPlateLock => { blk := .bot, off := 0x50, acc := .ro }
  | .botPlateVfl => { blk := .bot, off := 0x54, acc := .ro }
  | .botPlateVfr => { blk := .bot, off := 0x58, acc := .ro }
  | .botUpdStat => { blk := .bot, off := 0x60, acc := .ro, reset := 0x100000 }
  | .botUpdWords => { blk := .bot, off := 0x64, acc := .ro }
  | .botLcReq => { blk := .bot, off := 0x70, acc := .wo, mask := 3 }
  | .botLcNonceLo => { blk := .bot, off := 0x78, acc := .ro }
  | .botLcNonceHi => { blk := .bot, off := 0x7C, acc := .ro }
  | .botLcToken => { blk := .bot, off := 0x80, acc := .wo, stride := 4, count := 16 }
  | .botKeyCmd => { blk := .bot, off := 0xC0, acc := .wo, mask := 0x103 }
  | .botOtpStat => { blk := .bot, off := 0xC4, acc := .ro }
  | .botKeyData => { blk := .bot, off := 0x100, acc := .wo, stride := 4, count := 16 }
  | .botBistCtl => { blk := .bot, off := 0x180, acc := .rw, mask := 0x800000FF }
  | .botBistRes => { blk := .bot, off := 0x184, acc := .ro }
  | .botBistSig => { blk := .bot, off := 0x190, acc := .ro, stride := 4, count := 8 }
  | .botCustAddr => { blk := .bot, off := 0x200, acc := .rw, mask := 0x3FFFFF }
  | .botCustCmd => { blk := .bot, off := 0x204, acc := .wo, mask := 3, lims := [.range 0 2 0 2] }
  | .botCustStat => { blk := .bot, off := 0x208, acc := .ro }
  | .botPop => { blk := .bot, off := 0x300, acc := .ro, stride := 4, count := 16 }
  | .botCustBuf => { blk := .bot, off := 0x1000, acc := .rw, stride := 4, count := 1024 }
  | .tilDiagStatus => { blk := .til, off := 0, acc := .ro, stride := 0x10000, count := 16 }
  | .tilDiagEvent => { blk := .til, off := 4, acc := .w1c, mask := 0x7F, stride := 0x10000, count := 16 }
  | .tilCntOpen => { blk := .til, off := 8, acc := .ro, stride := 0x10000, count := 16 }
  | .tilCntShort => { blk := .til, off := 0xC, acc := .ro, stride := 0x10000, count := 16 }
  | .tilCntLeak => { blk := .til, off := 0x10, acc := .ro, stride := 0x10000, count := 16 }
  | .tilCntSink => { blk := .til, off := 0x14, acc := .ro, stride := 0x10000, count := 16 }
  | .tilCntRejoin => { blk := .til, off := 0x18, acc := .ro, stride := 0x10000, count := 16 }
  | .tilProbeCnt => { blk := .til, off := 0x1C, acc := .ro, stride := 0x10000, count := 16 }
  | .tilPabortCnt => { blk := .til, off := 0x20, acc := .ro, stride := 0x10000, count := 16 }
  | .tilCovSeq => { blk := .til, off := 0x30, acc := .ro, stride := 0x10000, count := 16 }
  | .tilCovLit => { blk := .til, off := 0x34, acc := .ro, stride := 0x10000, count := 16 }
  | .tilCovVer => { blk := .til, off := 0x38, acc := .ro, stride := 0x10000, count := 16 }
  | .tilCovUnv => { blk := .til, off := 0x3C, acc := .ro, stride := 0x10000, count := 16 }
  | .tilCovMsk => { blk := .til, off := 0x40, acc := .ro, stride := 0x10000, count := 16 }
  | .tilCovAbn => { blk := .til, off := 0x44, acc := .ro, stride := 0x10000, count := 16 }
  | .tilMaskCmd => { blk := .til, off := 0x50, acc := .wo, mask := 0x33F03FF, stride := 0x10000, count := 16, lims := [.range 24 2 0 1] }
  | .tilReadmit => { blk := .til, off := 0x54, acc := .wo, mask := 0x3FF1F, stride := 0x10000, count := 16, lims := [.range 16 2 0 1] }
  | .tilPixsel => { blk := .til, off := 0x58, acc := .rw, mask := 0x3F03FF, stride := 0x10000, count := 16, perPort := true }
  | .tilPixinfo => { blk := .til, off := 0x5C, acc := .ro, stride := 0x10000, count := 16, perPort := true }
  | .tilTileState => { blk := .til, off := 0x100, acc := .ro, stride := 0x10000, count := 16, inner := 4, each := 32 }
  | .tilAdcCtl => { blk := .til, off := 0x200, acc := .rw, mask := 0xFF1, stride := 0x10000, count := 16, lims := [.range 4 4 0 11, .range 8 4 0 8] }
  | .tilAdcRes => { blk := .til, off := 0x204, acc := .ro, stride := 0x10000, count := 16 }
  | .tilAdcColsel => { blk := .til, off := 0x208, acc := .rw, mask := 0x3F031F, stride := 0x10000, count := 16 }
  | .tilAdcStatus => { blk := .til, off := 0x20C, acc := .ro, stride := 0x10000, count := 16 }
  | .tilAdcUrg => { blk := .til, off := 0x210, acc := .ro, stride := 0x10000, count := 16 }
  | .tilAdcTemp => { blk := .til, off := 0x214, acc := .ro, stride := 0x10000, count := 16 }
  | .tilAdcVled => { blk := .til, off := 0x218, acc := .ro, stride := 0x10000, count := 16 }
  | .tilSinkmap => { blk := .til, off := 0x400, acc := .ro, stride := 0x10000, count := 16, inner := 4, each := 256 }
  | .tilId => { blk := .til, off := 0xF00, acc := .ro, stride := 0x10000, count := 16 }
  | .tilPixmap => { blk := .til, off := 0x8000, acc := .ro, stride := 0x10000, count := 16, inner := 4, each := 4096 }

/-- The registers of a block, in the order of their offsets. -/
def Block.regs : Block → List Reg
  | .glb => [.glbPart, .glbStep, .glbMapver, .glbStrap, .glbUidLo, .glbUidHi, .glbTimeLo,
      .glbTimeHi, .glbSpeed, .glbBin, .glbCpu, .glbScratch]
  | .hpt => [.hptWhoami, .hptPortState, .hptEvent, .hptLossTmo, .hptAckTmo, .hptEvtMask,
      .hptMbStatus, .hptBlkoffCnt, .hptPktCnt, .hptRetxCnt, .hptEvtDrop, .hptAbandon,
      .hptAbandonCnt, .hptIncomplete, .hptSemAcq, .hptSemRel, .hptSemOwner, .hptSemFailCnt,
      .hptLossCnt]
  | .cmd => [.cmdArb, .cmdQfill, .cmdStream, .cmdServed, .cmdLref, .cmdRefcnt]
  | .lnk => [.lnkCtrl, .lnkStatus, .lnkEvent, .lnkCnt, .lnkLanemap, .lnkEqCfg, .lnkEqState,
      .lnkTxcfg, .lnkErrCfg, .lnkTmo, .lnkLoop, .lnkPrbs, .lnkLcnt, .lnkPrbsErr, .lnkParkCnt,
      .lnkSkew, .lnkRejoin]
  | .lyr => [.lyrSlotCmd, .lyrEvent, .lyrLeasedCnt, .lyrNslots, .lyrFmt, .lyrPal, .lyrSzr,
      .lyrSlotState, .lyrSlotMap]
  | .szr => [.szrStgOut, .szrStgHstep, .szrStgVstep, .szrStgHinit, .szrStgVinit, .szrStgCtrl,
      .szrOut, .szrHstep, .szrVstep, .szrHinit, .szrVinit, .szrCtrl, .szrBank, .szrCtap, .szrCload,
      .szrCsel, .szrCval]
  | .cmp => [.cmpStatus, .cmpPhase, .cmpFenceTmo, .cmpCommit, .cmpCommitCnt, .cmpPassCnt,
      .cmpEvent, .cmpHeldCnt, .cmpTmoCnt, .cmpDiscardCnt, .cmpStgFence, .cmpStgFtarget,
      .cmpStgSealCrc, .cmpFenceSig, .cmpCresSel, .cmpCresSeq, .cmpCresState, .cmpClast, .cmpPlate,
      .cmpOps, .cmpFence, .cmpStgSlot, .cmpStgSrc, .cmpStgPos, .cmpStgCtrl, .cmpLyrSlot,
      .cmpLyrSrc, .cmpLyrPos, .cmpLyrCtrl, .cmpLyrSeq]
  | .prf => [.prfStatus, .prfClass, .prfMismatch, .prfMissCnt, .prfPassSeq, .prfStgOrg,
      .prfStgSize, .prfStgExp, .prfOrg, .prfSize, .prfExp, .prfSig]
  | .drv => [.drvXover, .drvFill, .drvRefresh, .drvBudgetPkg, .drvBudgetDie, .drvEvent,
      .drvClipCnt, .drvLastScale, .drvPredPkg, .drvPredDieL, .drvPredDieR, .drvIpk, .drvFillCnt,
      .drvBudgetReg, .drvRgain, .drvRgainEff, .drvPredReg, .drvPalStatus, .drvPalDiscard, .drvPal,
      .drvApal]
  | .scn => [.scnTmode, .scnBlank, .scnIfs, .scnStatus, .scnCycleLo, .scnCycleHi, .scnHold,
      .scnSyncCtrl, .scnSyncErr, .scnSyncCnt, .scnCamsyncCtrl, .scnCamsyncOffset, .scnEvent,
      .scnPclampCnt, .scnD2dL, .scnD2dR, .scnFrecSel, .scnFrecSeq, .scnFrecTimeLo, .scnFrecTimeHi,
      .scnFrecCommit, .scnFrecMode, .scnFrecScale, .scnFrecStoreId, .scnFrecMaskId, .scnFrecSnapId,
      .scnFrecDriveSig, .scnFrecTrimId, .scnFrecTemp, .scnDiagCfg, .scnDiagVth, .scnDiagLim,
      .scnDiagNpc]
  | .adc => [.adcStatus, .adcEvent, .adcDropCfg, .adcGrpMiss, .adcSctl, .adcSres, .adcSraw,
      .adcGrpCfg, .adcGrpPhase, .adcGrpCtl, .adcGrpSeq, .adcUcal, .adcUcalStat, .adcUcalTarget,
      .adcGrpIn, .adcGrpIn2, .adcUrg, .adcGres, .adcUcalCoef]
  | .cal => [.calCtrl, .calCfg, .calStatus, .calEvent, .calFbCfg, .calStoreState, .calStoreId,
      .calSave, .calCmd, .calResults, .calCommitCnt, .calEccCnt, .calRstat, .calRcova, .calRcovb,
      .calRcovc, .calTrimId, .calStep]
  | .pwr => [.pwrState, .pwrReq, .pwrEvent, .pwrPhyCtrl, .pwrRet, .pwrWakeCfg, .pwrWakeStat,
      .pwrWakeCnt, .pwrLastRefuse, .pwrHrCfg, .pwrHrT, .pwrHrMin, .pwrVcoreOfs, .pwrRail,
      .pwrRailCnt, .pwrRefcnt]
  | .saf => [.safStatus, .safEvent, .safInCfg, .safPoCfg, .safTestCfg, .safFaCfg, .safHbCfg,
      .safTestCnt, .safGrec, .safInj]
  | .flt => [.fltStatus, .fltEvent, .fltClear, .fltFirst, .fltFirstTimeLo, .fltFirstTimeHi,
      .fltLast, .fltInj, .fltInjCnt, .fltLogHead, .fltLogSel, .fltLogLost, .fltLogData, .fltCond,
      .fltMap, .fltCnt]
  | .chk => [.chkCfg, .chkState, .chkResult, .chkCount, .chkData8, .chkData16, .chkData32,
      .chkScanAddr, .chkScanLen, .chkScanCtl, .chkStatus, .chkScanRem]
  | .pmc => [.pmcCnt, .pmcSel, .pmcOvf, .pmcSmpCfg, .pmcSmpStatus, .pmcSmpHead, .pmcSmpDrop,
      .pmcSmpSel, .pmcSmpData]
  | .bot => [.botStatus, .botEvent, .botResetCause, .botReset, .botStarts, .botFwVer, .botSetStat,
      .botSlotver, .botSlotst, .botActivate, .botConfirm, .botPlateStat, .botPlateCap,
      .botPlateLock, .botPlateVfl, .botPlateVfr, .botUpdStat, .botUpdWords, .botLcReq,
      .botLcNonceLo, .botLcNonceHi, .botLcToken, .botKeyCmd, .botOtpStat, .botKeyData, .botBistCtl,
      .botBistRes, .botBistSig, .botCustAddr, .botCustCmd, .botCustStat, .botPop, .botCustBuf]
  | .til => [.tilDiagStatus, .tilDiagEvent, .tilCntOpen, .tilCntShort, .tilCntLeak, .tilCntSink,
      .tilCntRejoin, .tilProbeCnt, .tilPabortCnt, .tilCovSeq, .tilCovLit, .tilCovVer, .tilCovUnv,
      .tilCovMsk, .tilCovAbn, .tilMaskCmd, .tilReadmit, .tilPixsel, .tilPixinfo, .tilTileState,
      .tilAdcCtl, .tilAdcRes, .tilAdcColsel, .tilAdcStatus, .tilAdcUrg, .tilAdcTemp, .tilAdcVled,
      .tilSinkmap, .tilId, .tilPixmap]

/-- All blocks, in the order of their addresses. -/
def Block.all : List Block :=
  [.glb, .hpt, .cmd, .lnk, .lyr, .szr, .cmp, .prf, .drv, .scn, .adc, .cal, .pwr, .saf, .flt, .chk, .pmc,
   .bot, .til]

/-- Size of a block's range (R610); the TIL space holds sixteen regions. -/
def Block.size : Block → Nat
  | .til => 0x100000
  | _ => 0x10000

/-- Indices `(k, j)` of the register of row `r` at offset `off` of its block, if `r` has one there. -/
def RegRow.indexOf (r : RegRow) (off : Nat) : Option (Nat × Nat) :=
  if off < r.off then none
  else
    let d := off - r.off
    let k := if r.count = 1 then 0 else d / r.stride
    let e := d - r.stride * k
    let j := if r.each = 1 then 0 else e / r.inner
    if k < r.count ∧ j < r.each ∧ e = r.inner * j then some (k, j) else none

/-- The register of a list that stands at an offset. -/
def findReg (off : Nat) : List Reg → Option (Reg × Nat × Nat)
  | [] => none
  | r :: t =>
    match r.row.indexOf off with
    | some (k, j) => some (r, k, j)
    | none => findReg off t

/-- What stands at a byte address (R610, R611). -/
inductive Place where
  | reg (b : Block) (r : Reg) (k j : Nat)
  /-- A hole of a block (R620). -/
  | hole (b : Block)
  | bulk (off : Nat)
  | cellar (off : Nat)
  | nowhere
deriving DecidableEq, Repr

/-- The block whose range holds an address. -/
def blockOf (a : Nat) : List Block → Option Block
  | [] => none
  | b :: t => if b.base ≤ a ∧ a < b.base + b.size then some b else blockOf a t

/-- Where an address lies. -/
def place (a : Nat) : Place :=
  if bulkBase ≤ a ∧ a < bulkBase + bulkSize then .bulk (a - bulkBase)
  else if cellarBase ≤ a ∧ a < cellarBase + cellarSize then .cellar (a - cellarBase)
  else
    match blockOf a Block.all with
    | none => .nowhere
    | some b =>
      if a % 4 = 0 then
        match findReg (a - b.base) b.regs with
        | some (r, k, j) => .reg b r k j
        | none => .hole b
      else .hole b

/-- Region of an address of the TIL space. -/
def tilRegion (a : Nat) : Nat := (a - Block.til.base) / 0x10000

/-! ### The register file -/

/-- Byte address of register `(k, j)` of a row. -/
def Reg.addr (r : Reg) (k j : Nat) : Nat :=
  r.row.blk.base + r.row.off + r.row.stride * k + r.row.inner * j

/-- Key in the register file: the address, and for a register held once per port (R158, R622) the port. -/
def Reg.key (r : Reg) (p : Port) (k j : Nat) : Nat :=
  if r.row.perPort then r.addr k j + 2 ^ 32 * (portIx p + 1) else r.addr k j

/-- Value of a register; port `p` matters for the registers of R622 only. -/
def State.rdp (s : State) (p : Port) (r : Reg) (k : Nat := 0) (j : Nat := 0) : Word :=
  tabGet r.row.reset s.regs (r.key p k j)

def State.wrp (s : State) (p : Port) (r : Reg) (v : Word) (k : Nat := 0) (j : Nat := 0) : State :=
  { s with regs := tabSet r.row.reset s.regs (r.key p k j) v }

/-- Value of a shared register. -/
def State.rd (s : State) (r : Reg) (k : Nat := 0) (j : Nat := 0) : Word := s.rdp .A r k j

def State.wr (s : State) (r : Reg) (v : Word) (k : Nat := 0) (j : Nat := 0) : State := s.wrp .A r v k j

/-- A field of a shared register. -/
def State.fld (s : State) (r : Reg) (lsb width : Nat) (k : Nat := 0) : Nat := field (s.rd r k) lsb width

/-- `s` with a field of a shared register set. -/
def State.setFld (s : State) (r : Reg) (lsb width v : Nat) (k : Nat := 0) : State :=
  s.wr r (setField (s.rd r k) lsb width v) k

/-! ### What hardware does in a CK_FAB cycle (R19, R22) -/

/-- The CK_FAB cycle of the present instant. -/
def State.fab (s : State) : Nat := s.now / fabCycle

/-- The record of the running CK_FAB cycle; empty where nothing has happened in it yet. -/
def State.thisCycle (s : State) : SameCycle := if s.cyc.cycle = s.fab then s.cyc else { cycle := s.fab }

/-- Event bits of a register that hardware has set in the running CK_FAB cycle (R19). -/
def State.flagsNow (s : State) (key : Nat) : Word := tabGet 0 s.thisCycle.flags key

/-- Field bits of a register that hardware has updated in the running CK_FAB cycle (R22). -/
def State.fieldsNow (s : State) (key : Nat) : Word := tabGet 0 s.thisCycle.fields key

/-- Hardware sets the event bits `m` of a register in this cycle. -/
def State.noteFlags (s : State) (key : Nat) (m : Word) : State :=
  { s with cyc := { s.thisCycle with flags := tabSet 0 s.thisCycle.flags key (s.flagsNow key ||| m) } }

/-- Hardware updates the field bits `m` of a register in this cycle. -/
def State.noteFields (s : State) (key : Nat) (m : Word) : State :=
  { s with cyc := { s.thisCycle with fields := tabSet 0 s.thisCycle.fields key (s.fieldsNow key ||| m) } }

/-- Hardware writes a whole register that software writes too (R22). -/
def State.hwWr (s : State) (r : Reg) (v : Word) (k : Nat := 0) (j : Nat := 0) : State :=
  (s.wr r v k j).noteFields (r.key .A k j) 0xFFFFFFFF

/-- Software writes a register: bits that hardware has updated in the same CK_FAB cycle keep the hardware's value
(R22). -/
def State.swWr (s : State) (p : Port) (r : Reg) (v : Word) (k : Nat := 0) (j : Nat := 0) : State :=
  let m := s.fieldsNow (r.key p k j)
  s.wrp p r ((s.rdp p r k j &&& m) ||| (v &&& ~~~m)) k j

/-- A domain is on for an access: its switch-on sequence ended in an earlier CK_FAB cycle (R288). -/
def State.domServes (s : State) (d : Domain) : Bool := s.domOn d && !s.thisCycle.rose.getLsbD (domBit d)

/-- The value that an accepted write of `w` leaves: reserved bits read 0 (R17). -/
def Reg.kept (r : Reg) (w : Word) : Word := w &&& r.row.mask

/-- Every field holds a value that is not reserved (R18). -/
def Reg.legal (r : Reg) (w : Word) : Bool := r.row.lims.all (·.ok w)

end Sys2Proof.Machine
end

