-- ==== Sys2Proof/Machine/Flags.lean ====
section
/-! DEFINITION. Flags and counters that every chapter sets the same way: event bits (R19), occurrence
counters (R20), performance counters (R567 to R570), fault reports (R501), outward packets and events
(R259, R292, R293), and the passing of time. -/

namespace Sys2Proof.Machine

/-! ### Event bits and occurrence counters -/

/-- Hardware sets bit `i` of event register `r` (R19). -/
def State.flag (s : State) (r : Reg) (i : Nat) (k : Nat := 0) : State :=
  (s.wr r (s.rd r k ||| bitWord i) k).noteFlags (r.key .A k 0) (bitWord i)

/-- As `flag`, for an event register held per port. -/
def State.pflag (s : State) (p : Port) (r : Reg) (i : Nat) : State :=
  (s.wrp p r (s.rdp p r ||| bitWord i)).noteFlags (r.key p 0 0) (bitWord i)

/-- Counter in bits `lsb + width - 1 : lsb` of a shared register, up by `n`, saturating (R20). -/
def State.count (s : State) (r : Reg) (lsb width : Nat) (n : Nat := 1) (k : Nat := 0) (j : Nat := 0) :
    State :=
  let w := s.rd r k j
  s.wr r (setField w lsb width (satAdd width (field w lsb width) n)) k j

/-- As `count`, for a register held per port. -/
def State.pcount (s : State) (p : Port) (r : Reg) (lsb width : Nat) (n : Nat := 1) : State :=
  let w := s.rdp p r
  s.wrp p r (setField w lsb width (satAdd width (field w lsb width) n))

/-! ### Writes of 1 to a start bit that reads 1 (R21) -/

/-- Software writes 1 to a start bit that reads 1, in this CK_FAB cycle. -/
def State.noteOne (s : State) (key : Nat) : State :=
  { s with cyc := { s.thisCycle with ones := addNat key s.thisCycle.ones } }

/-- Software has written 1 to a start bit in this CK_FAB cycle: its clear by hardware starts a new action. -/
def State.wroteOne (s : State) (key : Nat) : Bool := s.thisCycle.ones.contains key

/-! ### Performance counters -/

/-- Counters `k`, `k + 1`, ... take `n` occurrences of event `code`, or the carry of the counter below
(R567, R568). `fuel` counters are left. -/
def pmcAdd (code n : Nat) : Nat → Nat → Nat → State → State
  | 0, _, _, s => s
  | fuel + 1, k, carry, s =>
    let sel := s.rd .pmcSel k
    let add := if bit sel 8 then carry else if field sel 0 8 = code then n else 0
    if bit sel 9 then
      let v := (s.rd .pmcCnt k).toNat + add
      let s := if add = 0 then s else s.wr .pmcCnt (word v) k
      let s := if 2 ^ 32 ≤ v then s.flag .pmcOvf k else s
      pmcAdd code n fuel (k + 1) (v / 2 ^ 32) s
    else pmcAdd code n fuel (k + 1) 0 s

/-- No PMC_SELk differs from its reset value, so no counter counts. -/
def State.pmcIdle (s : State) : Bool :=
  s.regs.all fun e => decide (e.1 < 0x100080) || decide (0x100100 ≤ e.1)

/-- `n` occurrences of performance event `code` (R570). -/
def State.pmc (s : State) (code : Nat) (n : Nat := 1) : State :=
  if n = 0 || s.pmcIdle then s else pmcAdd code n 32 0 0 s

/-! ### Time -/

/-- Time passes to instant `t`, if it lies ahead; the cycle events of R570 are counted while PD_CORE is
on. -/
def State.advance (s : State) (t : Nat) : State :=
  let t1 := max s.now t
  let s1 := if s.domOn .core then
      (s.pmc 0x01 (t1 / coreCycle - s.now / coreCycle)).pmc 0x02 (t1 / fabCycle - s.now / fabCycle)
    else s
  { s1 with now := t1 }

/-! ### Fault reports -/

/-- A source reports an event to the fault collector (R501). The fault arbiter takes it at the end of
the command (`settle`). -/
def State.report (s : State) (source : Nat) (detail : Nat := 0) : State :=
  s.onFaults fun f => { f with reports := f.reports ++ [{ source := source, detail := detail }] }

/-! ### Outward packets -/

/-- The words of a packet's payload that the device sends for an outbox item (DESIGN CHOICE, log 12). -/
def OutItem.words : OutItem → List Word
  | .resp ws => ws
  | .evt w => [w]

/-- Packet type of an outbox item (R252). -/
def OutItem.type : OutItem → Nat
  | .resp _ => 2
  | .evt _ => 3

/-- Free command-queue space in units of 16 bytes (R256, R297, R619). -/
def PortState.credit (x : PortState) : Nat := (16384 - x.queue.length) / 4

/-- Packets in order on the transmit lane, framed and with their CRC-32 (R251, R303). -/
def State.transmit (s : State) (p : Port) (ks : List TxPacket) : State :=
  let gt := groupTime (s.link p).rate
  s.onPort p fun x => { x with tx := ks.foldl (fun t k => t.put gt s.now false k.symbols) x.tx }

/-- Put an ACK or NAK on the link; neither is held back nor repeated by R259. -/
def State.sendControl (s : State) (p : Port) (type aseq reason : Nat) : State :=
  let k : TxPacket :=
    { type := type, seq := 0, payload := [word (aseq + 4096 * reason + 65536 * (s.port p).credit)] }
  (s.onPort p fun x => { x with wire := k :: x.wire, creditSent := x.credit }).transmit p [k]

/-- Send outbox items while the link is up and fewer than 64 packets are unacknowledged (R259, R278);
one item to a packet (log 12). -/
def sendItems (now tmo : Nat) : List OutItem → PortState → PortState
  | [], x => { x with outbox := [] }
  | i :: t, x =>
    if x.unacked.length < 64 then
      let pkt : TxPacket := { type := i.type, seq := x.txSeq, payload := i.words }
      sendItems now tmo t
        { x with
          txSeq := (x.txSeq + 1) % 4096
          unacked := x.unacked ++ [pkt]
          wire := pkt :: x.wire
          ackTimer := match x.ackTimer with
            | some y => some y
            | none => some (now, tmo) }
    else { x with outbox := i :: t }

/-- HPT_ACK_TMO in time units. -/
def State.ackTmo (s : State) : Nat := (s.fld .hptAckTmo 0 10) * usec

/-- Send what can leave on the link of port `p` (DESIGN CHOICE, log 12). -/
def State.flush (s : State) (p : Port) : State :=
  if (s.port p).linkUp then
    let s1 := s.onPort p fun x => sendItems s.now s.ackTmo x.outbox x
    s1.transmit p ((s1.port p).wire.take ((s1.port p).wire.length - (s.port p).wire.length)).reverse
  else s

/-- Queue an item for the transmit lane and send what can leave. -/
def State.post (s : State) (p : Port) (i : OutItem) : State :=
  (s.onPort p fun x => { x with outbox := x.outbox ++ [i] }).flush p

/-- Events of a port that are not yet sent. -/
def PortState.eventsHeld (x : PortState) : Nat :=
  (x.outbox.filter fun i => match i with | .evt _ => true | .resp _ => false).length

/-- An event of port `p` (R292, R293): sent if HPT_EVT_MASK enables its code; dropped when 256 wait. -/
def State.event (s : State) (p : Port) (code detail : Nat) : State :=
  if bit (s.rdp p .hptEvtMask) (code - 1) then
    if 256 ≤ (s.port p).eventsHeld then (s.pcount p .hptEvtDrop 0 32).pflag p .hptEvent 3
    else s.post p (.evt (word (code + 256 * (detail % 2 ^ 24))))
  else s

/-- An event of both ports, port A first. -/
def State.eventAll (s : State) (code detail : Nat) : State := (s.event .A code detail).event .B code detail

end Sys2Proof.Machine
end

