-- ==== Sys2Proof/Machine/Layers.lean ====
section
/-! DEFINITION. Layer memory and its slots, palettes and scalers (R204 to R248): slot states and writes,
staging copies, coefficient banks, and what a layer offers at a pixel. -/

namespace Sys2Proof.Machine

/-! ### Running scans of the check-value units (R555 to R566) -/

def State.chkAlg (s : State) (u : Nat) : Nat := s.fld .chkCfg 0 2 u

def State.chkScan (s : State) (u : Nat) : Option ChkScan := s.scans.getD u none

def State.setScan (s : State) (u : Nat) (x : Option ChkScan) : State :=
  { s with scans := modifyAt (fun _ => x) u s.scans }

/-- Feed bytes to a unit (R559, R558): running value and saturating count. -/
def State.chkFeed (s : State) (u : Nat) (bs : List Byte) : State :=
  ((s.wr .chkState (crcFeed (s.chkAlg u) (s.rd .chkState u) bs) u).count .chkCount 0 32 bs.length u).pmc
    0x48 bs.length

/-- Of `n` bytes from address `a` upward, those before the first word with an uncorrectable error. -/
def State.cleanBytes (s : State) (a n : Nat) : Nat :=
  s.ecc.foldl (fun m w => if a < w + 8 then min m (w - a) else m) n

/-- The scan of unit `u`, if one runs, has come further by now (R561, R563): by how many bytes is a free value below what
is left; it passes no uncorrectable error (R565) (DESIGN CHOICE, log 13). -/
def State.scanOn (s : State) (u : Nat) : State :=
  match s.chkScan u with
  | none => s
  | some x =>
    let (w, t) := s.draw
    let n := s.cleanBytes x.addr (w.toNat % max 1 x.left)
    (t.setScan u (some { x with addr := x.addr + n, left := x.left - n })).chkFeed u (memBytes s.mem x.addr n)

/-- Every running scan has come further by now. -/
def State.scansOn (s : State) : State := (List.range 4).foldl State.scanOn s

/-- Bytes `[a, e)` are about to change: the scans that have them before them have come as far as they have (R564). -/
def State.scansBefore (s : State) (a e : Nat) : State :=
  (List.range 4).foldl (fun t u =>
    match t.chkScan u with
    | some x => if a < x.addr + x.left ∧ x.addr < e then t.scanOn u else t
    | none => t) s

/-! ### Stores and reads with check bits -/

/-- The bytes of the 8-byte word at `w` that lie outside `[a, e)` become 0 (R629). -/
def zeroOutside (a e w : Nat) (m : List Host.Cell) : List Host.Cell :=
  (List.range 8).foldl (fun t i => if a ≤ w + i ∧ w + i < e then t else memSet t (w + i) 0) m

/-- Words of layer memory or of the cellar stored from address `a` upward, of a write that has stored `before` words
below them and stores `after` words above them. A word with an uncorrectable error gets new check bits with the last of
its bytes that the write covers; where the write covers only part of it, its other bytes become 0 and the error is
reported (R629). A streamed command counts as one write (DEDUCED, log 111). -/
def State.storePart (s : State) (before after a : Nat) (ws : List Word) : State :=
  let (b, e) := (a - 4 * before, a + 4 * (ws.length + after))
  let m := a + 4 * ws.length
  let hit := s.ecc.filter fun w => decide (a < w + 8) && decide (w < m) && (decide (w + 8 ≤ m) || decide (after = 0))
  let part := hit.filter fun w => decide (w < b) || decide (e < w + 8)
  let s0 := s.scansBefore a m
  let s1 := { s0 with mem := memSetWords (part.foldl (fun t w => zeroOutside b e w t) s.mem) a ws
                      ecc := s.ecc.filter fun w => !hit.contains w }
  if part = [] then s1 else s1.report (if a < cellarBase then 0x22 else 0x24)

/-- Words stored from address `a` upward by one write (R629). -/
def State.store (s : State) (a : Nat) (ws : List Word) : State := s.storePart 0 0 a ws

/-- Some byte of `[a, a + n)` lies in a word with an uncorrectable error (R503). -/
def State.eccHit (s : State) (a n : Nat) : Bool :=
  s.ecc.any fun w => decide (a < w + 8) && decide (w < a + n)

/-- A host read of one word of layer memory or of the cellar: 0 with CRC_FAIL where it meets an
uncorrectable error (R503, source 0x22 or 0x24). -/
def State.hostRead (s : State) (a : Nat) : Status × Word × State :=
  if s.eccHit a 4 then (.crcFail, 0, s.report (if a < cellarBase then 0x22 else 0x24))
  else (.ok, memWord s.mem a, s)

/-! ### Slots -/

/-- NSLOTS (R205): 0 while no plate is loaded. -/
def State.nslots (s : State) : Nat :=
  match s.boot.plate with
  | some pl => pl.slots.length
  | none => 0

/-- First page, page count and Seal mark of memory slot `k` (R205). -/
def plateSlot (pl : Plate) (k : Nat) : Nat × Nat × Bool := pl.slots.getD k (0, 0, false)

def State.slotMap (s : State) (k : Nat) : Nat × Nat × Bool :=
  match s.boot.plate with
  | some pl => pl.slots.getD k (0, 0, false)
  | none => (0, 0, false)

/-- Address of the first byte of a slot, and its size in bytes. -/
def State.slotBase (s : State) (k : Nat) : Nat := bulkBase + pageSize * (s.slotMap k).1
def State.slotBytes (s : State) (k : Nat) : Nat := pageSize * (s.slotMap k).2.1
def State.slotSeal (s : State) (k : Nat) : Bool := (s.slotMap k).2.2

/-- The slot of a list, numbered from `k`, whose pages hold page `pg`. -/
def slotOfPage (pg : Nat) : Nat → List (Nat × Nat × Bool) → Option Nat
  | _, [] => none
  | k, (first, count, _) :: t =>
    if first ≤ pg ∧ pg < first + count then some k else slotOfPage pg (k + 1) t

/-- The memory slot in which an offset of the bulk window lies (R204, R206). -/
def State.slotAt (s : State) (off : Nat) : Option Nat :=
  match s.boot.plate with
  | some pl => slotOfPage (off / pageSize) 0 pl.slots
  | none => none

/-- Codes of LYR_SLOT_STATEk (R244). -/
def slotCode : SlotMode → Nat
  | .undef => 0
  | .free => 1
  | .filling => 2
  | .ready => 3
  | .scanning => 4
  | .retiring => 5

/-- A commit is still PENDING or READY (R170). -/
def Commit.live (c : Commit) : Bool :=
  match c.state with
  | .pending => true
  | .ready => true
  | _ => false

def LayerVals.en (v : LayerVals) : Bool := bit v.ctrl 0
def LayerVals.slotNo (v : LayerVals) : Nat := field v.slot 0 6
def LayerVals.width (v : LayerVals) : Nat := field v.src 0 12
def LayerVals.height (v : LayerVals) : Nat := field v.src 16 12
def LayerVals.x (v : LayerVals) : Int := signedOf 16 (field v.pos 0 16)
def LayerVals.y (v : LayerVals) : Int := signedOf 16 (field v.pos 16 16)

/-- The slot is named, with EN = 1, by a commit that is PENDING or READY (R212). -/
def State.claimed (s : State) (k : Nat) : Bool :=
  s.comp.commits.any fun c => c.live && c.layers.any fun (_, v) => v.en && v.slotNo == k

/-- Applied values of layer `n`, 6 for the Seal layer (R199). -/
def State.applied (s : State) (n : Nat) : LayerVals where
  slot := s.rd .cmpLyrSlot n
  src := s.rd .cmpLyrSrc n
  pos := s.rd .cmpLyrPos n
  ctrl := s.rd .cmpLyrCtrl n

/-- The slot is referenced: the applied state of a layer with EN = 1 names it (R209). -/
def State.referenced (s : State) (k : Nat) : Bool :=
  (List.range 7).any fun n => let v := s.applied n; v.en && v.slotNo == k

/-- A slot enters FREE; its incomplete mark clears (R279). -/
def SlotState.freed (x : SlotState) : SlotState := { x with mode := .free, incomplete := false }

/-- Refusal with SLOT_LEASED (R214). -/
def State.leased (s : State) (p : Port) : State :=
  ((s.flag .lyrEvent 0).count .lyrLeasedCnt (16 * portIx p) 16).pmc 0x22

/-- Memory slot of a streamed command, if it writes one (R279). -/
def Stream.slot (x : Stream) : Option Nat :=
  match x.kind with
  | .layer k _ => some k
  | .window k _ => some k
  | _ => none

/-- A write to memory slot `k` is in progress (R216): that of a streamed command, or the one that the arbiter serves. -/
def State.slotWriting (s : State) (k : Nat) : Bool :=
  (s.writing == some k && decide (s.now < s.arbFree)) || [Port.A, Port.B].any fun p =>
    match (s.port p).stream with
    | some x => x.slot == some k
    | none => false

/-- The slot table of R212 for a slot command, with BUSY under R216; action 0 OPEN, 1 READY, 2 RELEASE. -/
def State.slotAction (s : State) (p : Port) (k action : Nat) : Status × State :=
  let x := s.slot k
  match x.mode with
  | .undef => (.addrRange, s)
  | .scanning => (.slotLeased, s.leased p)
  | .retiring => (.slotLeased, s.leased p)
  | m =>
    if action = 1 then (.ok, s.onSlot k fun y => { y with mode := .ready })
    else if s.slotWriting k || (m = .ready && s.claimed k) then (.busy, s)
    else if action = 0 then (.ok, s.onSlot k fun y => { y with mode := .filling })
    else (.ok, s.onSlot k SlotState.freed)

/-- A slot command (R206, R208, R211, R212): the fields of LYR_SLOT_CMD. -/
def State.slotCommand (s : State) (p : Port) (k action : Nat) : Status × State :=
  match s.boot.plate with
  | none => (.notPlated, s)
  | some pl =>
    if pl.slots.length ≤ k then (.addrRange, s)
    else if (plateSlot pl k).2.2 && decide (pl.sealOwner ≠ p) then (.refusedOwner, s)
    else if 2 < action then (.state, s)
    else s.slotAction p k action

/-- The checks of a write of `n` bytes at byte `off` of slot `k` (R206, R208, R212, R270), in the order
of R25; `none` when the write may be performed. -/
def State.slotWriteRefusal (s : State) (p : Port) (k off n : Nat) : Option Status :=
  match s.boot.plate with
  | none => some .notPlated
  | some pl =>
    if pl.slots.length ≤ k then some .addrRange
    else if off % 4 ≠ 0 ∨ s.slotBytes k ≤ off then some .addrRange
    else if s.slotBytes k < off + n then some .lenRange
    else if (plateSlot pl k).2.2 && decide (pl.sealOwner ≠ p) then some .refusedOwner
    else
      match (s.slot k).mode with
      | .scanning => some .slotLeased
      | .retiring => some .slotLeased
      | _ => none

/-- Every page of `n` bytes from offset `off` of the bulk window lies in a slot (R206). -/
def State.pagesIn (s : State) (off n : Nat) : Bool :=
  (List.range ((off % pageSize + max n 1 - 1) / pageSize + 1)).all fun i => (s.slotAt (off + pageSize * i)).isSome

/-- The checks of a write of `n` bytes at offset `off` of the bulk window, which lies in slot `k` (R25, R206)
(DEDUCED, log 54). -/
def State.windowRefusal (s : State) (p : Port) (k off n : Nat) : Option Status :=
  if s.pagesIn off n then s.slotWriteRefusal p k (bulkBase + off - s.slotBase k) n else some .addrRange

/-- The state after a write was refused: SLOT_LEASED counts (R214). -/
def State.slotRefused (s : State) (p : Port) (st : Status) : State :=
  if st = .slotLeased then s.leased p else s

/-- A write opens its slot: FREE becomes FILLING (R212). -/
def State.slotTouched (s : State) (k : Nat) : State :=
  s.onSlot k fun x => if x.mode = .free then { x with mode := .filling } else x

/-- Words that a write stores at byte `off` of slot `k`; a streamed one has stored `before` words and stores `after` more. -/
def State.slotStore (s : State) (k off : Nat) (ws : List Word) (before after : Nat := 0) : State :=
  if ws = [] then s
  else
    let a := s.slotBase k + off
    { (s.storePart before after a ws).pmc 0x21 ((a + 4 * ws.length - 1) / 8 - a / 8 + 1) with writing := some k }

/-- A write to the slot has completed: its incomplete mark clears (R279). -/
def State.slotWritten (s : State) (k : Nat) : State :=
  s.onSlot k fun x => { x with incomplete := false }

/-- A whole write into a slot that passed its checks. One that holds no word leaves the slot and its incomplete mark as
they are (DESIGN CHOICE, log 104). -/
def State.slotWrite (s : State) (k off : Nat) (ws : List Word) : State :=
  if ws = [] then s else ((s.slotTouched k).slotStore k off ws).slotWritten k

/-! ### Palettes -/

def State.stages (s : State) : Port → List PalStage
  | .A => s.comp.stageA
  | .B => s.comp.stageB

def State.setStages (s : State) : Port → List PalStage → State
  | .A, l => s.onComp fun c => { c with stageA := l }
  | .B, l => s.onComp fun c => { c with stageB := l }

def State.stage (s : State) (p : Port) (pal : Nat) : PalStage := (s.stages p).getD pal {}

def State.onStage (s : State) (p : Port) (pal : Nat) (f : PalStage → PalStage) : State :=
  s.setStages p (modifyAt f pal (s.stages p))

/-- The applied palette `pal`. -/
def State.palette (s : State) (pal : Nat) : Tab Word := s.comp.pals.getD pal []

/-- LOCKED (R224): a live commit of the port carries the palette. -/
def State.palLocked (s : State) (p : Port) (pal : Nat) : Bool :=
  s.comp.commits.any fun c => c.live && decide (c.port = p) && c.pals.any fun (q, _) => q == pal

/-- The palette is the Seal palette of the loaded plate (R227). -/
def State.isSealPal (s : State) (pal : Nat) : Bool :=
  match s.boot.plate with
  | some pl => pl.sealPal == pal
  | none => false

/-- A read of DRV_PALp_i (R223, R227). -/
def State.palRead (s : State) (p : Port) (pal i : Nat) : Word :=
  if (s.stage p pal).dirty && !s.isSealPal pal then tabGet 0 (s.stage p pal).entries i
  else tabGet 0 (s.palette pal) i

/-- An accepted write of DRV_PALp_i (R223): the first write copies the whole applied palette. -/
def State.palWrite (s : State) (p : Port) (pal i : Nat) (v : Word) : State :=
  let base := s.palette pal
  s.onStage p pal fun x =>
    { entries := tabSet 0 (if x.dirty then x.entries else base) i v, dirty := true }

/-- A write of DRV_PAL_DISCARD (R226). -/
def State.palDiscard (s : State) (p : Port) (v : Word) : Status × State :=
  if (List.range 8).any fun q => bit v q && s.palLocked p q then (.busy, s)
  else (.ok, (List.range 8).foldl (fun t q => if bit v q then t.onStage p q fun _ => {} else t) s)

/-! ### Scalers -/

def State.bank (s : State) (j b : Nat) : Bank := s.comp.banks.getD (2 * j + b) {}

/-- Applied values of scaler `j` (R229). -/
def State.scaler (s : State) (j : Nat) : ScalerVals where
  out := s.rd .szrOut j
  hstep := s.rd .szrHstep j
  vstep := s.rd .szrVstep j
  hinit := s.rd .szrHinit j
  vinit := s.rd .szrVinit j
  ctrl := s.rd .szrCtrl j

def ScalerVals.bypass (v : ScalerVals) : Bool := bit v.ctrl 1
def ScalerVals.bankNo (v : ScalerVals) : Nat := field v.ctrl 0 1

/-- A bank is in use (R239). -/
def State.bankInUse (s : State) (j b : Nat) : Bool :=
  let uses (v : ScalerVals) : Bool := !v.bypass && v.bankNo == b
  uses (s.scaler j) || s.comp.commits.any fun c => c.live && c.scalers.any fun (i, v) => i == j && uses v

/-- One plus the highest vertical tap index that is not 0 in some phase (R240); entries of `cv` are at
6 * phase + j. -/
def tapsOf : Tab (BitVec 10) → Nat
  | [] => 1
  | (k, v) :: t => if v = 0 then tapsOf t else max (k % 6 + 1) (tapsOf t)

/-- The effective tap count n of a bank (R240). -/
def Bank.taps (b : Bank) : Nat := tapsOf b.cv

def Bank.hFull (b : Bank) : Bool := b.hload == BitVec.allOnes 64
def Bank.vFull (b : Bank) : Bool := b.vload == BitVec.allOnes 64

/-- The taps that a port has in SZR_CTAP0 to 3, tap 0 first (R238). -/
def State.ctaps (s : State) (p : Port) : List (BitVec 10) :=
  (List.range 8).map fun j => BitVec.ofNat 10 (field (s.rdp p .szrCtap (j / 2)) (16 * (j % 2)) 10)

def sumTaps (l : List (BitVec 10)) : Int := l.foldl (fun a t => a + t.toInt) 0

/-- Taps `l` written at key `k` upward. -/
def setTaps : Nat → List (BitVec 10) → Tab (BitVec 10) → Tab (BitVec 10)
  | _, [], t => t
  | k, v :: l, t => setTaps (k + 1) l (tabSet 0 t k v)

/-- SZR_CLOAD (R238): load one phase of one direction of one bank. -/
def State.cload (s : State) (p : Port) (v : Word) : Status × State :=
  let ph := field v 0 6
  let j := field v 12 2
  let b := field v 9 1
  let taps := if bit v 8 then (s.ctaps p).take 6 else s.ctaps p
  if sumTaps taps ≠ 512 then (.state, s)
  else if s.bankInUse j b then (.busy, s)
  else
    let load (x : Bank) : Bank :=
      if bit v 8 then
        { x with cv := setTaps (6 * ph) taps x.cv
                 vload := x.vload ||| ((1 : BitVec 64) <<< ph) }
      else
        { x with ch := setTaps (8 * ph) taps x.ch
                 hload := x.hload ||| ((1 : BitVec 64) <<< ph) }
    (.ok, s.onComp fun c => { c with banks := modifyAt load (2 * j + b) c.banks })

/-- The taps of a phase as SZR_CVAL0 to 3 show them (R247): word `k`. The positions 6 and 7 of a vertical phase read 0
(DESIGN CHOICE, log 102). -/
def State.cval (s : State) (v : Word) (k : Nat) : Word :=
  let bk := s.bank (field v 12 2) (field v 9 1)
  let ph := field v 0 6
  let tap (j : Nat) : Nat :=
    if bit v 8 then (if j < 6 then (tabGet 0 bk.cv (6 * ph + j)).toNat else 0)
    else (tabGet 0 bk.ch (8 * ph + j)).toNat
  word (tap (2 * k) + 65536 * tap (2 * k + 1))

/-- A write of SZR_CSEL captures the phase it names for the writing port (R247). -/
def State.csel (s : State) (p : Port) (v : Word) : State :=
  (List.range 4).foldl (fun t k => t.wrp p .szrCval (s.cval v k) k) s

/-- SZR_BANKj (R248). -/
def State.bankStatus (s : State) (j : Nat) : Word :=
  let half (b : Nat) : Nat :=
    let x := s.bank j b
    x.taps + 8 * boolNat x.hFull + 16 * boolNat x.vFull + 32 * boolNat (s.bankInUse j b)
  word (half 0 + 256 * half 1)

/-! ### What a layer offers at a pixel -/

/-- Bits per pixel of a format code (R244). -/
def bppOf (code : Nat) : Nat := 2 ^ code

/-- Row stride S in bytes (R218). -/
def strideOf (w b : Nat) : Nat := 4 * ((w * b + 31) / 32)

/-- The index of source pixel `(i, r)` of a layer (R218) with `b` bits per pixel in the slot at `base`. -/
def indexAt (m : List Host.Cell) (base w b i r : Nat) : Nat :=
  let byte := memByte m (base + r * strideOf w b + i * b / 8)
  (byte.toNat >>> (i * b % 8)) % 2 ^ b

def clampInt (z lo hi : Int) : Int := if z < lo then lo else if hi < z then hi else z

/-- The palette entry that source pixel `(i, r)` of layer `n` selects (R220). -/
def Frame.entry (f : Frame) (n i r : Nat) : Word :=
  match f.plate with
  | none => 0
  | some pl =>
    let v := f.layers.getD n {}
    let b := bppOf (pl.fmt.getD n 0)
    let pal := if n = 6 then pl.sealPal else pl.pal.getD n 0
    let base := bulkBase + pageSize * (plateSlot pl v.slotNo).1
    tabGet 0 (f.palettes.getD pal []) (indexAt f.mem base v.width b i r)

/-- The entry at the clamped source position (R233). -/
def Frame.entryC (f : Frame) (n : Nat) (i r : Int) : Word :=
  let v := f.layers.getD n {}
  f.entry n (clampInt i 0 (v.width - 1)).toNat (clampInt r 0 (v.height - 1)).toNat

/-- Luminance and presence that an entry stands for (R246). -/
def lumOf (e : Word) : Nat := field e 0 16
def isTransparent (e : Word) : Bool := bit e 16

/-- Narrowing of a filter sum (R234, R235): arithmetic shift and clamp. -/
def narrow (acc : Int) : Nat := (clampInt ((acc + 256) / 512) 0 65535).toNat

/-- The horizontal pass at source row `r` (R234). -/
def Frame.hpass (f : Frame) (n : Nat) (bk : Bank) (phx : Nat) (sx r : Int) : Nat :=
  narrow ((List.range 8).foldl (fun a j =>
    a + (tabGet 0 bk.ch (8 * phx + j)).toInt * (lumOf (f.entryC n (sx + j - 3) r) : Int)) 0)

/-- The scaled layer at an output pixel (R232 to R236): its luminance, none where it is transparent. -/
def Frame.scaled (f : Frame) (n : Nat) (sv : ScalerVals) (bk : Bank) (ox oy : Nat) : Option Nat :=
  let ax : Int := signedOf 32 sv.hinit.toNat + ox * (field sv.hstep 0 19 : Int)
  let ay : Int := signedOf 32 sv.vinit.toNat + oy * (field sv.vstep 0 19 : Int)
  let sx := ax / 65536
  let sy := ay / 65536
  let phx := (ax / 1024 % 64).toNat
  let phy := (ay / 1024 % 64).toNat
  let taps := bk.taps
  let acc := (List.range taps).foldl (fun a j =>
    a + (tabGet 0 bk.cv (6 * phy + j)).toInt
      * (f.hpass n bk phx sx (sy + j - ((taps - 1) / 2 : Nat)) : Int)) (0 : Int)
  if isTransparent (f.entryC n ((ax + 0x8000) / 65536) ((ay + 0x8000) / 65536)) then none
  else some (narrow acc)

/-- Scaler of general layer `n` whose applied BYPASS is 0, if it has one (R228, R230). -/
def Frame.scalerOf (f : Frame) (n : Nat) : Option ScalerVals :=
  match f.plate with
  | none => none
  | some pl =>
    let j := pl.szr.getD n 7
    if n < 6 ∧ j < 4 then
      let v := f.scalers.getD j {}
      if v.bypass then none else some v
    else none

/-- The output rectangle of a layer (R220, R231): corner and size. -/
def Frame.layerRect (f : Frame) (n : Nat) : Int × Int × Nat × Nat :=
  let v := f.layers.getD n {}
  match f.scalerOf n with
  | some sv => (v.x, v.y, field sv.out 0 12, field sv.out 16 12)
  | none => (v.x, v.y, v.width, v.height)

/-- What layer `n` offers at pixel `(x, y)`: a luminance where the layer is present, else none (R154,
R220, R231, R236). -/
def Frame.offer (f : Frame) (n x y : Nat) : Option Nat :=
  let v := f.layers.getD n {}
  if !v.en then none
  else
    let (x0, y0, w, h) := f.layerRect n
    let dx := (x : Int) - x0
    let dy := (y : Int) - y0
    if 0 ≤ dx ∧ dx < w ∧ 0 ≤ dy ∧ dy < h then
      match f.scalerOf n with
      | some sv =>
        let j := match f.plate with
          | some pl => pl.szr.getD n 7
          | none => 7
        f.scaled n sv (f.banks.getD (2 * j + sv.bankNo) {}) dx.toNat dy.toNat
      | none =>
        let e := f.entry n dx.toNat dy.toNat
        if isTransparent e then none else some (lumOf e)
    else none

end Sys2Proof.Machine
end

