-- ==== Sys2Proof/Machine/Compose.lean ====
section
/-! DEFINITION. The composed value of a pixel (R153 to R157, R191, R192), the signatures of proof
rectangles (R184) and the content check value of the Seal layer (R178). -/

namespace Sys2Proof.Machine

/-- The operations of R156. -/
def layerOp (code base w : Nat) : Nat :=
  match code with
  | 0 => w
  | 1 => max base w
  | 2 => min base w
  | 3 => (base * (w + w / 32768) + 32768) / 65536
  | _ => min (base + w) 65535

/-- The stack of the general layers `n` upward, `fuel` of them (R155). -/
def Frame.stack (f : Frame) (ops : List Nat) (x y : Nat) : Nat → Nat → Nat → Nat
  | 0, _, base => base
  | fuel + 1, n, base =>
    match f.offer n x y with
    | some w => f.stack ops x y fuel (n + 1) (layerOp (ops.getD n 0) base w)
    | none => f.stack ops x y fuel (n + 1) base

/-- The entry of the fallback pattern at pixel `(x, y)` (R191, R192); a transparent entry gives 0. -/
def patternAt (m : List Host.Cell) (base x y : Nat) : Nat :=
  let i := x / 4
  let b := memByte m (base + 256 * (y / 4) + i / 2)
  let idx := if i % 2 = 0 then b.toNat % 16 else b.toNat / 16
  let e := memWord m (base + 0x8000 + 4 * idx)
  if isTransparent e then 0 else lumOf e

/-- Address of a cellar bank (R610). -/
def bankBase (b : Nat) : Nat := cellarBase + 0x10000 * b

/-- The composed value v of R155; in fallback the pattern stands in place of the general layers. -/
def Frame.composed (f : Frame) (x y : Nat) : Nat :=
  match f.plate with
  | none => 0
  | some pl =>
    let base :=
      if f.fallback then (if f.pattern then patternAt f.mem (bankBase pl.fbBank) x y else 0)
      else f.stack pl.ops x y pl.nlayers 0 0
    match f.offer 6 x y with
    | some w => w
    | none => base

/-- Pixels of a rectangle in raster order. -/
def rectPixels (x0 y0 w h : Nat) : List (Nat × Nat) :=
  (List.range h).flatMap fun j => (List.range w).map fun i => (x0 + i, y0 + j)

def RectVals.x0 (r : RectVals) : Nat := field r.org 0 11
def RectVals.y0 (r : RectVals) : Nat := field r.org 16 9
def RectVals.w (r : RectVals) : Nat := field r.size 0 12
def RectVals.h (r : RectVals) : Nat := field r.size 16 10

/-- The signature of a rectangle (R184); 0 while it is disabled (R186). -/
def Frame.signature (f : Frame) (r : RectVals) : Word :=
  if r.w = 0 then 0
  else crc32c ((rectPixels r.x0 r.y0 r.w r.h).flatMap fun (x, y) =>
    let v := word (f.composed x y)
    [byteOf v 0, byteOf v 1])

/-- The bytes that R178 covers: row by row, the first ceiling(W * b / 8) bytes of each. -/
def sealBytes (m : List Host.Cell) (base w h b : Nat) : List Byte :=
  (List.range h).flatMap fun r => memBytes m (base + r * strideOf w b) ((w * b + 7) / 8)

/-- The content check value of the Seal layer with the given values (R178). -/
def sealCrc (pl : Plate) (m : List Host.Cell) (v : LayerVals) : Word :=
  crc32c (sealBytes m (bulkBase + pageSize * (plateSlot pl v.slotNo).1) v.width v.height
    (bppOf (pl.fmt.getD 6 0)))

/-- The check value of the fallback pattern in a bank (R191, R196), read with the bits `disturb` wrong, agrees with the
one it holds. -/
def patternGood (m : List Host.Cell) (bank : Nat) (disturb : Word) : Bool :=
  crc32c (memBytes m (bankBase bank) 0x8040) ^^^ disturb == memWord m (bankBase bank + 0x8040)

/-- The memory with the plate's fallback pattern in its bank (R190, R191) (DEDUCED, log 38). -/
def loadPattern (pl : Plate) (m : List Host.Cell) : List Host.Cell :=
  let base := bankBase pl.fbBank
  let rest := tabFilter (fun a => decide (a < base) || decide (base + 0x10000 ≤ a)) m
  pl.pattern.foldl (fun t (o, b) => if o < 0x8044 then memSet t (base + o) b else t) rest

end Sys2Proof.Machine
end

