-- ==== Sys2Proof/Machine/DriveWord.lean ====
section
/-! DEFINITION. From luminance to drive word (R115 to R149): gains, fill-in, budget scale, charge, the
hybrid split, the predicted currents and the required VLED, all as functions of the frame's inputs. -/

namespace Sys2Proof.Machine

/-- Region of a pixel (R11). -/
def regionOf (x y : Nat) : Nat := 8 * (x / 1024) + y / 64

/-- Tile of a pixel (R11). -/
def tileOf (x y : Nat) : Nat := y / 32 * 32 + x / 64

/-- Working sink of a pixel within its tile (R11). -/
def sinkOf (x y : Nat) : Nat := 64 * (y % 32 / 8) + x % 64

/-- Number of a pixel in the tables of the state. -/
def pixelNo (x y : Nat) : Nat := 2048 * y + x

/-- Full-scale current of a region in µA (R79). -/
def ifsOf (ifs : Word) (g : Nat) : Nat := 20 * 2 ^ field ifs (2 * g) 2

/-- Slot length L of a timing mode (R77). -/
def slotLen : Nat → Nat
  | 0 => 16384
  | 1 => 12288
  | 2 => 8192
  | _ => 32768

def Timing.len (t : Timing) : Nat := slotLen t.mode

/-- On-window W (R72, R77). -/
def Timing.window (t : Timing) : Nat := t.len - t.blank

/-! ### Gains -/

/-- Segment and weight of a temperature (R121). -/
def segment (t : Int) : Nat × Nat :=
  let tc := clampInt t (-160) 600
  if 360 ≤ tc then (2, (((tc - 360) * 1024 + 120) / 240).toNat)
  else if 100 ≤ tc then (1, (((tc - 100) * 1024 + 130) / 260).toNat)
  else (0, (((tc + 160) * 1024 + 130) / 260).toNat)

/-- Byte of a region block of the storeroom. -/
def StoreBlock.byte (b : StoreBlock) (off : Nat) : Byte := tabGet b.fill b.bytes off

/-- Gain code of a pixel at temperature point `k` (R378). -/
def Frame.code (f : Frame) (x y k : Nat) : Nat :=
  ((f.store.getD (regionOf x y) {}).byte (4 * (1024 * (y % 64) + x % 1024) + k)).toNat

/-- Per-pixel gain Gp (R122, R123). -/
def Frame.gp (f : Frame) (x y : Nat) : Nat :=
  let g := regionOf x y
  if f.fluxFb.getLsbD g then 524288
  else
    let (k, w) := segment (f.temps.getD g 100)
    393216 + f.code x y k * (1024 - w) + f.code x y (k + 1) * w

/-- Steps 1 and 2 on a value (R122, R125): the gains of pixel `(x, y)`. -/
def Frame.gain (f : Frame) (x y v : Nat) : Nat :=
  let v1 := (v * f.gp x y + 262144) / 524288
  (v1 * f.rge.getD (regionOf x y) 0x8000 + 16384) / 32768

/-! ### Fill-in -/

def Frame.masked (f : Frame) (x y : Nat) : Bool := tabGet 0 f.mask (pixelNo x y) != 0

/-- The 4-neighbours of a pixel that lie in the field (R126). -/
def neighbours (x y : Nat) : List (Nat × Nat) :=
  (if 0 < x then [(x - 1, y)] else []) ++ (if x + 1 < 2048 then [(x + 1, y)] else [])
    ++ (if 0 < y then [(x, y - 1)] else []) ++ (if y + 1 < 512 then [(x, y + 1)] else [])

/-- Number of eligible neighbours of a masked pixel (R126). -/
def Frame.eligible (f : Frame) (x y : Nat) : Nat :=
  ((neighbours x y).filter fun (a, b) => !f.masked a b).length

/-- The share that masked pixel `(x, y)` gives to each eligible neighbour (R127). -/
def Frame.share (f : Frame) (x y : Nat) : Nat :=
  let k := f.eligible x y
  if k = 0 then 0 else ((f.composed x y * f.fill + 128) / 256) / k

/-- The sum of the contributions that an unmasked pixel receives (R127, R128). -/
def Frame.fillIn (f : Frame) (x y : Nat) : Nat :=
  ((neighbours x y).map fun (a, b) => if f.masked a b then f.gain x y (f.share a b) else 0).sum

/-- vc of R128. -/
def Frame.vc (f : Frame) (x y : Nat) : Nat := min (f.gain x y (f.composed x y) + f.fillIn x y) 65535

/-! ### Charge and split -/

/-- The charge Q of a value in a timing (R131). -/
def chargeOf (t : Timing) (u : Nat) : Nat := min (u * 16450560 / 65535 * t.len / 16384) (1020 * t.window)

/-- The split of R139: A, P and F. -/
def splitOf (xover w q : Nat) : Nat × Nat × Nat :=
  if q = 0 then (0, 0, 0)
  else
    let a := max xover ((q + 4 * w - 1) / (4 * w))
    let pq := (q + a / 2) / a
    (a, pq / 4, pq % 4)

/-- The drive word of a masked pixel (R130). -/
def maskWord : Word := 0x04000000

/-- The generated drive word of a pixel for scale factor `sc` (R115, R135, R140, R141). -/
def Frame.driveWith (f : Frame) (sc x y : Nat) : Word :=
  if f.masked x y then maskWord
  else
    let v4 := f.vc x y * sc / 1024
    let (a, p, fr) := splitOf f.xover f.timing.window (chargeOf f.timing v4)
    word (a + 256 * p + 2 ^ 23 * fr + 2 ^ 27 * boolNat (f.fillIn x y != 0))

/-! ### Sums over the field -/

/-- The smallest box that holds every pixel whose general layers and Seal layer can be present, with a
margin of one pixel for fill-in: `x0`, `x1`, `y0`, `y1`, the upper bounds excluded. Outside it v and every
contribution is 0, so every drive word there has charge 0. In fallback it is the whole field. -/
def Frame.box (f : Frame) : Nat × Nat × Nat × Nat :=
  if f.fallback && f.pattern then (0, 2048, 0, 512)
  else
    let rects := (List.range 7).filterMap fun n =>
      if (f.layers.getD n {}).en then some (f.layerRect n) else none
    rects.foldl (fun (a, b, c, d) (x, y, w, h) =>
      (min a (clampInt (x - 1) 0 2048).toNat, max b (clampInt (x + w + 1) 0 2048).toNat,
       min c (clampInt (y - 1) 0 512).toNat, max d (clampInt (y + h + 1) 0 512).toNat)) (2048, 0, 512, 0)

/-- The sum of `g` over the pixels of `[x0, x1) * [y0, y1)` that lie in the frame's box. -/
def Frame.sumOver (f : Frame) (x0 x1 y0 y1 : Nat) (g : Nat → Nat → Nat) : Nat :=
  let (a, b, c, d) := f.box
  let xa := max x0 a
  let xb := min x1 b
  let ya := max y0 c
  let yb := min y1 d
  Nat.fold (yb - ya) (fun j _ acc => Nat.fold (xb - xa) (fun i _ acc => acc + g (xa + i) (ya + j)) acc) 0

/-- Sum over the pixels of region G (R12). -/
def Frame.sumRegion (f : Frame) (g : Nat) (h : Nat → Nat → Nat) : Nat :=
  f.sumOver (1024 * (g / 8)) (1024 * (g / 8) + 1024) (64 * (g % 8)) (64 * (g % 8) + 64) h

/-- Charge of a pixel before scaling; a masked pixel contributes 0 (R133). -/
def Frame.charge (f : Frame) (x y : Nat) : Nat :=
  if f.masked x y then 0 else chargeOf f.timing (f.vc x y)

/-- N_G of R133. -/
def Frame.nRegion (f : Frame) (g : Nat) : Nat := ifsOf f.ifs g * f.sumRegion g f.charge

/-- N_G of all sixteen regions. -/
def Frame.nAll (f : Frame) : List Nat := (List.range 16).map f.nRegion

/-- The limits of R134 in the order of their LIMIT codes: code, budget in mA, N. -/
def Frame.limits (f : Frame) (ns : List Nat) : List (Nat × Nat × Nat) :=
  [(1, f.budPkg, ns.sum), (2, f.budDieL, (ns.take 8).sum), (3, f.budDieR, (ns.drop 8).sum)]
    ++ (List.range 16).map fun g => (16 + g, f.budReg.getD g 0, ns.getD g 0)

/-- S and the LIMIT code that set it (R134, R137), over limits in rising order of code. -/
def scaleOf (len : Nat) : List (Nat × Nat × Nat) → Nat × Nat
  | [] => (1024, 0)
  | (code, b, n) :: t =>
    let lim := b * 1000 * 8192 * len
    let (s, c) := scaleOf len t
    if lim < n then
      let sx := 1024 * lim / n
      if sx ≤ s then (sx, code) else (s, c)
    else (s, c)

/-- The budget scale factor and its limit (R134). -/
def Frame.scaleLimit (f : Frame) : Nat × Nat := scaleOf f.timing.len (f.limits f.nAll)

/-- The drive word of a pixel in this frame. -/
def Frame.drive (f : Frame) (x y : Nat) : Word := f.driveWith f.scale x y

/-- The pixel that sink `s` of tile `T` drives in line `m` (R13). -/
def pixelOf (t m s : Nat) : Nat × Nat := (64 * (t % 32) + s % 64, 32 * (t / 32) + 8 * (s / 64) + m)

/-- A tile is populated (R538). -/
def Frame.populated (f : Frame) (t : Nat) : Bool :=
  match f.plate with
  | some pl => pl.pop.getLsbD t
  | none => false

/-- The sum of A * IFS over line `m` of a die's populated tiles (R144). -/
def Frame.lineCurrent (f : Frame) (d m : Nat) : Nat :=
  f.sumOver (1024 * d) (1024 * d + 1024) 0 512 fun x y =>
    if y % 8 = m && f.populated (tileOf x y) then field (f.drive x y) 0 8 * ifsOf f.ifs (regionOf x y) else 0

/-- I_pk of a die in µA (R144). -/
def Frame.ipk (f : Frame) (d : Nat) : Nat :=
  ((List.range 8).map fun m => f.lineCurrent d m / 256).foldl max 0

/-- V_req of R145 in mV before limiting. -/
def vreqRaw (vf0 rs ipk head : Nat) (t : Int) : Int :=
  5 * ((((vf0 : Int) + head + t) * 1000000 + rs * ipk + 4999999) / 5000000)

/-- V_req of R145. -/
def vreqOf (z : Int) : Nat := (clampInt z 2700 4200).toNat

/-- Pixels with FILL = 1, and masked pixels without an eligible neighbour (R128, R129). -/
def Frame.fillCount (f : Frame) : Nat :=
  f.sumOver 0 2048 0 512 fun x y => boolNat (!f.masked x y && f.fillIn x y != 0)

def Frame.lostCount (f : Frame) : Nat :=
  (f.mask.filter fun (k, _) => f.eligible (k % 2048) (k / 2048) == 0).length

/-! ### Identities -/

/-- Pixels of the field in raster order. -/
def fieldPixels : List (Nat × Nat) := rectPixels 0 0 2048 512

/-- The drive signature (R143). -/
def Frame.driveSig (f : Frame) : Word :=
  crc32c (fieldPixels.flatMap fun (x, y) => bytesOfWord (f.drive x y))

/-- The mask identity (R61). -/
def Frame.maskId (f : Frame) : Word :=
  crc32c ((List.range 131072).map fun i =>
    BitVec.ofNat 8 (packBits ((List.range 8).map fun b => tabGet 0 f.mask (8 * i + b) != 0)))

/-- The bytes of a storeroom (R378, R382). -/
def storeId (st : List StoreBlock) : Word :=
  crc32c ((List.range 16).flatMap fun g => (List.range 262144).map fun i => (st.getD g {}).byte i)

/-- Trim of sink number `264 * T + s`, sign-extended to 16 bits (R387). -/
def trimBytes (tr : Tab (BitVec 9)) (k : Nat) : List Byte :=
  let w := (tabGet 0 tr k).signExtend 32
  [byteOf w 0, byteOf w 1]

/-- Tile T of local tile t of region G (R375: sixteen columns, two rows of tiles). -/
def tileOfLocal (g t : Nat) : Nat := 32 * (2 * (g % 8) + t / 16) + 16 * (g / 8) + t % 16

/-- The trim identity of region G (R387). -/
def trimId (tr : Tab (BitVec 9)) (g : Nat) : Word :=
  crc32c ((List.range 32).flatMap fun t => (List.range 264).flatMap fun k =>
    trimBytes tr (264 * tileOfLocal g t + k))

/-- SCN_FREC_TEMPk (R59): regions 2k and 2k + 1. -/
def Frame.tempWord (f : Frame) (k : Nat) : Word :=
  word (bitsOf 16 (f.temps.getD (2 * k) 0) + 65536 * bitsOf 16 (f.temps.getD (2 * k + 1) 0))

/-- SCN_FREC_SNAP_ID (R61). -/
def Frame.snapId (f : Frame) : Word :=
  crc32c (bytesOfWords (storeId f.store :: (List.range 16).map (trimId f.trims)
    ++ (List.range 8).map f.tempWord))

/-- SCN_FREC_MODE (R60). -/
def Frame.modeWord (f : Frame) : Word :=
  word (f.timing.mode + 4 * boolNat f.fallback + 8 * boolNat (decide (f.scale < 1024))
    + 16 * boolNat (f.fluxFb != 0) + 256 * f.updated.toNat)

end Sys2Proof.Machine
end

