-- ==== Sys2Proof/Machine/Tap.lean ====
section
/-! DEFINITION. The test access port (R547, R606): its controller, its instruction and its boundary-scan register. No row of
the table moves TCK or TRST_N, and TRST_N left open reads low, so every run of the model finds the port in reset
(DESIGN CHOICE, log 84). -/

namespace Sys2Proof.Machine

/-- The lands that the boundary-scan register covers, in the order of R587: those of type I, O, IOD and OD at VIO
level, and FAULT_ALIVE. The lands of the port itself have no cell (PRESUMED, log 84). -/
def boundaryLands : List String :=
  ["FAULT_ALIVE", "RESET_N", "AMSCL", "AMSDA", "BMSCL", "BMSDA", "AVSCLK", "AVSMDATA", "AVSSDATA", "SYNCIN", "SYNCOUT",
   "CAMSYNC", "MADDR0", "MADDR1", "SYNCROLE"]

/-- The next state of the controller at a rising edge of TCK (IEEE 1149.1; PRESUMED, log 84). -/
def TapState.next (tms : Bool) : TapState → TapState
  | .reset => if tms then .reset else .idle
  | .idle => if tms then .selectDr else .idle
  | .selectDr => if tms then .selectIr else .captureDr
  | .captureDr => if tms then .exit1Dr else .shiftDr
  | .shiftDr => if tms then .exit1Dr else .shiftDr
  | .exit1Dr => if tms then .updateDr else .pauseDr
  | .pauseDr => if tms then .exit2Dr else .pauseDr
  | .exit2Dr => if tms then .updateDr else .shiftDr
  | .updateDr => if tms then .selectDr else .idle
  | .selectIr => if tms then .reset else .captureIr
  | .captureIr => if tms then .exit1Ir else .shiftIr
  | .shiftIr => if tms then .exit1Ir else .shiftIr
  | .exit1Ir => if tms then .updateIr else .pauseIr
  | .pauseIr => if tms then .exit2Ir else .pauseIr
  | .exit2Ir => if tms then .updateIr else .shiftIr
  | .updateIr => if tms then .selectDr else .idle

/-- The instructions that a life-cycle state permits (R547): in FIELD boundary scan only. -/
def tapPermits (lc : Nat) : TapInstr → Bool
  | .bypass => true
  | .sample => true
  | .extest => true
  | .other => decide (lc ≠ 2)

/-- The instruction that the bits of the instruction register stand for: all 1 is BYPASS (PRESUMED, log 84). -/
def tapInstr (bits : List Bool) : TapInstr := if bits.all id then .bypass else Config.tapCode bits

/-- The instruction shifts the boundary-scan register. -/
def scansBoundary : TapInstr → Bool
  | .sample => true
  | .extest => true
  | _ => false

/-- The port in reset. -/
def Tap.reset (t : Tap) : Tap := { t with st := .reset, ir := .bypass }

/-- What a rising edge of TCK captures or shifts (IEEE 1149.1; PRESUMED, log 84); `pins` are the levels of the lands. The
instruction register captures 0 and 1 in its last two bits. -/
def Tap.edge (tdi : Bool) (pins : List Bool) (t : Tap) : Tap :=
  match t.st with
  | .captureDr => if scansBoundary t.ir then { t with cells := pins.take boundaryLands.length } else { t with byp := false }
  | .shiftDr => if scansBoundary t.ir then { t with cells := tdi :: t.cells.dropLast } else { t with byp := tdi }
  | .captureIr => { t with irBits := Config.tapCapture ++ [false, true] }
  | .shiftIr => { t with irBits := tdi :: t.irBits.dropLast }
  | _ => t

/-- A level of TRST_N: while it is low the port is held in reset. -/
def State.tapTrst (s : State) (high : Bool) : State :=
  { s with tap := { (if high then s.tap else s.tap.reset) with trstN := high } }

/-- A cycle of TCK with its TMS and TDI, rising edge and falling edge: an update loads the instruction, or BYPASS where the
life-cycle state does not permit it (R547), or the levels that the boundary cells drive. -/
def State.tapClock (s : State) (tms tdi : Bool) (pins : List Bool) : State :=
  let t := s.tap
  if !t.trstN then { s with tap := t.reset }
  else
    let st := t.st.next tms
    let u : Tap := { t.edge tdi pins with st := st }
    let ir := tapInstr u.irBits
    { s with tap :=
        match st with
        | .reset => u.reset
        | .updateIr => { u with ir := if tapPermits s.boot.otp.lc ir then ir else .bypass }
        | .updateDr => if scansBoundary u.ir then { u with driven := u.cells } else u
        | _ => u }

/-- TDO: high impedance (none) except while the port shifts data (R587). -/
def State.tdo (s : State) : Option Bool :=
  match s.tap.st with
  | .shiftDr => some (match s.tap.ir with
    | .bypass => s.tap.byp
    | .other => Config.tapData s.now
    | _ => s.tap.cells.getLastD false)
  | .shiftIr => some (s.tap.irBits.getLastD true)
  | _ => none

/-- Level of a land with a boundary cell whose own level would be `own`: the cell drives it in a boundary scan that drives
the lands (PRESUMED, log 84). -/
def State.land (s : State) (name : String) (own : Bool) : Bool :=
  if s.tap.ir = .extest then s.tap.driven.getD (boundaryLands.idxOf name) own else own

end Sys2Proof.Machine
end

