-- ==== Sys2Proof/Machine/Guardian.lean ====
section
/-! DEFINITION. The outputs of the guardian die (R27, R482 to R500): kill lines, the conditions of PO1 and
PO2, FAULT_ALIVE, and the array held dark. -/

namespace Sys2Proof.Machine

/-! ### Suspension of a die -/

/-- A condition of R342 arises on a die: a running diagnostic period, the running calibration steps and flux-monitor
interval of its regions take note (R368, R370, R404, R414). -/
def State.suspend (s : State) (d : Die) : State :=
  let t := s.onDiag fun x => match d with
    | .L => { x with suspL := x.suspL || x.period.isSome }
    | .R => { x with suspR := x.suspR || x.period.isSome }
  t.onCal fun c =>
    let note (g : Nat) (r : CalRegion) : CalRegion :=
      if dieOf g = d then { r with upset := r.upset || r.stepOn, fluxUpset := r.fluxUpset || c.flux.isSome } else r
    { c with regions := c.regions.mapIdx note }

/-! ### Conditions -/

/-- A pair is closed in state CLOSED and open in every other state (R483). -/
def Pair.isClosed (x : Pair) : Bool := decide (x.state = .closed)

/-- The guardian asserts both kill lines (R498). -/
def State.kill (s : State) : Bool := !s.guard.sia.isClosed || !s.guard.sib.isClosed || s.guard.action

/-- A DARK or HALT reaction is latched. -/
def State.darkLatched (s : State) : Bool := s.faults.dark || s.faults.halt

/-- An entry to STANDBY has switched its sinks off (R459, from step 1 on). -/
def State.leaving (s : State) : Bool :=
  match s.power.trans with
  | some t => decide (t.target = .standby) && decide (2 ≤ t.step)
  | none => false

/-- RUN or HOLD, or an entry to RUN that has reached step 3 of R460. -/
def State.runLike (s : State) : Bool :=
  match s.power.state with
  | .run => true
  | .hold => true
  | _ =>
    match s.power.trans with
    | some t => decide (t.target = .run) && decide (3 ≤ t.step)
    | none => false

/-- The condition of R486 on the power state and the array domains. -/
def State.po1Power (s : State) : Bool := s.runLike && s.domOn .arrL && s.domOn .arrR && !s.leaving

/-- A condition of R486 other than the power state fails. -/
def State.darkCause (s : State) : Bool := s.kill || s.darkLatched || s.guard.po1.ovl

/-- Every condition of R486 holds. -/
def State.po1Ok (s : State) : Bool := s.po1Power && !s.darkCause

/-- The array is held dark (R499). -/
def State.heldDark (s : State) : Bool := s.darkCause || (s.runLike && s.guard.darkWait)

/-- The conditions of R487 for PO2, without the readback of PO1. -/
def State.po2Want (s : State) : Bool :=
  let cfg := s.rd .safPoCfg
  (s.darkLatched || s.guard.action || (!s.guard.sia.isClosed && bit cfg 8)
    || (!s.guard.sib.isClosed && bit cfg 9)) && !s.guard.po2.ovl

/-- FAULT_ALIVE runs (R496). -/
def State.faRuns (s : State) : Bool :=
  s.guard.armed && !s.guard.action && !s.darkLatched && decide (s.power.state ≠ .sleep)
    && decide (s.power.state ≠ .off) && !s.guard.faLatched

/-! ### Switching the outputs -/

/-- An action of the guardian is recorded (R498, SAF_GREC). -/
def State.grec (s : State) (cause : Nat) : State := (s.setFld .safGrec 0 4 cause).count .safGrec 8 24

/-- SAF_TEST_CFG.PERIOD in time units (R489). -/
def State.testPeriod (s : State) : Nat := s.fld .safTestCfg 16 7 * 100 * msec

/-- Start and length of the period of the test counter that runs at instant `now` (R489, R630). -/
def Guard.testRuns (g : Guard) (now : Nat) : Nat × Nat :=
  if now < g.testAt + g.testLen then (g.testAt, g.testLen)
  else (g.testAt + g.testLen + (now - g.testAt - g.testLen) / g.testNext * g.testNext, g.testNext)

/-- The next instant, from `now` on, at which the counter of PO1 reaches 0, and that of PO2, half a period later (R489).
The counter runs from the start of the AON domain on, whatever the outputs are (DESIGN CHOICE, log 93). -/
def Guard.pulseAt (g : Guard) (po2 : Bool) (now : Nat) : Nat :=
  let (a, n) := g.testRuns now
  if !po2 then (if a = now then a else a + n)
  else if now ≤ a + n / 2 then a + n / 2
  else a + n + g.testNext / 2

/-- The counter of the tests takes SAF_TEST_CFG.PERIOD: the running period keeps its length (R630). -/
def State.takeTestCfg (s : State) : State :=
  s.onGuard fun g =>
    let (a, n) := g.testRuns s.now
    { g with testAt := a, testLen := n, testNext := s.testPeriod }

/-- A candidate needs more than an acknowledged target of rail 2 or 3 (R31, R146). -/
def State.candWaits (s : State) : Bool :=
  match s.comp.cand with
  | some c => decide ((s.rail 2).acked < c.vreqL) || decide ((s.rail 3).acked < c.vreqR)
  | none => false

/-- Discard the waiting candidate without a flip record. -/
def State.dropCand (s : State) : State :=
  { s with comp := { s.comp with cand := none }, scan := { s.scan with flipPend := false } }

/-- An output switches off (R491): in a pulse its result is discarded, and in the CK_AON cycle in which a pulse would
start there is none. -/
def Output.off (o : Output) (now : Nat) : Output :=
  let starts := o.pulse && decide (o.began / aonCycle = now / aonCycle)
  { o with cmd := false, rb := false, offDemand := none, pulse := o.pulse && !starts
           discard := o.pulse && !starts }

/-- PO1 switches off (R468): rails 2 and 3 lose their targets and requests, and a candidate that waited on
one is discarded (DEDUCED, log 27). -/
def State.po1Off (s : State) : State :=
  let s1 := if s.candWaits then s.dropCand else s
  let s2 := s1.onGuard fun g => { g with po1 := g.po1.off s.now }
  let clear (r : Rail) : Rail := { r with on := false, acked := 0, req := none, next := none, owed := false }
  (s2.onRail 2 clear).onRail 3 clear

/-- PO1 switches on unless PO2 reads on (R487); in a pulse it reads on from the pulse's end (R491)
(DEDUCED, log 27). -/
def State.po1On (s : State) : State :=
  if s.guard.po2.rb || s.guard.po1.cmd then s
  else s.onGuard fun g => { g with po1 := { g.po1 with cmd := true, rb := !g.po1.pulse, offDemand := none } }

def State.po2Off (s : State) : State := s.onGuard fun g => { g with po2 := g.po2.off s.now }

/-- PO2 switches on. -/
def State.po2On (s : State) : State :=
  s.onGuard fun g => { g with po2 := { g.po2 with cmd := true, rb := !g.po2.pulse } }

/-- SAF_PO_CFG.LAG in time units (R486) (DEDUCED, log 27). -/
def State.lag (s : State) : Nat := s.fld .safPoCfg 0 6 * (msec / 4)

/-- Half a period of FAULT_ALIVE in time units (R496). -/
def State.faHalf (s : State) : Nat := s.fld .safFaCfg 0 12 * aonCycle

/-- The divider of FAULT_ALIVE starts when its condition begins. -/
def State.faFollow (s : State) : State :=
  if s.faRuns && s.guard.faTimer.isNone then
    s.onGuard fun g => { g with faTimer := some (s.now, s.faHalf) }
  else s

/-- The guardian follows its conditions (R486, R487): an off-demand of PO1 starts or is cancelled, PO2
switches. -/
def State.guardOutputs (s : State) : State :=
  let s1 :=
    if s.guard.po1.cmd then
      if s.po1Ok then s.onGuard fun g => { g with po1 := { g.po1 with offDemand := none } }
      else
        match s.guard.po1.offDemand with
        | some _ => s
        | none => s.onGuard fun g => { g with po1 := { g.po1 with offDemand := some (s.now, s.lag) } }
    else s
  let s2 :=
    if s1.po2Want then
      if s1.guard.po1.cmd || s1.guard.po1.rb || s1.guard.po2.cmd then s1 else s1.po2On
    else if s1.guard.po2.cmd then s1.po2Off else s1
  s2.faFollow

/-! ### The array held dark -/

/-- A running pass loses its candidate (R499). -/
def Pass.lost (r : Pass) : Pass := { r with dropped := true }

/-- What R499 does while the array is held dark: no candidate, no flip, a running pass loses its
candidate, a relighting begins again, and in RUN or HOLD the dark lasts until PO1 reads on. -/
def State.darken (s : State) : State :=
  if s.heldDark then
    let u := (s.suspend .L).suspend .R
    { u with
      comp := { s.comp with
        cand := none
        fbAtFlip := false
        run := s.comp.run.map Pass.lost }
      scan := { s.scan with flipPend := false }
      power := { s.power with relightStep := 0 }
      guard := { s.guard with darkWait := s.guard.darkWait || s.runLike } }
  else s

/-! ### Injection and FAULT_ALIVE -/

/-- A field of SAF_INJ acts (R517): from the CK_AON cycle after its write on. -/
def State.injOn (s : State) (k : Nat) : Bool :=
  (if s.now / aonCycle ≤ s.guard.injAt then s.guard.injWas else s.guard.inj).getLsbD k

/-- Level of the FAULT_ALIVE land (R496, R596): below the lockout threshold of VIN its transistor is off, and the external
pull-up holds it high. -/
def State.faultAlive (s : State) : Bool := s.land "FAULT_ALIVE" (!s.power.vin || s.guard.faLevel)

/-! ### Status -/

/-- Codes of SAF_STATUS.SIA (R521). -/
def pairCode : PairState → Nat
  | .opened => 0
  | .closing => 1
  | .closed => 2
  | .opening => 3
  | .discrepancy => 4

/-- SAF_STATUS (R521). While a pair is OPEN, as both are from the start of the AON domain, KILL reads 1 (R484, R498;
DEDUCED, log 94). -/
def State.safStatus (s : State) : Word :=
  let g := s.guard
  word (pairCode g.sia.state + 16 * pairCode g.sib.state
    + 256 * packBits [g.sia.c1, g.sia.c2, g.sib.c1, g.sib.c2]
    + 4096 * packBits [g.po1.cmd && !g.po1.pulse, g.po1.rb, g.po2.cmd && !g.po2.pulse, g.po2.rb,
        s.faRuns, g.armed && !g.action, s.kill, g.po1.ovl, g.po2.ovl])

/-- A guardian cause of R498 is in force. -/
def State.guardCause (s : State) : Bool :=
  s.kill || s.guard.po1.ovl || s.guard.po2.ovl || s.guard.faLatched

/-- FLT_STATUS (R519). -/
def State.fltStatus (s : State) : Word :=
  let f := s.faults
  word (packBits [f.fallback, f.dark, f.halt, f.degraded, s.guardCause, s.heldDark])

end Sys2Proof.Machine
end

