-- ==== Sys2Proof/Machine/Rails.lean ====
section
/-! DEFINITION. The adaptive rails (R144 to R149, R466 to R471): requests, their answers and their
failures, the raises and lowers of the VLED rails, and the headroom loop. -/

namespace Sys2Proof.Machine

/-! ### Requests -/

/-- The guardian drives AVSBus, at CK_AON / 2 (R466): from step 4 of an entry to SLEEP to the end of a wake, and for step
1 of every start (R476); otherwise the power manager does, at CK_FAB / 8. -/
def State.guardianBus (s : State) : Bool :=
  !s.controlOn || (s.power.wake && decide (s.power.stage ≠ .complete))
    || match s.power.trans with
      | some t => decide (t.target = .sleep) && decide (4 ≤ t.step)
      | none => false

/-- A period of AVSCLK in time units (R466). -/
def State.avsPeriod (s : State) : Nat := if s.guardianBus then 2 * aonCycle else 8 * fabCycle

/-- The rail select value of rail `k`, and the Power Mode values for on and off (R466, R536): those of the loaded plate,
and those of the factory record before one is loaded, as in step 1 of every start (DEDUCED, log 95). -/
def State.railSelect (s : State) (k : Nat) : Nat :=
  match s.controlOn, s.boot.plate with
  | true, some pl => pl.railSel.getD k 0
  | _, _ => s.boot.otp.railSel.getD k 0

def State.powerMode (s : State) (on : Bool) : Nat :=
  match s.controlOn, s.boot.plate with
  | true, some pl => if on then pl.pmOn else pl.pmOff
  | _, _ => if on then s.boot.otp.pmOn else s.boot.otp.pmOff

/-- A frame goes out on AVSBus (R466). -/
def State.avsFrame (s : State) (k : Nat) (kind : AvsKind) (value : Option Nat) : State :=
  let f : AvsFrame := { select := s.railSelect k, kind := kind, value := value, guardian := s.guardianBus }
  s.onPower fun w => { w with avs := f :: w.avs }

/-- The write frame of a request (R466). -/
def State.avsWrite (s : State) (k : Nat) (power : Option Bool) (mv : Nat) : State :=
  match power with
  | some on => s.avsFrame k .powerMode (some (s.powerMode on))
  | none => s.avsFrame k .voltage (some mv)

/-- A request is sent to rail `k` (R466, R468); PWR_RAILk_CNT counts it (DEDUCED, log 56). -/
def State.railSend (s : State) (k : Nat) (power : Option Bool) (mv : Nat) (why : RailWhy) : State :=
  let s := if k = 2 then s.suspend .L else if k = 3 then s.suspend .R else s
  (((s.onRail k fun r =>
    { r with req := some { power := power, mv := mv, why := why, fails := 0, sent := s.now } }).avsWrite k power
    mv).count .pwrRailCnt 0 16 1 k).pmc 0x39

/-- A Voltage request, sent at once or after the one outstanding (R148): of several that wait, the newest is kept
(DESIGN CHOICE, log 73). -/
def State.railAsk (s : State) (k mv : Nat) (why : RailWhy) : State :=
  match (s.rail k).req with
  | none => s.railSend k none mv why
  | some _ => s.onRail k fun r => { r with next := some (mv, why) }

/-- T of a die (R470). -/
def State.hrT (s : State) : Die → Int
  | .L => s.power.hrL
  | .R => s.power.hrR

/-- The required voltage of a die for headroom target `h` and a peak current in µA, before limiting (R145): with the
present T. -/
def State.vreqNow (s : State) (d : Die) (h ipk : Nat) : Int :=
  match s.boot.plate with
  | none => 0
  | some pl =>
    match d with
    | .L => vreqRaw pl.vf0L pl.rsL ipk h s.power.hrL
    | .R => vreqRaw pl.vf0R pl.rsR ipk h s.power.hrR

/-- The required voltage of a die for a headroom target and a peak current (R145). -/
def State.vreq (s : State) (d : Die) (h ipk : Nat) : Nat := vreqOf (s.vreqNow d h ipk)

/-- A required voltage above 4,200 mV before limiting sets VLED_LIMIT (R145). -/
def State.noteLimit (s : State) (d : Die) (h ipk : Nat) : State :=
  if 4200 < s.vreqNow d h ipk then s.flag .drvEvent 1 else s

/-- The required voltage of the complete candidate on rail `k`. -/
def Candidate.vreq (c : Candidate) (k : Nat) : Nat := if k = 2 then c.vreqL else c.vreqR

/-- The complete candidate needs more than the acknowledged target of rail `k` (R31, R149). -/
def State.candWaitsOn (s : State) (k : Nat) : Bool :=
  match s.comp.cand with
  | some c => decide ((s.rail k).acked < c.vreq k)
  | none => false

/-- The raise of R146 on one VLED rail: sent when the complete candidate needs more than the
acknowledged target and no request is outstanding. -/
def State.raise (s : State) (k : Nat) : State :=
  match s.comp.cand with
  | none => s
  | some c =>
    if (s.rail k).acked < c.vreq k ∧ (s.rail k).req = none then s.railSend k none (c.vreq k) .raise else s

/-- The raises of a complete candidate (R146). -/
def State.raises (s : State) : State := (s.raise 2).raise 3

/-- The candidate waits for no VLED acknowledgement (R31). -/
def Candidate.ready (c : Candidate) (s : State) : Bool :=
  decide (c.vreqL ≤ (s.rail 2).acked) && decide (c.vreqR ≤ (s.rail 3).acked)

/-- An adaptive rail after its outstanding request has been acknowledged (R468). -/
def Rail.taken (r : Rail) (q : RailReq) : Rail :=
  match q.power with
  | some false => { r with on := false, acked := 0, req := none }
  | some true => { r with on := true, req := none }
  | none => { r with acked := q.mv, req := none }

/-- The larger of `need` and the V_req of a complete candidate on rail `k` (R147). -/
def State.candNeed (s : State) (k need : Nat) : Nat :=
  match s.comp.cand with
  | some c => max need (c.vreq k)
  | none => need

/-- After a request has ended: the raise of a waiting candidate, else the request that waits (R148). -/
def State.railNext (s : State) (k : Nat) : State :=
  let s1 := if 2 ≤ k then s.raise k else s
  match (s1.rail k).req, (s1.rail k).next with
  | none, some (mv, why) =>
    let s2 := s1.onRail k fun r => { r with next := none }
    let n := if why = .lower then s2.candNeed k mv else mv
    if (s2.rail k).acked = n then s2 else s2.railSend k none n why
  | _, _ => s1

/-- The outstanding request of rail `k` is acknowledged (R468). -/
def State.railTake (s : State) (k : Nat) (q : RailReq) : State := s.onRail k fun r => r.taken q

/-- The outstanding request is sent again (R469) (DEDUCED, log 56). -/
def State.railAgain (s : State) (k fails : Nat) : State :=
  match (s.rail k).req with
  | none => s
  | some q =>
    ((s.onRail k fun r => { r with req := some { q with fails := fails, sent := s.now } }).avsWrite k q.power q.mv).pmc
      0x39

/-- One attempt of a request fails (R468): NACK or timeout counts (DEDUCED, log 56). -/
def State.railCountFail (s : State) (k : Nat) (nack : Bool) : State :=
  s.count .pwrRailCnt (if nack then 24 else 16) 8 1 k

/-- The source that a fourth failure reports (R469, R479): source and detail. -/
def railSource (k : Nat) (nack : Bool) : Nat × Nat :=
  if nack then (0x04, k) else if k < 2 then (0x0A, k) else (k, k)

/-- The fourth failure of a request on rail 2 or 3, or on rail 0 or 1 outside an entry (R149, R469): the
rail stays at its acknowledged target, the source is reported, and a candidate that waited for the raise is
discarded. A failed lower or loop request is owed (R469). -/
def State.railGivesUp (s : State) (k : Nat) (nack : Bool) (q : RailReq) : State :=
  let owed := decide (q.why = .lower) || decide (q.why = .loop)
  let s1 := (s.onRail k fun r => { r with req := none, owed := r.owed || owed }).flag .pwrEvent 5
  let s2 := if q.why = .raise ∧ s1.candWaitsOn k then s1.dropCand else s1
  s2.report (railSource k nack).1 (railSource k nack).2

/-- The registers stand at the Reset column (R612): the processor has not yet been released (R530, phase A). -/
def State.justReset (s : State) : Bool := decide (s.power.stage = .phase .a)

/-- PWR_RAILk (R480). After the register reset it reads 0, though rail 0 is at its target: the power manager shows the
rails once phase A is over (DEDUCED, log 115). -/
def State.railStatus (s : State) (k : Nat) : Word :=
  let r := s.rail k
  if s.justReset then 0
  else
    match r.req with
    | some q => word (r.acked + 2 ^ 16 * q.mv + 2 ^ 31)
    | none => word r.acked

/-! ### Suspension of sampling -/

/-- Code of VLED of a die as last measured (R342, R426). -/
def State.vled (s : State) : Die → Nat
  | .L => s.diag.vledL
  | .R => s.diag.vledR

/-- VLED as last measured lies outside the acknowledged target by more than 100 mV. -/
def State.vledOff (s : State) (d : Die) : Bool :=
  decide (100 * 65536 < ((s.vled d * 5000 : Nat) - ((s.rail (2 + dieIx d)).acked * 65536 : Nat) : Int).natAbs)

/-- The conditions of R342 that hold for both kinds of sample: kill line, PO1, VLED rail. -/
def State.dieSuspended (s : State) (d : Die) : Bool :=
  s.kill || !s.guard.po1.cmd || (s.rail (2 + dieIx d)).req.isSome || s.vledOff d

/-! ### The lower request and the headroom loop -/

/-- At a flip boundary (R147): the largest V_req of the flipped frame and any complete candidate is sent
as a lower request where the acknowledged target is higher; an outstanding request completes first (R148). -/
def State.lowerRail (s : State) (k need : Nat) : State :=
  let top := match (s.rail k).req with
    | some q => max (s.rail k).acked q.mv
    | none => (s.rail k).acked
  if s.candNeed k need < top then s.railAsk k (if (s.rail k).req.isSome then need else s.candNeed k need) .lower
  else s

def State.lowerRails (s : State) (needL needR : Nat) : State := (s.lowerRail 2 needL).lowerRail 3 needR

/-- T of a die becomes `t` (R470). -/
def State.setHrT (s : State) (d : Die) (t : Int) : State :=
  s.onPower fun w => match d with
    | .L => { w with hrL := t }
    | .R => { w with hrR := t }

/-- The step of R470 on T for a known hmin. -/
def hrStep (t : Int) (hmin h dead : Nat) : Int :=
  let t1 := if hmin < h then t + (min 50 (5 * ((h - hmin + 4) / 5)) : Nat)
    else if h + dead < hmin then t - 5 else t
  clampInt t1 (-300) 600

/-- Updates of a die in a row with hmin below 100 mV (R471). -/
def State.hrLow (s : State) : Die → Nat
  | .L => s.power.hrLowL
  | .R => s.power.hrLowR

def State.setHrLow (s : State) (d : Die) (n : Nat) : State :=
  s.onPower fun w => match d with
    | .L => { w with hrLowL := n }
    | .R => { w with hrLowR := n }

/-- The lit frame (R81): the frame of the active buffer. -/
def State.litFrame (s : State) : Option Frame := if s.scan.abuf then s.scan.buf1.frame else s.scan.buf0.frame

/-- The V_req of the lit frame, with the present H and T, is sent to the rail as a raise or a lower (R470, R481). -/
def State.hrRequest (s : State) (d : Die) : State :=
  match s.litFrame, s.boot.plate with
  | some f, some _ =>
    let k := 2 + dieIx d
    let i := f.ipk (dieIx d)
    let h := s.fld .pwrHrCfg 0 10
    let s1 := (s.noteLimit d h i).onRail k fun r => { r with owed := false }
    if s.vreq d h i = (s.rail k).acked ∧ (s.rail k).req = none then s1 else s1.railAsk k (s.vreq d h i) .loop
  | _, _ => s

/-- The latest HMIN results of a die's regions, in mV, of those that had a conducting sink in the slot that the result
covers (R425, R470). A retired converter has none (R471). -/
def State.hmins (s : State) (d : Die) : List Nat :=
  ((List.range 8).map fun i => s.conv (8 * dieIx d + i)).filterMap fun c =>
    if c.conducted && !c.retired then some (tabGet 0 c.latest 2 * 1250 / 16384) else none

/-- The running period of the headroom loop of a die: its start and length (R470). -/
def State.hrTim (s : State) : Die → Nat × Nat
  | .L => s.power.hrTimL
  | .R => s.power.hrTimR

def State.setHrTim (s : State) (d : Die) (t : Nat × Nat) : State :=
  s.onPower fun w => match d with
    | .L => { w with hrTimL := t }
    | .R => { w with hrTimR := t }

/-- The update of one die with the lowest of its results (R470, R471). -/
def State.headroomStep (s : State) (d : Die) (hmin : Nat) : State :=
  let old := s.hrT d
  let new := hrStep old hmin (s.fld .pwrHrCfg 0 10) (s.fld .pwrHrCfg 24 8)
  let s1 := (s.setHrT d new).setFld .pwrHrMin (16 * dieIx d) 16 hmin
  let low := if hmin < 100 then s1.hrLow d + 1 else 0
  let s2 := s1.setHrLow d low
  let s3 := if low = 3 then (s2.flag .pwrEvent 4).report 0x07 (dieIx d) else s2
  if new = old && !(s3.rail (2 + dieIx d)).owed then s3 else s3.hrRequest d

/-- PWR_HR_CFG.PERIOD of a die elapses (R470, R471): the loop updates a die whose array domain is on and of which a
region qualified; a request that is owed follows in any case (R469). -/
def State.headroom (s : State) (d : Die) : State :=
  let s1 := s.advance ((s.hrTim d).1 + (s.hrTim d).2)
  let s2 := s1.setHrTim d (s1.now, s1.fld .pwrHrCfg 16 8 * msec)
  match s2.domOn (arrDomain d), s2.hmins d with
  | true, x :: t => s2.headroomStep d (t.foldl min x)
  | true, [] => if (s2.rail (2 + dieIx d)).owed then s2.hrRequest d else s2
  | false, _ => s2

end Sys2Proof.Machine
end

