-- ==== Sys2Proof/Machine/Converters.lean ====
section
/-! DEFINITION. The sixteen region converters and the four system converters (R423 to R452): correction,
scheduled, urgent, host and group conversions, user calibration, self-check and retirement. -/

namespace Sys2Proof.Machine

/-! ### Correction -/

/-- R427. -/
def correct (raw : Nat) (ofs : Int) (gain maxCode : Nat) : Nat :=
  (clampInt ((((raw : Int) - ofs) * gain + 16384) / 32768) 0 maxCode).toNat

/-- OFS and GAIN of an input of converter `n` (R428) (DESIGN CHOICE, log 6). -/
def State.coefOf (s : State) (n input : Nat) : Int × Nat :=
  if n < 16 then tabGet (0, 32768) s.boot.otp.adc (16 * n + input)
  else if input < 6 then tabGet (0, 32768) s.adc.coef (8 * (n - 16) + input)
  else (0, 32768)

def maxCodeOf (n : Nat) : Nat := if n < 16 then 16383 else 65535

def State.corrected (s : State) (n input raw : Nat) : Nat :=
  correct raw (s.coefOf n input).1 (s.coefOf n input).2 (maxCodeOf n)

/-- The result of a code of the latest conversion of converter `n`, with the coefficients that were in force at its start
(R427, R446). -/
def State.resultOf (s : State) (n raw : Nat) : Nat := correct raw (s.conv n).coef.1 (s.conv n).coef.2 (maxCodeOf n)

/-- Conversion time in time units (R423). -/
def convTime (n : Nat) : Nat := if n < 16 then 125 * tickLen else 500 * tickLen

/-! ### When a converter is free -/

/-- The region is in a measurement slot of a step or re-admission (R393): cycles 1 to 6 of the step. -/
def State.measuring (s : State) (g : Nat) : Bool :=
  let r := s.region g
  let k := (s.scan.cycle - r.stepAt).toNat
  r.stepOn && decide (1 ≤ k) && decide (k ≤ 6)

/-- Input of the conversion at tick 4,736 of a line's slot (R430). -/
def lineInput : Nat → Nat
  | 0 => 3
  | 1 => 8
  | 2 => 9
  | 3 => 11
  | _ => 7

/-- The scheduled conversions of a slot of line `m`: tick and input, in the order of their ticks (R430, R431). -/
def scheduledTicks (t : Timing) (m : Nat) (meas : Bool) : List (Nat × Nat) :=
  [(512, 6), (640, 5)]
    ++ (if meas then ((List.range 16).map fun k => (1024 + 125 * k, 0)) ++ (List.range 4).map fun k => (4096 + 125 * k, 7)
        else [])
    ++ (if m < 5 then [(4736, lineInput m)] else []) ++ [(t.window - 500, 4)]

/-- Instant at which the running slot began. -/
def State.slotStart (s : State) : Nat := s.scan.cycleStart + s.scan.slot * s.scan.cur.len * tickLen

/-- The scheduled conversions of region converter `g` in the running slot: instant, tick and input. -/
def State.schedule (s : State) (g : Nat) : List (Nat × Nat × Nat) :=
  if s.scan.on then
    (scheduledTicks s.scan.cur s.scan.slot (s.measuring g)).map fun (k, i) => (s.slotStart + k * tickLen, k, i)
  else []

/-- The first sample instant of a converter from instant `t` on (R423): a tick of its die's CK_PWM, counted from the
cycle boundary, or a CK_ADC edge of 50 MHz (DESIGN CHOICE, log 9). -/
def State.sampleAt (s : State) (n t : Nat) : Nat :=
  if n < 16 then s.scan.cycleStart + (t - s.scan.cycleStart + tickLen - 1) / tickLen * tickLen
  else (t + 199) / 200 * 200

/-- A converter's power domain is on (R423). -/
def State.convOn (s : State) (n : Nat) : Bool := if n < 16 then s.domOn (arrDomain (dieOf n)) else s.domOn .core

/-- The converter is busy at instant `t` (R424). -/
def State.convBusy (s : State) (n t : Nat) : Bool :=
  match (s.conv n).busy with
  | some (_, _, e) => decide (t < e)
  | none => false

/-- The converter is free at instant `t` (R433). -/
def State.convFree (s : State) (n t : Nat) : Bool :=
  !s.convBusy n t && s.convOn n && !(s.conv n).retired
    && (decide (16 ≤ n) || !(s.schedule n).any fun (u, _, _) => decide (t ≤ u) && decide (u < t + convTime n))

/-- A conversion samples its input at instant `t` and is busy from then on (R424). An HMIN conversion reads the slot
before the running one (R425). -/
def State.startConv (s : State) (n input : Nat) (who : Asker) (t : Nat) : State :=
  s.onConv n fun c =>
    { c with busy := some (input, who, t + convTime n), coef := s.coefOf n input
             reads := decide (n < 16) && s.scan.conducted.getLsbD n }

/-! ### Urgent requests -/

/-- Index of a requester in the drop counts: 0 to 7 system, 8 + G headroom of region G. -/
def dropIndex (k : Nat) : Nat := if k < 8 then k else k - 8

def State.dropsOf (s : State) (k : Nat) : Nat × Nat := s.adc.drops.getD (dropIndex k) (0, 0)

def State.setDrops (s : State) (k : Nat) (d : Nat × Nat) : State :=
  s.onAdc fun a => { a with drops := modifyAt (fun _ => d) (dropIndex k) a.drops }

/-- Converter of requester `k` (R434, R448): 0 to 7 system, 16 + G headroom. -/
def State.converterOf (s : State) (k : Nat) : Nat := if k < 8 then 16 + s.adc.urgentOn.getD k 0 else k - 16

/-- Input that requester `k` converts (R434). -/
def urgentInput (k : Nat) : Nat :=
  match k with
  | 0 => 0
  | 1 => 1
  | 2 => 2
  | 3 => 3
  | _ => if k < 8 then 6 else 2

/-- An urgent request is dropped (R435). -/
def State.urgentDrop (s : State) (k : Nat) : State :=
  let (total, run) := s.dropsOf k
  let run1 := satAdd 8 run 1
  let limit := s.fld .adcDropCfg 0 8
  let s1 := ((s.setDrops k (satAdd 16 total 1, run1)).flag .adcEvent (if k < 8 then 1 else 0)).pmc 0x38
  if run < 255 ∧ run1 % limit = 0 then
    (if k < 8 then s1.report 0x69 (s.converterOf k - 16) else s1.report 0x68 (k - 16))
  else s1

/-- Period of requester `k` (R434). -/
def urgentPeriod (k : Nat) : Nat := if k < 3 then 100 * usec else if 4 ≤ k ∧ k < 8 then 10 * msec else msec

/-- Instant at which the running period of requester `k` ends. -/
def State.urgentDue (s : State) (k : Nat) : Nat := s.adc.urgentAt.getD (dropIndex k) 0 + urgentPeriod k

/-- The requesters of R434. -/
def requesters : List Nat := List.range 8 ++ (List.range 16).map (16 + ·)

/-- An urgent request of converter `n` becomes ready at instant `t` (R433): the period of its requester ends then. -/
def State.urgentWaiting (s : State) (n t : Nat) : Bool :=
  requesters.any fun k => decide (s.converterOf k = n) && decide (s.sampleAt n (s.urgentDue k) = t)

/-! ### Results -/

/-- Consecutive results outside a limit: the source is reported at the `limit`-th. -/
def runOf (bad : Bool) (n : Nat) : Nat := if bad then n + 1 else 0

/-- The supervision of R472 and R479 on a result of a system monitor, and the VLED values of R342. -/
def State.monitor (s : State) (k res : Nat) : State :=
  match k with
  | 0 =>
    let lo := runOf (decide (res * 100000 < 36000 * 65536)) s.adc.vinLow
    let hi := runOf (decide (75000 * 65536 < res * 100000)) s.adc.vinHigh
    let s1 := s.onAdc fun a => { a with vinLow := lo, vinHigh := hi }
    let s2 := if lo = 10 then (s1.flag .pwrEvent 2).report 0x00 else s1
    if hi = 10 then (s2.flag .pwrEvent 3).report 0x01 else s2
  | 1 =>
    let r := s.rail 2
    let off := r.req.isNone && decide (100 * 65536 < ((res * 5000 : Nat) - (r.acked * 65536 : Nat) : Int).natAbs)
    let n := runOf off s.adc.rangeL
    let s1 := (s.onAdc fun a => { a with rangeL := n }).onDiag fun d => { d with vledL := res }
    let s1 := if s1.vledOff .L then s1.suspend .L else s1
    if n = 10 then s1.report 0x05 else s1
  | 2 =>
    let r := s.rail 3
    let off := r.req.isNone && decide (100 * 65536 < ((res * 5000 : Nat) - (r.acked * 65536 : Nat) : Int).natAbs)
    let n := runOf off s.adc.rangeR
    let s1 := (s.onAdc fun a => { a with rangeR := n }).onDiag fun d => { d with vledR := res }
    let s1 := if s1.vledOff .R then s1.suspend .R else s1
    if n = 10 then s1.report 0x06 else s1
  | 3 =>
    let n := runOf (decide (33664 < res)) s.adc.tempHigh
    let s1 := s.onAdc fun a => { a with tempHigh := n }
    if n = 3 then s1.report 0x08 else s1
  | _ => s

/-- A result fails the self-check of R447, or passes it; none where the input takes no part in it. -/
def checkResult (n input res : Nat) : Option Bool :=
  if n < 16 then
    match input with
    | 7 => some (decide (8028 ≤ res) && decide (res ≤ 8356))
    | 8 => some (decide (8028 ≤ res) && decide (res ≤ 8356))
    | 9 => some (decide (res ≤ 32))
    | _ => none
  else
    match input with
    | 6 => some (decide (res ≤ 128))
    | 7 => some (decide (32113 ≤ res) && decide (res ≤ 33423))
    | _ => none

/-- The conversion is the last one of a self-check: REF_PKG in a line-4 slot, REF_MID of a reference check (R430, R434)
(DESIGN CHOICE, log 114). -/
def endsCheck (input : Nat) : Asker → Bool
  | .scheduled tick _ => decide (input = 7) && decide (tick = 4736)
  | .urgent _ => decide (input = 7)
  | _ => false

/-- The self-check of R447: any result outside its bounds fails it, and the third failed one in a row is reported. -/
def State.selfCheck (s : State) (n input res : Nat) (who : Asker) : State :=
  match checkResult n input res with
  | none => s
  | some ok =>
    let bad := (s.conv n).checkBad || !ok
    if endsCheck input who then
      let k := (s.conv n).checkFails
      let s1 := s.onConv n fun c => { c with checkBad := false, checkFails := if bad then min 3 (k + 1) else 0 }
      if bad && decide (k = 2) then
        (if n < 16 then (s1.flag .adcEvent 3).report 0x6A n else (s1.flag .adcEvent 3).report 0x6B (n - 16))
      else s1
    else s.onConv n fun c => { c with checkBad := bad }

/-- The quantised temperature of eight TDIODE codes (R117, R432). -/
def quantTemp (codes : List Nat) : Int := ((codes.sum : Int) + 32) / 64 - 800

/-- A TDIODE result of a line-0 slot (R118, R432, R447). -/
def State.tdiode (s : State) (n res : Nat) : State :=
  let c := s.conv n
  let out := decide (res < 4800) || decide (12000 < res)
  let run := runOf out c.tempOut
  let bad := c.tempBad || decide (run = 3)
  let good := if out then 0 else c.tempGood + 1
  let s1 := s.onConv n fun x =>
    { x with tdiode := (res :: x.tdiode).take 8, tempOut := run
             tempBad := bad && decide (good < 8), tempGood := good }
  let s2 := s1.onConv n fun x =>
    if x.tempBad || decide (x.tdiode.length < 8) then x else { x with tempHeld := some (quantTemp x.tdiode) }
  if run = 3 then s2.report 0x6C n else s2

/-- The register of a host request, and its index. -/
def ctlOf (n : Nat) : Reg × Nat := if n < 16 then (.tilAdcCtl, n) else (.adcSctl, n - 16)

/-- A host request with the INPUT and AVG of its register (R429, R437). -/
def State.hostRequest (s : State) (n : Nat) (v : Word) : State :=
  s.onConv n fun c =>
    { c with req := some { input := field v 4 (if n < 16 then 4 else 3), avg := field v 8 4, left := 2 ^ field v 8 4
                           sum := 0 } }

/-- The result of a host request is written: START reads 0, or a new request starts (R21, R437). -/
def State.hostResult (s : State) (n v : Nat) : State :=
  let (r, k) := ctlOf n
  let res : Reg := if n < 16 then .tilAdcRes else .adcSres
  let seq := (s.fld res 24 8 k + 1) % 256
  let s1 := (s.wr res (word (v + 2 ^ 24 * seq)) k).onConv n fun c => { c with req := none }
  if s1.wroteOne (r.key .A k 0) then s1.hostRequest n (s1.rd r k) else s1.setFld r 0 1 0 k

/-- A conversion of a host request ends (R429). -/
def State.hostDone (s : State) (n res : Nat) : State :=
  match (s.conv n).req with
  | none => s
  | some q =>
    let sum := q.sum + res
    if q.left ≤ 1 then
      s.hostResult n (if q.avg = 0 then res else (sum + 2 ^ q.avg / 2) / 2 ^ q.avg)
    else s.onConv n fun c => { c with req := some { q with left := q.left - 1, sum := sum } }

/-- A conversion of a user calibration ends: its raw code counts (R445). -/
def Ucal.next (u : Ucal) (raw : Nat) : Ucal :=
  { u with left := u.left - 1, sum := u.sum + raw, sat := u.sat || decide (raw = 65535) }

/-- What every conversion does with its code (R427, R447). -/
def State.deliver (s : State) (n input raw : Nat) (who : Asker) : State :=
  let res := s.resultOf n raw
  let s1 := s.onConv n fun c =>
    { c with latest := tabSet 0 c.latest input res
             conducted := if input = 2 ∧ n < 16 then c.reads else c.conducted }
  let s2 := if 16 ≤ n then s1.wr .adcSraw (word raw) (n - 16) else s1
  s2.selfCheck n input res who

/-- What the asker of a conversion that ended at `t` does with its result (R429, R432, R435, R443, R445): a reference
check goes on to its second input (R434), which completes its request. -/
def State.toAsker (s : State) (n input raw : Nat) (who : Asker) (t : Nat) : State :=
  let res := s.resultOf n raw
  match who with
  | .scheduled _ _ => if input = 3 ∧ n < 16 then s.tdiode n res else s
  | .urgent k =>
    if 4 ≤ k ∧ k < 8 ∧ input = 6 then s.startConv n 7 (.urgent k) (s.sampleAt n t)
    else (s.setDrops k ((s.dropsOf k).1, 0)).monitor k res
  | .host => s.hostDone n res
  | .ucal => s.onAdc fun a => { a with ucal := a.ucal.map fun u => if 16 + u.chan / 8 = n then u.next raw else u }
  | .group => s.onAdc fun a =>
      { a with group := a.group.map fun x => { x with results := (n, res) :: x.results } }

/-- A conversion completes (R427): the corrected result goes to its asker. -/
def State.convDone (s : State) (n raw : Nat) : State :=
  match (s.conv n).busy with
  | none => s
  | some (input, who, t) =>
    let raw := raw % (maxCodeOf n + 1)
    (((s.advance t).onConv n fun c => { c with busy := none }).deliver n input raw who).toAsker n input raw who t

/-- A conversion of converter `n` that is over by `t` and whose code has not come has a code that nothing states
(DESIGN CHOICE, log 3, 9). -/
def State.convOver (s : State) (n t : Nat) : State :=
  match (s.conv n).busy with
  | some (_, _, e) => if e ≤ t then (let (w, u) := s.draw; u.convDone n w.toNat) else s
  | none => s

/-- What converter `n` has converted by `t`: its latest conversion, and the second input of a reference check after it
(R434). -/
def State.convBy (s : State) (n t : Nat) : State := (s.convOver n t).convOver n t

/-! ### Host requests -/

/-- A write of ADC_SCTLn or TIL_ADC_CTL (R437): `n` is the converter. -/
def State.adcControl (s : State) (n : Nat) (v : Word) : Status × State :=
  let (r, k) := ctlOf n
  let old := s.rd r k
  if bit old 0 then
    (if v = old then (.ok, s.noteOne (r.key .A k 0)) else if v ||| 1 = old then (.ok, s) else (.busy, s))
  else if bit v 0 then
    if (s.conv n).retired then (.state, s) else (.ok, (s.wr r v k).hostRequest n v)
  else (.ok, s.wr r v k)

/-- A write of TIL_ADC_COLSEL (R438). -/
def State.colSelect (s : State) (g : Nat) (v : Word) : Status × State :=
  if bit (s.rd .tilAdcCtl g) 0 then (.busy, s) else (.ok, s.wr .tilAdcColsel v g)

/-! ### Groups -/

/-- The converters that ADC_GRP_CFG.SEL chooses (R439). -/
def State.groupSel (s : State) : List Nat := (List.range 20).filter fun n => bit (s.rd .adcGrpCfg) n

/-- Group input of converter `n` (R439). -/
def State.groupInput (s : State) (n : Nat) : Nat :=
  if n < 16 then field (s.rd .adcGrpIn (n / 8)) (4 * (n % 8)) 4 else field (s.rd .adcGrpIn2) (4 * (n - 16)) 3

/-- Converter `n` has no host conversion in progress (R442): neither a host request nor a user calibration, which is
one (R445). -/
def State.hostIdle (s : State) (n : Nat) : Bool :=
  (s.conv n).req.isNone
    && match s.adc.ucal with
      | some u => decide (n ≠ 16 + u.chan / 8)
      | none => true

/-- The selected converters with their inputs: what a trigger of this instant converts (R439, R443). -/
def State.groupPlan (s : State) : List (Nat × Nat) := s.groupSel.map fun n => (n, s.groupInput n)

/-- Every converter of a group can start at instant `t`, each at its first sample instant, within 20 ns (R439, R442); an
urgent request of that instant goes first (R433). -/
def State.groupCan (s : State) (sel : List Nat) (t : Nat) : Bool :=
  s.adc.group.isNone && sel.all fun n =>
    s.convFree n (s.sampleAt n t) && !s.urgentWaiting n (s.sampleAt n t) && s.hostIdle n

/-- A group conversion has started, or been skipped, in the CK_ADC cycle of instant `t` (R440): 50 MHz, 200 time units. -/
def State.groupTried (s : State) (t : Nat) : Bool := s.adc.groupAt.any fun x => x.1 == t / 200

/-- The running group conversion started in the CK_ADC cycle of instant `t`. -/
def State.groupFresh (s : State) (t : Nat) : Bool := s.adc.group.isSome && decide (s.adc.groupAt = some (t / 200, true))

/-- A group conversion of converters and inputs starts at instant `t`, or is skipped (R442). A GO write and a trigger of
one CK_ADC cycle start, or skip, one (R440). -/
def State.groupStart (s : State) (t : Nat) (plan : List (Nat × Nat)) : State :=
  if s.groupTried t then s
  else
    let sel := plan.map (·.1)
    let s1 := sel.foldl (fun u n => u.convBy n (s.sampleAt n t)) s
    if s1.groupCan sel t then
      (plan.foldl (fun u (n, i) => u.startConv n i .group (s1.sampleAt n t)) s1).onAdc fun a =>
        { a with groupAt := some (t / 200, true)
                 group := some { sel := sel, fin := sel.foldl (fun m n => max m (s1.sampleAt n t + convTime n)) t } }
    else ((s1.count .adcGrpMiss 0 32).flag .adcEvent 2).onAdc fun a => { a with groupAt := some (t / 200, false) }

/-- The group conversion that an edge of SYNCIN has triggered starts, or is skipped, if its instant has come by `t`
(R440, R442). -/
def State.syncGroup (s : State) (t : Nat) : State :=
  match s.adc.syncAt with
  | some (u, plan) => if u ≤ t then (s.onAdc fun a => { a with syncAt := none }).groupStart u plan else s
  | none => s

/-- A SYNCIN group whose first sample instant at converter `n` lies before instant `t` has started, or been skipped (R440,
R442). -/
def State.syncEarlier (s : State) (n t : Nat) : State :=
  match s.adc.syncAt with
  | some (u, _) => if s.sampleAt n u < t then s.syncGroup u else s
  | none => s

/-- The conversion of converter `n` is about to end, and a SYNCIN group that samples there before that goes first. -/
def State.syncBefore (s : State) (n : Nat) : State :=
  match (s.conv n).busy with
  | some (_, _, t) => s.syncEarlier n t
  | none => s

/-- GO reads 1 from its write until the group that it has started, or joined, has ended (R440). -/
def State.groupGoStart (s : State) : State :=
  let s1 := (s.syncGroup s.now).groupStart s.now (s.syncGroup s.now).groupPlan
  if s1.groupFresh s.now then s1.wr .adcGrpCtl 1 else s1

/-- A write of 1 to ADC_GRP_CTL.GO (R440, R448). -/
def State.groupGo (s : State) : Status × State :=
  if s.groupSel.any fun n => (s.conv n).retired then (.state, s)
  else if bit (s.rd .adcGrpCtl) 0 then (.ok, s.noteOne (Reg.adcGrpCtl.key .A 0 0))
  else (.ok, s.groupGoStart)

/-- The line-slot trigger of R440, R441 falls in the running slot. -/
def State.groupDue (s : State) : Bool :=
  let ph := s.rd .adcGrpPhase
  decide (s.fld .adcGrpCfg 20 2 = 1) && s.scan.on && decide (s.scan.slot = field ph 0 3)
    && decide (s.scan.cycle.toNat % (field ph 4 4 + 1) = 0) && decide (s.adc.trigAt ≠ some s.slotStart)

/-- TICK is not below the slot length, so the trigger fires at tick 0 (R441). -/
def State.groupClamped (s : State) : Bool := decide (s.scan.cur.len ≤ field (s.rd .adcGrpPhase) 16 15)

/-- Instant of the line-slot trigger in the running slot (R440, R441). -/
def State.groupTick (s : State) : Nat :=
  s.slotStart + (if s.groupClamped then 0 else field (s.rd .adcGrpPhase) 16 15) * tickLen

/-- The line-slot trigger (R440, R441): once in a slot, at its tick. -/
def State.groupTrigger (s : State) : State :=
  if s.groupDue ∧ s.now ≤ s.groupTick then
    let s1 := ((s.advance s.groupTick).syncGroup s.groupTick).onAdc fun a => { a with trigAt := some s.slotStart }
    (if s.groupClamped then s1.flag .adcEvent 7 else s1).groupStart s.groupTick s1.groupPlan
  else s

/-- A rising edge of SYNCIN triggers a group with TRIG = 0b10, 60 ns after it, of the converters and inputs of this
instant (R440, R443) (DESIGN CHOICE, log 9). -/
def State.groupSync (s : State) : State :=
  if s.fld .adcGrpCfg 20 2 = 2 then
    (s.syncGroup s.now).onAdc fun a => { a with syncAt := some (s.now + 600, s.groupPlan) }
  else s

/-- A write of ADC_GRP_CFG, ADC_GRP_IN or ADC_GRP_PHASE (R441, R443). -/
def State.groupSet (s : State) (r : Reg) (k : Nat) (v : Word) : Status × State :=
  if r = .adcGrpPhase ∧ s.scan.cur.len ≤ field v 16 15 then (.state, s)
  else if (s.syncGroup s.now).adc.group.isSome then (.busy, s.syncGroup s.now)
  else (.ok, (s.syncGroup s.now).wr r v k)

/-- The conversions of a group whose code has not come complete with the codes `raws`, in the order of their numbers,
and with free values after those (DESIGN CHOICE, log 3). -/
def groupCodes : List Nat → List Nat → State → State
  | [], _, s => s
  | n :: t, raws, s =>
    match (s.conv n).busy, raws with
    | some (_, .group, _), c :: cs => groupCodes t cs (s.convDone n c)
    | some (_, .group, _), [] => let (w, u) := s.draw; groupCodes t [] (u.convDone n w.toNat)
    | _, _ => groupCodes t raws s

/-- Every group result is written to ADC_GRESk (R443). -/
def groupWrite (seq : Nat) (results : List (Nat × Nat)) : List Nat → State → State
  | [], s => s
  | n :: t, s =>
    let res := ((results.find? fun e => e.1 == n).map (·.2)).getD 0
    groupWrite seq results t (s.wr .adcGres (word (res + 2 ^ 24 * (seq % 256))) n)

/-- The last selected converter completes (R443): GO reads 0, or a new group starts (R21). -/
def State.groupDone (s : State) (raws : List Nat) : State :=
  let s := if s.adc.group.isNone then s.syncGroup ((s.adc.syncAt.map (·.1)).getD 0) else s
  match s.adc.group with
  | none => s
  | some x =>
    let s1 := groupCodes x.sel raws (s.advance x.fin)
    let results := match s1.adc.group with
      | some y => y.results
      | none => []
    let seq := (s1.rd .adcGrpSeq).toNat + 1
    let s2 := ((groupWrite seq results x.sel s1).onAdc fun a => { a with group := none }).wr .adcGrpSeq (word seq)
    if s2.wroteOne (Reg.adcGrpCtl.key .A 0 0) then (s2.wr .adcGrpCtl 0).groupGoStart else s2.wr .adcGrpCtl 0

/-- A running group of which a converter stops ends without results (DEDUCED, log 28). -/
def State.groupCut (s : State) (stops : Nat → Bool) : State :=
  match s.adc.group with
  | some x => if x.sel.any stops then (s.onAdc fun a => { a with group := none }).wr .adcGrpCtl 0 else s
  | none => s

/-! ### Starts -/

/-- The next scheduled conversion of region converter `g` in the running slot that has not been made (R430). -/
def State.nextScheduled (s : State) (g : Nat) : Option (Nat × Nat × Nat) :=
  (s.schedule g).find? fun (u, _, _) => decide (s.now ≤ u) && decide ((s.conv g).sched < u)

/-- Instants that the flux-monitor hold stages hold when one of them is converted (R430, R431): that of tick W / 2 of
the running slot; the blanking hold was taken in the slot before (`slotEnds`). -/
def State.holdFlux (s : State) (input : Nat) : State :=
  if input = 4 then s.onAdc fun a => { a with holdOn := s.slotStart + s.scan.cur.window / 2 * tickLen } else s

/-- A region converter starts its next scheduled conversion at its tick (R430, R436); it has none after the last of the
running slot. -/
def State.scheduled (s : State) (g : Nat) : State :=
  match s.nextScheduled g with
  | none => s
  | some (u, k, input) =>
    let s1 := ((s.advance u).syncGroup u).convBy g u
    if decide (g < 16) && s.convOn g && !(s.conv g).retired && !s1.convBusy g u then
      ((s1.startConv g input (.scheduled k s.scan.slot) u).holdFlux input).onConv g fun c => { c with sched := u }
    else s

/-- The period of an urgent requester elapses (R433, R434): its request goes before a SYNCIN group that samples at the
same instant. A requester of a retired converter makes no request (R448). -/
def State.urgent (s : State) (k : Nat) : State :=
  let n := s.converterOf k
  if !requesters.contains k || (s.conv n).retired || !s.convOn n then s
  else
    let s1 := s.advance (s.urgentDue k)
    let p := urgentPeriod k
    let s2 := s1.onAdc fun a =>
      { a with urgentAt := modifyAt (fun b => b + (s1.now - b) / p * p) (dropIndex k) a.urgentAt
               asked := addNat k a.asked }
    let t := s2.sampleAt n s2.now
    let s3 := (s2.syncEarlier n t).convBy n t
    (if s3.convFree n t then s3.startConv n (urgentInput k) (.urgent k) t else s3.urgentDrop k).syncGroup t

/-- The host conversion that waits on converter `n` (R437, R445): of a host request before one of a user calibration
(DESIGN CHOICE, log 9). -/
def State.hostWants (s : State) (n : Nat) : Option (Nat × Asker) :=
  match (s.conv n).req with
  | some q => some (q.input, .host)
  | none =>
    match s.adc.ucal with
    | some u => if 16 + u.chan / 8 = n ∧ u.left ≠ 0 then some (u.chan % 8, .ucal) else none
    | none => none

/-- A waiting host conversion starts at a free instant at which no urgent request waits (R433). -/
def State.hostStart (s : State) (n : Nat) : State :=
  let t := s.sampleAt n s.now
  let s1 := (s.syncGroup t).convBy n t
  match s1.hostWants n with
  | some (input, who) =>
    if n < 20 ∧ s1.convFree n t ∧ !s1.urgentWaiting n t then s1.startConv n input who t else s
  | none => s

/-! ### User calibration -/

/-- A write of ADC_UCAL (R445). -/
def State.ucalStart (s : State) (v : Word) : Status × State :=
  let n := field v 0 2
  let i := field v 4 3
  let k := 8 * n + i
  let op : UcalOp := match field v 8 2 with
    | 0 => .zero
    | 1 => .full
    | _ => .reset
  let held := match s.adc.zero with
    | some (c, _) => decide (c = k)
    | none => false
  if 6 ≤ i then (.state, s)
  else if (s.conv (16 + n)).retired then (.state, s)
  else if op = .full ∧ !held then (.state, s)
  else if s.adc.ucal.isSome then (.busy, s)
  else
    let s1 := s.onAdc fun a => { a with ucal := some { chan := k, op := op }, zero := if held then a.zero else none }
    let stat := s1.rd .adcUcalStat
    (.ok, s1.wr .adcUcalStat (setField (setField (setField stat 0 1 1) 1 1 (boolNat held)) 2 5 k))

/-- ADC_UCAL_STAT at the end of an operation. -/
def State.ucalShow (s : State) (result : Nat) : State :=
  let stat := s.rd .adcUcalStat
  (s.onAdc fun a => { a with ucal := none }).wr .adcUcalStat
    (setField (setField (setField stat 0 1 0) 1 1 (boolNat s.adc.zero.isSome)) 8 3 result)

/-- A user calibration fails with a code of R451 (R446). -/
def State.ucalFails (s : State) (result : Nat) : State := (s.ucalShow result).flag .adcEvent 5

/-- A channel's coefficients come into force (R446). -/
def State.ucalSet (s : State) (k : Nat) (c : Int × Nat) : State :=
  (((s.onAdc fun a => { a with coef := tabSet (0, 32768) a.coef k c }).ucalShow 2).flag .adcEvent 4).onBoot fun b =>
    { b with jobs := if b.jobs.contains .settings then b.jobs else b.jobs ++ [.settings] }

/-- The result of a user calibration from the sum of its 256 raw codes (R445, R446). -/
def State.ucalResult (s : State) (k : Nat) (op : UcalOp) (sum : Nat) (saturated : Bool) : State :=
  match op with
  | .zero =>
    let ofs := (sum + 128) / 256
    if 2048 < ofs then s.ucalFails 3
    else (s.onAdc fun a => { a with zero := some (k, (ofs : Int)) }).ucalShow 1
  | .full =>
    let ofs : Int := match s.adc.zero with
      | some (_, o) => o
      | none => 0
    let d := ((sum + 128) / 256 : Nat) - ofs
    let target := s.fld .adcUcalTarget 0 16
    let gain := (target * 32768 + d.toNat / 2) / d.toNat
    let fail (c : Nat) : State := (s.onAdc fun a => { a with zero := none }).ucalFails c
    if saturated then fail 5
    else if d ≤ 0 ∨ gain < 16384 ∨ 65535 < gain then fail 4
    else s.ucalSet k (ofs, gain)
  | .reset => s.ucalSet k (0, 32768)

/-- The 256 conversions of a user calibration are complete (R445). -/
def State.ucalEnd (s : State) : State :=
  match s.adc.ucal with
  | some u => if u.left = 0 then s.ucalResult u.chan u.op u.sum u.sat else s
  | none => s

/-- ADC_UCAL_COEFk (R450): channel `k = 8 n + i`. -/
def State.ucalCoef (s : State) (n i : Nat) : Word :=
  let c := tabGet (0, 32768) s.adc.coef (8 * n + i)
  word (bitsOf 16 c.1 + 2 ^ 16 * c.2)

/-! ### Retirement -/

/-- Lowest-numbered system converter in service (R448). -/
def State.sadcInService (s : State) : Option Nat := (List.range 4).find? fun n => !(s.conv (16 + n)).retired

/-- A converter is retired (R448): it makes no conversion; its host request, its group and its user calibration end
without a result, and a system converter's requesters 0 to 3 move (DEDUCED, log 28). -/
def State.retireConv (s : State) (n : Nat) : State :=
  let s1 := (s.onConv n fun c => { c with retired := true, busy := none, req := none }).groupCut (· == n)
  if n < 16 then s1.setFld .tilAdcCtl 0 1 0 n
  else
    let s2 := s1.setFld .adcSctl 0 1 0 (n - 16)
    let s3 := match s2.adc.ucal with
      | some u => if 16 + u.chan / 8 = n then
          (s2.onAdc fun a => { a with ucal := none }).setFld .adcUcalStat 0 1 0 else s2
      | none => s2
    match s3.sadcInService with
    | none => s3
    | some m => s3.onAdc fun a =>
        { a with urgentOn := (a.urgentOn.take 4).map (fun c => if c = n - 16 then m else c)
            ++ a.urgentOn.drop 4 }

/-- Eight TDIODE conversions at the switch-on of an array domain (R432): the codes are free values
(DESIGN CHOICE, log 3; DEDUCED, log 28). -/
def freshTemps : Nat → State → List Nat × State
  | 0, s => ([], s)
  | k + 1, s =>
    let (w, s1) := s.draw
    let (l, s2) := freshTemps k s1
    (w.toNat % 16384 :: l, s2)

/-- The run of R118 goes on with a result: the measurement is unavailable until eight in a row lie inside. -/
def tempRun (x : Bool × Nat) (res : Nat) : Bool × Nat :=
  let good := if res < 4800 ∨ 12000 < res then 0 else x.2 + 1
  (x.1 && decide (good < 8), good)

/-- A region converter at the switch-on of its array domain (R118, R432, R434, R448): a host request goes on
(DEDUCED, log 28). -/
def State.convOnAgain (s : State) (g : Nat) : State :=
  let (codes, s1) := freshTemps 8 s
  let res := codes.map fun r => s.corrected g 3 r
  let c := s.conv g
  let (bad, good) := res.reverse.foldl tempRun (c.tempBad, c.tempGood)
  (s1.onConv g fun x =>
    { x with retired := false, busy := none, conducted := false, tdiode := res
             latest := tabSet 0 x.latest 3 (res.headD 0), tempBad := bad, tempGood := good, checkBad := false
             tempHeld := if bad then x.tempHeld else some (quantTemp res)
             checkFails := if x.retired then 0 else x.checkFails }).onAdc fun a =>
    { a with urgentAt := modifyAt (fun _ => s1.now) (8 + g) a.urgentAt }

/-! ### Temperatures -/

/-- The region's measurement is available (R118). -/
def State.tempGood (s : State) (g : Nat) : Bool :=
  let c := s.conv g
  !c.retired && !c.tempBad && decide (c.tdiode.length = 8)

/-- The quantised temperature of region G that a pass starting now uses (R117, R118). -/
def State.tempOf (s : State) (g : Nat) : Int :=
  if s.tempGood g then quantTemp (s.conv g).tdiode else (s.conv g).tempHeld.getD 100

/-- ADC_STATUS (R450). -/
def State.adcStatus (s : State) : Word :=
  word (packBits ((List.range 4).map fun n => s.convBusy (16 + n) s.now)
    + 16 * packBits ((List.range 4).map fun n => (s.conv (16 + n)).retired))

/-- ADC_URGk (R450): a requester has a converter in use from its first request after reset on (DEDUCED, log 100). -/
def State.urgStatus (s : State) (k : Nat) : Word :=
  word ((s.dropsOf k).1 + 2 ^ 16 * (s.dropsOf k).2
    + 2 ^ 24 * (if s.adc.asked.contains k then s.adc.urgentOn.getD k 0 else 0))

/-- TIL_ADC_STATUS, TIL_ADC_URG, TIL_ADC_TEMP and TIL_ADC_VLED of region G (R452). -/
def State.tilAdcStatus (s : State) (g : Nat) : Word :=
  word (boolNat (s.conv g).retired + 2 * boolNat (s.conv g).req.isSome + 2 ^ 8 * (s.conv g).checkFails)

def State.tilAdcUrg (s : State) (g : Nat) : Word :=
  word ((s.dropsOf (16 + g)).1 + 2 ^ 16 * (s.dropsOf (16 + g)).2)

def State.tilAdcTemp (s : State) (g : Nat) : Word :=
  if (s.conv g).tdiode = [] then 0 else word (bitsOf 16 (quantTemp (s.conv g).tdiode))

/-- Code of a 14-bit input of 5.0 V full scale in mV. -/
def milliVolts (res : Nat) : Nat := res * 5000 / 16384

def State.tilAdcVled (s : State) (g : Nat) : Word := word (milliVolts (tabGet 0 (s.conv g).latest 6))

end Sys2Proof.Machine
end

