-- ==== Sys2Proof/Machine/Crypto.lean ====
section
/-! DEFINITION. SHA-256 and the verification of ECDSA P-256 signatures (R525, R549). The manual names the two and
states neither; their definitions are those of the public standards (PRESUMED, log 19). -/

namespace Sys2Proof.Machine

/-! ### SHA-256 -/

def shaK : List Word :=
  ([0x428a2f98, 0x71374491, 0xb5c0fbcf, 0xe9b5dba5, 0x3956c25b, 0x59f111f1, 0x923f82a4, 0xab1c5ed5] ++
   [0xd807aa98, 0x12835b01, 0x243185be, 0x550c7dc3, 0x72be5d74, 0x80deb1fe, 0x9bdc06a7, 0xc19bf174] ++
   [0xe49b69c1, 0xefbe4786, 0x0fc19dc6, 0x240ca1cc, 0x2de92c6f, 0x4a7484aa, 0x5cb0a9dc, 0x76f988da] ++
   [0x983e5152, 0xa831c66d, 0xb00327c8, 0xbf597fc7, 0xc6e00bf3, 0xd5a79147, 0x06ca6351, 0x14292967] ++
   [0x27b70a85, 0x2e1b2138, 0x4d2c6dfc, 0x53380d13, 0x650a7354, 0x766a0abb, 0x81c2c92e, 0x92722c85] ++
   [0xa2bfe8a1, 0xa81a664b, 0xc24b8b70, 0xc76c51a3, 0xd192e819, 0xd6990624, 0xf40e3585, 0x106aa070] ++
   [0x19a4c116, 0x1e376c08, 0x2748774c, 0x34b0bcb5, 0x391c0cb3, 0x4ed8aa4a, 0x5b9cca4f, 0x682e6ff3] ++
   [0x748f82ee, 0x78a5636f, 0x84c87814, 0x8cc70208, 0x90befffa, 0xa4506ceb, 0xbef9a3f7, 0xc67178f2])

def shaInit : List Word := [0x6a09e667, 0xbb67ae85, 0x3c6ef372, 0xa54ff53a, 0x510e527f, 0x9b05688c, 0x1f83d9ab, 0x5be0cd19]

def rotr (w : Word) (n : Nat) : Word := w.rotateRight n

/-- A word of four bytes, high byte first. -/
def beWord : List Byte → Word
  | [a, b, c, d] => a ++ b ++ c ++ d
  | _ => 0

/-- The words of a byte sequence, high byte first. -/
def beWords : List Byte → List Word
  | a :: b :: c :: d :: t => beWord [a, b, c, d] :: beWords t
  | _ => []

/-- The message schedule: `n` more words, `l` holding those made so far, newest first. -/
def shaExpand : Nat → List Word → List Word
  | 0, l => l
  | n + 1, l =>
    let w2 := l.getD 1 0
    let w15 := l.getD 14 0
    let s0 := rotr w15 7 ^^^ rotr w15 18 ^^^ (w15 >>> 3)
    let s1 := rotr w2 17 ^^^ rotr w2 19 ^^^ (w2 >>> 10)
    shaExpand n ((l.getD 15 0 + s0 + l.getD 6 0 + s1) :: l)

/-- One round on the eight working words. -/
def shaRound (v : List Word) (kw : Word × Word) : List Word :=
  match v with
  | [a, b, c, d, e, f, g, h] =>
    let t1 := h + (rotr e 6 ^^^ rotr e 11 ^^^ rotr e 25) + ((e &&& f) ^^^ (~~~e &&& g)) + kw.1 + kw.2
    let t2 := (rotr a 2 ^^^ rotr a 13 ^^^ rotr a 22) + ((a &&& b) ^^^ (a &&& c) ^^^ (b &&& c))
    [t1 + t2, a, b, c, d + t1, e, f, g]
  | _ => v

/-- One block of sixteen words. -/
def shaBlock (h : List Word) (blk : List Word) : List Word :=
  let w := (shaExpand 48 blk.reverse).reverse
  List.zipWith (· + ·) h ((shaK.zip w).foldl shaRound h)

/-- The padded message. -/
def shaPad (m : List Byte) : List Byte :=
  let n := m.length
  let z := (119 - n % 64) % 64
  m ++ [0x80] ++ List.replicate z 0 ++ ((List.range 8).map fun i => BitVec.ofNat 8 (8 * n / 256 ^ (7 - i)))

/-- The blocks of a word sequence, `fuel` at most. -/
def shaBlocks : Nat → List Word → List Word → List Word
  | 0, h, _ => h
  | fuel + 1, h, ws => if ws.length < 16 then h else shaBlocks fuel (shaBlock h (ws.take 16)) (ws.drop 16)

/-- SHA-256 of a byte sequence, as a number of 256 bits (PRESUMED, log 19). -/
def sha256 (m : List Byte) : Nat :=
  let ws := beWords (shaPad m)
  (shaBlocks (ws.length / 16) shaInit ws).foldl (fun a w => a * 2 ^ 32 + w.toNat) 0

/-! ### P-256 -/

def curveP : Nat := 0xffffffff00000001000000000000000000000000ffffffffffffffffffffffff
def curveN : Nat := 0xffffffff00000000ffffffffffffffffbce6faada7179e84f3b9cac2fc632551
def curveB : Nat := 0x5ac635d8aa3a93e7b3ebbd55769886bc651d06b0cc53b0f63bce3c3e27d2604b
def curveG : Option (Nat × Nat) :=
  some (0x6b17d1f2e12c4247f8bce6e563a440f277037d812deb33a0f4a13945d898c296,
        0x4fe342e2fe1a7f9b8ee7eb4a7c0f9e162bce33576b315ececbb6406837bf51f5)

/-- `b ^ e mod m`, over the low `n` bits of `e`. -/
def powMod (m : Nat) : Nat → Nat → Nat → Nat
  | 0, _, _ => 1 % m
  | n + 1, b, e =>
    let r := powMod m n (b * b % m) (e / 2)
    if e % 2 = 1 then b * r % m else r

/-- The inverse modulo a prime. -/
def invMod (m a : Nat) : Nat := powMod m 256 (a % m) (m - 2)

/-- Addition of points; `none` is the point at infinity. -/
def pointAdd : Option (Nat × Nat) → Option (Nat × Nat) → Option (Nat × Nat)
  | none, q => q
  | p, none => p
  | some (x1, y1), some (x2, y2) =>
    let p := curveP
    if x1 = x2 ∧ (y1 + y2) % p = 0 then none
    else
      let l := if x1 = x2 then (3 * x1 * x1 + (p - 3)) * invMod p (2 * y1) % p
        else (y2 + p - y1) * invMod p (x2 + p - x1) % p
      let x3 := (l * l + 2 * p - x1 - x2) % p
      some (x3, (l * (x1 + p - x3) + p - y1) % p)

/-- `k` times a point, over the low `n` bits of `k`. -/
def pointMul : Nat → Nat → Option (Nat × Nat) → Option (Nat × Nat)
  | 0, _, _ => none
  | n + 1, k, q =>
    let r := pointMul n (k / 2) (pointAdd q q)
    if k % 2 = 1 then pointAdd q r else r

/-- The point lies on the curve. -/
def onCurve (x y : Nat) : Bool :=
  decide (x < curveP) && decide (y < curveP)
    && decide (y * y % curveP = (x * x * x + (curveP - 3) * x + curveB) % curveP)

/-- The signature `(r, s)` of a hash verifies under the public key `(x, y)` (PRESUMED, log 19). -/
def ecdsaVerify (x y hash r s : Nat) : Bool :=
  if r = 0 ∨ curveN ≤ r ∨ s = 0 ∨ curveN ≤ s ∨ onCurve x y = false then false
  else
    let w := invMod curveN s
    match pointAdd (pointMul 256 (hash * w % curveN) curveG) (pointMul 256 (r * w % curveN) (some (x, y))) with
    | none => false
    | some (px, _) => decide (px % curveN = r)

/-- A number from bytes, high byte first (PRESUMED, log 19). -/
def beNat (bs : List Byte) : Nat := bs.foldl (fun a b => a * 256 + b.toNat) 0

/-- A number from bytes, low byte first. -/
def leNat (bs : List Byte) : Nat := beNat bs.reverse

end Sys2Proof.Machine
end

