-- ==== Sys2Proof/Machine/Counters.lean ====
section
/-! DEFINITION. Performance-counter access and the command sampler (R567 to R577, R580, R581), and the
shadows of two-half values (R290). -/

namespace Sys2Proof.Machine

/-! ### Shadows -/

/-- The requesting port's shadow of the register at an address (R290, R572) (DEDUCED, log 14). -/
def State.shadow (s : State) (p : Port) (a : Nat) : Word := tabGet 0 (s.port p).shadows a

def State.setShadow (s : State) (p : Port) (a : Nat) (v : Word) : State :=
  s.onPort p fun x => { x with shadows := tabSet 0 x.shadows a v }

/-! ### Counters -/

/-- PMC_SELk has CHAIN = 1 (DEDUCED, log 14). -/
def State.chained (s : State) (k : Nat) : Bool := bit (s.rd .pmcSel k) 8

/-- The counters as they stand at the end of the present CK_FAB cycle (R571). -/
def State.cycleEnd (s : State) : State := s.advance ((s.fab + 1) * fabCycle)

/-- Copy the chained counters from `k` upward, as they stand in `e`, into the port's shadow, `fuel` of them at most
(R572) (DEDUCED, log 14). -/
def copyChain (e : State) (p : Port) : Nat → Nat → State → State
  | 0, _, s => s
  | fuel + 1, k, s =>
    if k < 32 && e.chained k then
      copyChain e p fuel (k + 1) (s.setShadow p (Reg.addr .pmcCnt k 0) (e.rd .pmcCnt k))
    else s

/-- A read of PMC_CNTk (R571, R572): the lowest counter of a chain fills the shadows of those above it;
a chained counter returns its shadow (DEDUCED, log 14). -/
def State.pmcRead (s : State) (p : Port) (k : Nat) : Word × State :=
  if s.chained k then (s.shadow p (Reg.addr .pmcCnt k 0), s)
  else (s.cycleEnd.rd .pmcCnt k, copyChain s.cycleEnd p 32 (k + 1) s)

/-- A write of PMC_CNTk (R569). -/
def State.pmcSetCnt (s : State) (k : Nat) (v : Word) : Status × State :=
  if bit (s.rd .pmcSel k) 9 then (.state, s) else (.ok, s.wr .pmcCnt v k)

/-- A write of PMC_SELk (R567): CHAIN = 1 in PMC_SEL0 is reserved. -/
def State.pmcSetSel (s : State) (k : Nat) (v : Word) : Status × State :=
  if k = 0 ∧ bit v 8 then (.state, s) else (.ok, s.wr .pmcSel v k)

/-! ### Sampler -/

/-- A write of PMC_SMP_CFG (R574, R576): the interval count starts again; EN from 0 to 1 empties the
buffer (log 15). -/
def State.smpSetCfg (s : State) (v : Word) : State :=
  let fresh := bit v 0 && !bit (s.rd .pmcSmpCfg) 0
  let s1 := s.wr .pmcSmpCfg v
  if fresh then
    ({ s1 with sampler := { s1.sampler with tally := 0, held := [] } }).setFld .pmcSmpStatus 0 1 0
  else { s1 with sampler := { s1.sampler with tally := 0 } }

/-- PMC_SMP_STATUS (R580) (DEDUCED, log 15). -/
def State.smpStatus (s : State) : Word := s.rd .pmcSmpStatus ||| word (2 * s.sampler.held.length)

/-- PMC_SMP_HEAD (R576) (DEDUCED, log 15). -/
def State.smpHead (s : State) : Word :=
  match s.sampler.held with
  | r :: _ => word r.seq
  | [] => 0

/-- A write of PMC_SMP_SEL captures a held record (R577). -/
def State.smpSelect (s : State) (p : Port) (v : Word) : Status × State :=
  match s.sampler.held.find? fun r => r.seq == v.toNat with
  | some r =>
    (.ok, (List.range 4).foldl (fun t i => t.wrp p .pmcSmpData (r.words.getD i 0) i) (s.wrp p .pmcSmpSel v))
  | none => (.addrRange, s)

/-- A command as the sampler sees it at its completion (R575). -/
structure SampledCommand where
  port : Port
  opcode : Nat
  tag : Byte
  status : Nat
  streamed : Bool
  qpos : Nat
  len : Nat
  arrived : Nat
  /-- The instant of its completion or abandonment. -/
  done : Nat
deriving DecidableEq, Repr

/-- The four words of a sampler record (R575). -/
def State.sampleWords (s : State) (c : SampledCommand) : List Word :=
  [word (c.opcode + 256 * c.tag.toNat + 65536 * c.status + 2 ^ 24 * portIx c.port
      + 2 ^ 25 * boolNat c.streamed),
   word (c.qpos % 16384 + 65536 * c.len),
   word (min ((c.done - c.arrived) / fabCycle) (2 ^ 32 - 1)),
   word { s with now := c.done }.timeBase]

/-- A record enters the buffer or is dropped (R576) (DEDUCED, log 15). -/
def State.sampleStore (s : State) (ws : List Word) : State :=
  let stop := bit (s.rd .pmcSmpCfg) 3
  if stop && decide (512 ≤ s.sampler.held.length) then
    (s.count .pmcSmpDrop 0 32).setFld .pmcSmpStatus 0 1 1
  else
    let n := if s.sampler.seq + 1 < 2 ^ 32 then s.sampler.seq + 1 else 1
    { s with sampler := { s.sampler with
        seq := n
        held := ({ seq := n, words := ws } :: s.sampler.held).take 512 } }

/-- The sampler sees a completion: every (INTERVAL + 1)-th eligible command is sampled (R574). -/
def State.sample (s : State) (c : SampledCommand) : State :=
  let cfg := s.rd .pmcSmpCfg
  let eligible := bit cfg 0 && bit cfg (1 + portIx c.port)
    && (!bit cfg 4 || c.opcode % 128 == field cfg 8 7)
  if eligible then
    if field cfg 16 16 ≤ s.sampler.tally then
      ({ s with sampler := { s.sampler with tally := 0 } }).sampleStore (s.sampleWords c)
    else { s with sampler := { s.sampler with tally := s.sampler.tally + 1 } }
  else s

end Sys2Proof.Machine
end

