-- ==== Sys2Proof/Machine/Ports.lean ====
section
/-! DEFINITION. The packet layer of a port (R251 to R261), its loss and return (R277 to R279), the
semaphores (R284 to R287) and the completion of a link command (R263, R264, R575, R618). -/

namespace Sys2Proof.Machine

/-! ### Update sessions -/

/-- The open session of a target (R539): false the firmware, true the plate. -/
def State.session (s : State) (t : Bool) : Option Session := if t then s.boot.sessionPl else s.boot.sessionFw

def State.setSession (s : State) (t : Bool) (x : Option Session) : State :=
  s.onBoot fun b => if t then { b with sessionPl := x } else { b with sessionFw := x }

/-- A session ends (R539): BOT_UPD_STAT keeps its target and a phase, BOT_UPD_WORDS its words. -/
def State.endSession (s : State) (t : Bool) (phase : Nat) : State :=
  match s.session t with
  | none => s
  | some u =>
    ((s.setSession t none).wr .botUpdStat (word (2 * boolNat t + 4 * phase))).wr .botUpdWords (word u.words.length)

/-- Semaphore `k` has been freed: with UPDATE, open sessions end (R287, R539). -/
def State.semFreed (s : State) (k : Nat) : State :=
  if k = 2 then (s.endSession false 0).endSession true 0 else s

/-! ### Semaphores -/

/-- Owner code of R284. -/
def ownerCode : Option Port → Nat
  | none => 0
  | some .A => 1
  | some .B => 2

def State.owner (s : State) (k : Nat) : Option Port := s.sems.getD k none

def State.setOwner (s : State) (k : Nat) (o : Option Port) : State :=
  { s with sems := modifyAt (fun _ => o) k s.sems }

/-- Port `p` holds semaphore `k`. -/
def State.holds (s : State) (p : Port) (k : Nat) : Bool := decide (s.owner k = some p)

/-- An acquire (R284). -/
def State.semAcquire (s : State) (p : Port) (k : Nat) : Status × State :=
  match s.owner k with
  | none => (.ok, s.setOwner k (some p))
  | some q => if q = p then (.ok, s) else (.semHeld, s.count .hptSemFailCnt (16 * portIx p) 16)

/-- A release (R284): the other port gets a SEM_FREE event. -/
def State.semRelease (s : State) (p : Port) (k : Nat) : Status × State :=
  match s.owner k with
  | none => (.state, s)
  | some q => if q = p then (.ok, ((s.setOwner k none).semFreed k).event (otherPort p) 0x04 k) else (.refusedOwner, s)

/-- The refusal of a request that semaphore `k` gates, for a port that does not hold it (R286). -/
def State.gate (s : State) (p : Port) (k : Nat) : Option Status :=
  match s.owner k with
  | none => some .state
  | some q => if q = p then none else some .semHeld

/-- HPT_SEM_OWNER (R296). -/
def State.semOwners (s : State) : Word :=
  word ((List.range 16).foldl (fun a k => a + ownerCode (s.owner k) * 4 ^ k) 0)

/-! ### Acknowledgement of inward packets -/

def State.sendAck (s : State) (p : Port) : State :=
  (s.sendControl p 4 (((s.port p).expSeq + 4095) % 4096) 0).onPort p fun x =>
    { x with sinceAck := 0, oldest := none }

/-- A NAK (R255): 1 CRC, 2 SEQ, 3 CREDIT. It is repeated until the expected packet arrives (DEDUCED, log 16). -/
def State.sendNak (s : State) (p : Port) (reason : Nat) : State :=
  let s1 := (((s.sendControl p 5 (s.port p).expSeq reason).pcount p .hptPktCnt 16 16).pmc 0x17)
  s1.onPort p fun x => { x with nakOut := some reason, nakTimer := some (s.now, s.ackTmo) }

/-- An ACK is sent whenever the free queue space has grown by 4 KiB since the CREDIT last sent (R258). -/
def State.creditAck (s : State) (p : Port) : State :=
  let x := s.port p
  if x.linkUp && decide (x.creditSent + 256 ≤ x.credit) then s.sendAck p else s

/-- Words enter a command queue (R273). -/
def State.enqueue (s : State) (p : Port) (ws : List Word) : State :=
  if ws = [] then s
  else
    (s.onPort p fun x =>
      { x with queue := x.queue ++ ws
               arrivals := x.arrivals ++ [{ left := ws.length, time := s.now
                                            ahead := x.queue.length }] }).pmc
      (0x14 + portIx p) ws.length

/-- The arrival records after `n` words have been consumed. -/
def consumeArrivals : Nat → List Arrival → List Arrival
  | _, [] => []
  | n, a :: t =>
    if n < a.left then { a with left := a.left - n, ahead := a.ahead + n } :: t
    else consumeArrivals (n - a.left) t

/-- The arbiter consumes `n` words of a queue. -/
def State.dequeue (s : State) (p : Port) (n : Nat) : State :=
  (s.onPort p fun x =>
    { x with queue := x.queue.drop n, arrivals := consumeArrivals n x.arrivals }).creditAck p

/-- A whole packet of a type, with its CRC and reserved bits right (R252, R253). -/
def RxPacket.sound (k : RxPacket) (type : Nat) : Bool :=
  decide (k.crc = packetCrc k.header k.payload) && decide (field k.header 0 4 = type)
    && decide (field k.header 25 7 = 0) && decide (field k.header 16 9 ≤ 256)
    && decide (field k.header 16 9 = k.payload.length)

/-- A packet that fails the first row of R255: it held a code violation or a K30.7 (none), or is not a sound DATA
packet. -/
def packetBad (k : Option RxPacket) : Bool :=
  match k with
  | none => true
  | some k => !k.sound 1

/-- A DATA packet arrives (R254, R255; log 16). -/
def State.receive (s : State) (p : Port) (o : Option RxPacket) : State :=
  let x := s.port p
  if !x.linkUp || x.inDiscard then s
  else if packetBad o then
    ((((s.pcount p .hptPktCnt 0 16).pflag p .hptEvent 2).report 0x3A (portIx p)).sendNak p 1)
  else
    let k := o.getD { header := 0, payload := [], crc := 0 }
    let seq := field k.header 4 12
    let behind := (x.expSeq + 4096 - seq) % 4096
    if seq ≠ x.expSeq then
      if x.nakOut.isSome then s
      else if behind ≤ 2048 then s.sendAck p
      else s.sendNak p 2
    else if 16384 - x.queue.length < k.payload.length then s.sendNak p 3
    else
      let s1 := ((s.enqueue p k.payload).pmc (0x12 + portIx p)).onPort p fun y =>
        { y with expSeq := (y.expSeq + 1) % 4096
                 nakOut := none
                 nakTimer := none
                 sinceAck := y.sinceAck + 1
                 oldest := some (y.oldest.getD s.now) }
      if 8 ≤ (s1.port p).sinceAck then s1.sendAck p else s1

/-- 2 µs have passed since the oldest packet not yet acknowledged (R258). -/
def State.ackDue (s : State) (p : Port) : State :=
  match (s.port p).oldest with
  | some t => if (s.port p).linkUp then (s.advance (t + 2 * usec)).sendAck p else s
  | none => s

/-- HPT_ACK_TMO has passed without the packet that a NAK names (R255) (DEDUCED, log 16). -/
def State.nakRepeat (s : State) (p : Port) : State :=
  let x := s.port p
  match x.nakOut, x.nakTimer with
  | some r, some (t, n) => if x.linkUp then (s.advance (t + n)).sendNak p r else s
  | _, _ => s

/-! ### Outward packets -/

/-- The packets that stay unacknowledged when the host has received everything below `nextSeq`. -/
def dropAcked (nextSeq : Nat) (l : List TxPacket) : List TxPacket :=
  match l with
  | [] => []
  | k :: _ =>
    let n := (nextSeq + 4096 - k.seq) % 4096
    if n ≤ l.length then l.drop n else l

/-- The host's acknowledgement of every outward packet below `nextSeq` (R259). -/
def State.acknowledge (s : State) (p : Port) (nextSeq : Nat) : State :=
  let rest := dropAcked nextSeq (s.port p).unacked
  (s.onPort p fun x =>
    { x with unacked := rest
             retries := if rest.length < x.unacked.length then 0 else x.retries
             ackTimer := if rest = [] then none
               else if rest.length < x.unacked.length then some (s.now, s.ackTmo) else x.ackTimer }).flush p

/-- Every packet from the oldest unacknowledged one is sent again (R259) (DEDUCED, log 20). -/
def State.retransmit (s : State) (p : Port) : State :=
  let l := (s.port p).unacked
  (((s.onPort p fun x => { x with wire := l.reverse ++ x.wire
                                  ackTimer := if l = [] then none else some (s.now, s.ackTmo) }).transmit p l).pcount p
    .hptRetxCnt 0 32 l.length).pmc 0x18 l.length

/-- An ACK of the host (R256, R259). -/
def State.hostAck (s : State) (p : Port) (aseq : Nat) : State :=
  if (s.port p).linkUp then s.acknowledge p ((aseq + 1) % 4096) else s

/-- A NAK of the host: it names the next packet expected, and the device sends from there again. -/
def State.hostNak (s : State) (p : Port) (aseq : Nat) : State :=
  if (s.port p).linkUp then (s.acknowledge p (aseq % 4096)).retransmit p else s

/-! ### Completions -/

/-- The completion record of a command (R263). -/
def completionRecord (opcode : Nat) (tag : Byte) (st : Nat) (value : Word) (data : List Word) : List Word :=
  word (opcode + 256 * tag.toNat + 65536 * st) :: value :: data

/-- Status codes of R23. -/
def statusCode : Status → Nat
  | .ok => 0
  | .busy => 1
  | .refusedOwner => 2
  | .lenRange => 3
  | .addrRange => 4
  | .blockOff => 5
  | .slotLeased => 6
  | .lbufShort => 7
  | .fenceTimeout => 8
  | .semHeld => 9
  | .lifecycle => 10
  | .authFail => 11
  | .crcFail => 12
  | .notPlated => 13
  | .state => 14

/-- A link command of a port as its service knows it: opcode as received, tag, length, and where and when
its header entered the queue. -/
structure Served where
  port : Port
  opcode : Nat
  tag : Byte
  len : Nat
  qpos : Nat
  arrived : Nat
  streamed : Bool
deriving DecidableEq, Repr

/-- A command of a port completes (R263, R264, R575, R618, R619). -/
def State.complete (s : State) (c : Served) (st : Status) (value : Word) (data : List Word) : State :=
  let ix := portIx c.port
  let code := c.opcode % 128
  let quiet := decide (128 ≤ c.opcode) && decide (st = .ok) && decide (code ≠ 0x02) && decide (code ≠ 0x08)
  let s1 := s.count .cmdServed 0 32 1 ix
  let s2 := if st = .ok then s1
    else (s1.count .cmdRefcnt 0 32 1 ix).wr .cmdLref
      (word (c.opcode + 256 * c.tag.toNat + 65536 * statusCode st)) ix
  let s3 := if quiet then s2
    else s2.post c.port (.resp (completionRecord c.opcode c.tag (statusCode st) value data))
  s3.sample { port := c.port, opcode := c.opcode, tag := c.tag, status := statusCode st
              streamed := c.streamed, qpos := c.qpos, len := c.len, arrived := c.arrived
              done := max s.now s.arbFree }

/-! ### Loss and return -/

/-- What a streamed command has written to memory ends here: a word with an uncorrectable error that its last stored word
covers in part gets new check bits (R629), as the end of a whole write gives them (DEDUCED, log 111). -/
def State.cutWrite (s : State) (x : Stream) : State :=
  let stored : Option Nat := match x.kind with
    | .layer k off => some (s.slotBase k + off)
    | .window k off => some (s.slotBase k + off)
    | .cellar a => some a
    | _ => none
  match stored with
  | some e => if x.served = 0 then s else s.storePart x.served 0 e []
  | none => s

/-- A streamed command in progress is abandoned (R278, R279, R297, R619) (DEDUCED, log 22): the memory slot that it
names is marked, also where its header was refused and the rest of its payload was only discarded. -/
def State.abandon (s : State) (p : Port) : State :=
  match (s.port p).stream with
  | none => s
  | some x =>
    let s := s.cutWrite x
    let ix := portIx p
    let s1 := match x.named with
      | some k => s.onSlot k fun y => { y with incomplete := true }
      | none => s
    let slotBits := match x.named with
      | some k => 2 ^ 17 + 2 ^ 18 * k
      | none => 0
    let lref := s1.rd .cmdLref ix
    ((((((((s1.onPort p fun y => { y with stream := none }).count .hptAbandonCnt (16 * ix) 16).wr .hptAbandon
      (word (x.opcode + 256 * x.tag.toNat + 2 ^ 16 * ix + slotBits))).pflag p .hptEvent 1).count
      .cmdRefcnt 0 32 1 ix).wr .cmdLref
      (setField (setField lref 0 8 x.opcode) 8 8 x.tag.toNat) ix).report 0x3B ix).sample
      { port := p, opcode := x.opcode, tag := x.tag, status := 0xFF, streamed := true
        qpos := x.qpos, len := x.len, arrived := x.arrived, done := s.now })

/-- The queue, the outward packets and both sequences of a port start afresh (R260, R278). -/
def State.clearPort (s : State) (p : Port) : State :=
  s.onPort p fun x =>
    { x with expSeq := 0, nakOut := none, nakTimer := none, sinceAck := 0, oldest := none
             queue := [], arrivals := [], txSeq := 0, unacked := [], outbox := [], retries := 0
             ackTimer := none }

/-- The semaphores of a port, in rising order (DEDUCED, log 23). -/
def State.heldBy (s : State) (p : Port) : List Nat := (List.range 16).filter fun k => s.holds p k

/-- The port is lost (R277, R278, R287) (DEDUCED, log 22, 23): SEM_REVOKED is set whether or not it held a semaphore. -/
def State.losePort (s : State) (p : Port) : State :=
  let ix := portIx p
  let held := s.heldBy p
  let s1 := ((s.abandon p).clearPort p).onPort p fun x => { x with lost := true, silent := none }
  let s2 := held.foldl (fun t k => (t.setOwner k none).semFreed k) s1
  let s4 := (((s2.pflag p .hptEvent 0).pflag p .hptEvent 5).count .hptLossCnt (16 * ix) 16).report (0x38 + ix) ix
  held.foldl (fun t k => t.event (otherPort p) 0x04 k) (s4.event (otherPort p) 0x05 1)

/-- The loss timer of a port expires (R277). -/
def State.lossDue (s : State) (p : Port) : State :=
  let x := s.port p
  match x.silent with
  | some (t, n) => if x.linkUp || x.lost then s else (s.advance (t + n)).losePort p
  | none => s

/-- HPT_LOSS_TMO in time units (R296). -/
def State.lossTmo (s : State) : Nat := s.fld .hptLossTmo 0 8 * 10 * msec

/-- A lost port returns (R277): the other port gets a PORT event. -/
def State.portReturns (s : State) (p : Port) : State :=
  if (s.port p).lost then
    (s.onPort p fun x => { x with lost := false }).event (otherPort p) 0x05 0
  else s

/-- A transaction of the management bus addressed to the device: a lost port returns, and the silence of
R277 begins again. -/
def State.busActive (s : State) (p : Port) : State :=
  (s.portReturns p).onPort p fun x =>
    { x with silent := if x.linkUp then none else some (s.now, s.lossTmo) }

/-- The link of a port enters UP (R260, R277, R316): the first packet is a NAK, then what was held is
sent. -/
def State.portUp (s : State) (p : Port) : State :=
  let s1 := (s.portReturns p).onPort p fun x => { x with linkUp := true, silent := none, inDiscard := false }
  let s2 := s1.sendNak p 2
  (s2.onPort p fun x =>
    { x with ackTimer := if x.unacked = [] then none else some (s.now, s.ackTmo) }).flush p

/-- The link of a port leaves UP: what is not acknowledged is kept, and the silence of R277 begins. -/
def State.portDown (s : State) (p : Port) : State :=
  s.onPort p fun x =>
    { x with linkUp := false, silent := if x.lost then none else some (s.now, s.lossTmo)
             nakTimer := none, ackTimer := none, retries := 0, inDiscard := false }

/-- HPT_PORT_STATE as port `p` reads it (R297); at reset QFREE reads 0x1000 (DEDUCED, log 105). -/
def State.portState (s : State) (p : Port) : Word :=
  word (boolNat s.portA.linkUp + 2 * boolNat s.portA.lost + 4 * boolNat s.portB.linkUp
    + 8 * boolNat s.portB.lost + 65536 * (s.port p).credit)

end Sys2Proof.Machine
end

