-- ==== Sys2Proof/Machine/Lanes.lean ====
section
/-! DEFINITION. Serial lanes and link bring-up (R298 to R332): link states, training sets, parking and
re-admission of lanes, low power in HOLD, loopback registers. -/

namespace Sys2Proof.Machine

/-! ### Names -/

def State.lane (s : State) (p : Port) (k : Nat) : Lane := (s.link p).lanes.getD k {}

def State.onLane (s : State) (p : Port) (k : Nat) (f : Lane → Lane) : State :=
  s.onLink p fun l => { l with lanes := modifyAt f k l.lanes }

/-- Every lane changed by `f`, which sees the lane's physical number. -/
def mapLanes (f : Nat → Lane → Lane) : Nat → List Lane → List Lane
  | _, [] => []
  | k, l :: t => f k l :: mapLanes f (k + 1) t

def State.onLanes (s : State) (p : Port) (f : Nat → Lane → Lane) : State :=
  s.onLink p fun l => { l with lanes := mapLanes f 0 l.lanes }

/-- LNK_TMO_p in time units (R335). -/
def State.lnkTmo (s : State) (p : Port) : Nat := s.fld .lnkTmo 0 16 (portIx p) * usec

/-- The rejoin interval that a lane parked now starts with (R325). -/
def State.rejoinTimer (s : State) (p : Port) : Option (Nat × Nat) :=
  let n := s.fld .lnkErrCfg 16 8 (portIx p)
  if n = 0 then none else some (s.now, n * 10 * msec)

/-- Physical lanes for which `q` holds. -/
def Link.lanesWith (l : Link) (q : Lane → Bool) : List Nat :=
  (List.range 4).filter fun k => q (l.lanes.getD k {})

def Link.activeLanes (l : Link) : List Nat := l.lanesWith fun x => decide (x.role = .active)

/-- The bits of a list of lane numbers. -/
def laneBits (ks : List Nat) : Nat := packBits ((List.range 4).map fun k => ks.contains k)

/-- The mask, in logical numbers, of a list of physical lanes (R308). -/
def Link.logicalMask (l : Link) (ks : List Nat) : Nat :=
  laneBits (ks.filterMap fun k => (l.lanes.getD k {}).logical)

/-- The transmit lane of a port changes what it sends between packets (R312). -/
def State.txEnter (s : State) (p : Port) (m : TxMode) : State :=
  let gt := groupTime (s.link p).rate
  s.onPort p fun x => { x with tx := x.tx.enter gt s.now m }

/-- Symbols on the transmit lane: a training set after the packet in progress (R307, R322), others behind all. -/
def State.txPut (s : State) (p : Port) (ts : Bool) (l : List Sym) : State :=
  let gt := groupTime (s.link p).rate
  s.onPort p fun x => { x with tx := if ts then x.tx.putSet gt s.now l else x.tx.put gt s.now false l }

/-- Code of a training set (R306). -/
def tsCode : TsFor → Nat
  | .rate => 2
  | .park => 3
  | .holdPark => 3
  | .join => 3
  | .prbsStart => 4
  | .prbsStop => 4

/-- The device sends a training set with lane number 0 and waits for its ACK (R306, R307, R309). -/
def State.sendTs (s : State) (p : Port) (why : TsFor) (b4 b5 : Nat) : State :=
  let w : TsWait := { why := why, b4 := b4, b5 := b5, start := s.now, length := s.lnkTmo p }
  let t : TrainSet := { code := BitVec.ofNat 8 (tsCode why), lane := 0, b4 := BitVec.ofNat 8 b4
                        b5 := BitVec.ofNat 8 b5, b6 := 0 }
  (s.txPut p true t.symbols).onLink p fun l =>
    { l with wait := if tsCode why = 4 then l.wait else some w
             prbs := if tsCode why = 4 then some w else l.prbs
             sent := (tsCode why, b4, b5) :: l.sent }

/-- The latest training set of a code, while its ACK has not arrived (R309). -/
def Link.awaited (l : Link) (code : Nat) : Option TsWait := if code = 4 then l.prbs else l.wait

/-- A training set's mask names the lane (R308). -/
def Lane.named (x : Lane) (mask : Nat) : Bool :=
  match x.logical with
  | some n => (BitVec.ofNat 4 mask).getLsbD n
  | none => false

/-! ### Training -/

/-- A lane that returns to training (R325). -/
def Lane.fresh : Lane := {}

/-- Lanes whose ADAPT bit is 0 use their fixed code (R319). -/
def State.useFixed (s : State) (p : Port) : State :=
  let ix := portIx p
  let v := (s.link p).fixed
  (List.range 4).foldl (fun t k =>
    if bit (s.rd .lnkEqCfg ix) (8 * k + 4) then t else t.setFld .lnkEqState (8 * k) 4 (field v (8 * k) 4) ix) s

/-- Entry to TRAIN at 1.25 Gbit/s with unlocked lanes (R314, R318): the settings of R318 apply, and RETRAIN reads 0 from
here on, also after a write of 1 in this CK_FAB cycle (R21), whose action is this entry. -/
def State.enterTrain (s : State) (p : Port) (idle : Bool) : State :=
  let ix := portIx p
  let s1 := s.txEnter p .quiet
  let s2 := s1.onLink p fun l =>
    { l with state := .train, rate := 0, prevSet := none, stopped := none, restarted := false
             idle := if idle then some s.now else none
             lanes := l.lanes.map fun _ => Lane.fresh
             maxRate := s.fld .lnkCtrl 4 3 ix, minLanes := s.fld .lnkCtrl 8 3 ix
             txcfg := s.rd .lnkTxcfg ix, fixed := s.rd .lnkEqCfg ix
             wait := none, prbs := none, deciding := none, timer := some (s.now, s.lnkTmo p) }
  let s3 := (s2.useFixed p).setFld .lnkCtrl 1 1 0 ix
  if idle then s3 else s3.txEnter p .train

def State.enterDisabled (s : State) (p : Port) : State :=
  (s.txEnter p .quiet).onLink p fun l =>
    { l with state := .disabled, rate := 0, prevSet := none, stopped := none, restarted := false
             idle := none, lanes := l.lanes.map (fun _ => Lane.fresh)
             wait := none, prbs := none, deciding := none, timer := none }

/-- EN of the link and its PHY domain are on (R314). -/
def State.mayTrain (s : State) (p : Port) : Bool :=
  bit (s.rd .lnkCtrl (portIx p)) 0 && s.domOn (phyDomain p)

/-- Where a link goes that is no longer UP (R314). -/
def State.afterDown (s : State) (p : Port) : State :=
  if s.mayTrain p then s.enterTrain p true else s.enterDisabled p

/-- The link leaves UP with a cause of R323. -/
def State.linkDown (s : State) (p : Port) (cause : Nat) : State :=
  if (s.link p).state = .up then
    let ix := portIx p
    let s1 := s.onLink p fun l => { l with downCause := cause }
    let s2 := (s1.flag .lnkEvent 1 ix).count .lnkCnt 0 16 1 ix
    let s3 := if cause ≤ 5 then s2.report (0x30 + ix) ix else s2
    (s3.portDown p).afterDown p
  else s

/-- The link is disabled: EN cleared (cause 6), which forgets the failed rates (R314), or its PHY domain switched off
(cause 7). -/
def State.linkOff (s : State) (p : Port) (cause : Nat) : State :=
  ((s.linkDown p cause).enterDisabled p).onLink p fun l => { l with failed := if cause = 6 then 0 else l.failed }

/-- A link that may train leaves DISABLED (R314). -/
def State.linkOn (s : State) (p : Port) : State :=
  if (s.link p).state = .disabled && s.mayTrain p then s.enterTrain p false else s

/-- A write of LNK_CTRL_p (R314, R318, R331): EN, RETRAIN and the settings. RETRAIN in TRAIN, CAPS or RATE restarts TRAIN
without an idle time before it (DESIGN CHOICE, log 106). -/
def State.lnkCtrlSet (s : State) (lp : Port) (v : Word) : Status × State :=
  let ix := portIx lp
  let was := bit (s.rd .lnkCtrl ix) 0
  let en := bit v 0
  if en && !was && decide (field (s.rd .lnkLoop ix) 0 2 ≠ 0) then (.state, s)
  else
    let hold := bit (s.rd .lnkCtrl ix) 1
    let s1 := s.wr .lnkCtrl (setField v 1 1 (boolNat (bit v 1 || hold))) ix
    if was && !en then (.ok, s1.linkOff lp 6)
    else if en && !was then (.ok, (s1.onLink lp fun l => { l with failed := 0 }).linkOn lp)
    else if bit v 1 then
      if (s1.link lp).state = .up then (.ok, s1.linkDown lp 6)
      else if (s1.link lp).state = .disabled then (.ok, s1)
      else (.ok, (s1.onLink lp fun l => { l with failed := 0 }).enterTrain lp false)
    else (.ok, s1)

/-- Highest rate code in a set of rates, up to `top`, 0 when none. -/
def topRate (rates : BitVec 5) (top : Nat) : Nat :=
  ((List.range 5).filter fun r => rates.getLsbD r && decide (r ≤ top)).foldl max 0

/-- Entry to UP (R316): the aligned lanes become active, the others PARKED. -/
def State.enterUp (s : State) (p : Port) : State :=
  let ix := portIx p
  let rj := s.rejoinTimer p
  let s1 := s.onLanes p fun _ x =>
    if x.aligned then { x with role := .active, missed := 0, faults := [] }
    else { x with role := .parked, rejoin := rj }
  let s2 := (s1.onLink p fun l => { l with state := .up, wait := none, prbs := none, timer := none, prevSet := none
                                           failed := 0 }).flag .lnkEvent 0 ix
  let l := s2.link p
  let s3 := if l.rate < topRate l.hostRates 4 then (s2.flag .lnkEvent 5 ix).report 0x34 ix else s2
  (s3.txEnter p .idle).portUp p

/-- The logical numbers of the lanes after CAP sets (R308), lane by lane: a lane that has shown a number takes it, the
others keep theirs, and of two physical lanes with one number the lower keeps it (DEDUCED, log 25). -/
def claimNumbers : List Nat → List (Option Nat) → List Lane → List Lane
  | _, _, [] => []
  | taken, cs, x :: t =>
    match (match cs with
      | some n :: _ => some (n % 4)
      | _ => x.logical) with
    | some n =>
      if taken.contains n then { x with logical := none, aligned := false } :: claimNumbers taken cs.tail t
      else { x with logical := some n } :: claimNumbers (n :: taken) cs.tail t
    | none => x :: claimNumbers taken cs.tail t

/-- A host CAP with these rates, and the lane number that each lane has shown (R308, R314): in CAPS it sets the target
rate. -/
def State.hostCap (s : State) (p : Port) (rates : BitVec 5) (claims : List (Option Nat)) : State :=
  let s1 := s.onLink p fun l => { l with hostRates := rates, lanes := claimNumbers [] claims l.lanes }
  if (s.link p).state = .caps then
    let l := s1.link p
    let target := topRate (rates &&& ~~~l.failed) l.maxRate
    if target = 0 then s1.enterUp p
    else
      let s2 := s1.onLink p fun l => { l with state := .rate, target := target, restarted := false
                                              stopped := none, prevSet := none
                                              timer := some (s.now, s.lnkTmo p) }
      (s2.sendTs p .rate target 0).txEnter p .idle
  else s1

/-- The equaliser code of a lane that adapts (R319): the code of the widest of the measured eyes; else the fixed code.
-/
def State.equalise (s : State) (p : Port) (k : Nat) (eyes : List Nat) : State :=
  let ix := portIx p
  if bit (s.rd .lnkEqCfg ix) (8 * k + 4) then
    match widestEye eyes with
    | some c => s.setFld .lnkEqState (8 * k) 4 c ix
    | none => s
  else s.setFld .lnkEqState (8 * k) 4 (field (s.link p).fixed (8 * k) 4) ix

/-! ### Faulty lanes -/

/-- Rejoins in progress are cancelled (R325, last row). -/
def State.cancelRejoin (s : State) (p : Port) : State :=
  let rj := s.rejoinTimer p
  s.onLanes p fun _ x =>
    match x.role with
    | .check => { x with role := .parked, timer := none, acked := false, checking := false, rejoin := rj }
    | .resync => { x with role := .parked, timer := none, good := 0, rejoin := rj }
    | _ => x

/-- A condition of R321 arises at an active lane, which becomes faulty if it was not (R321, R322, R325). -/
def State.laneFails (s : State) (p : Port) (k : Nat) (c : LaneCause) : State :=
  let x := s.lane p k
  if (s.link p).state = .up && decide (x.role = .active) then
    let s1 := s.onLane p k fun x => { x with faults := if x.faults.contains c then x.faults else x.faults ++ [c] }
    if x.faults = [] then
      let s2 := (s1.cancelRejoin p).onLink p fun l => { l with deciding := some (l.deciding.getD s.now) }
      match (s2.link p).wait with
      | some w => if w.why = .join then s2.onLink p fun l => { l with wait := none } else s2
      | none => s2
    else s1
  else s

/-- LNK_ERR_CFG_p.THR (R321). -/
def State.cvLimit (s : State) (p : Port) : Nat := s.fld .lnkErrCfg 0 8 (portIx p)

/-- A condition of R321 holds at a lane: LOS and LOL as their detectors show them, the others as the lane stands. -/
def State.laneCause (s : State) (p : Port) (k : Nat) (c : LaneCause) : Bool :=
  let x := s.lane p k
  match c with
  | .los => true
  | .lol => true
  | .lockLost => !x.lock
  | .misaligned => decide (2 ≤ x.missed)
  | .violations => decide (s.cvLimit p ≤ x.cv)

/-- LOS, LOL, lock loss, misalignment or code violations of a lane (R320, R321). A lane parked for HOLD counts nothing
(R329). -/
def State.laneFault (s : State) (p : Port) (k : Nat) (c : LaneCause) : State :=
  if 4 ≤ k ∨ (s.lane p k).role = .lpPark then s
  else
    let s1 := match c with
      | .los => s.count .lnkLcnt 16 8 1 (portIx p) k
      | .lol => s.count .lnkLcnt 24 8 1 (portIx p) k
      | _ => s
    if s.laneCause p k c then s1.laneFails p k c else s1

/-! ### What the lanes receive -/

/-- The decoder of a lane is at work: its link is not disabled, it is not parked for HOLD (R329), and it does not get an
unencoded pattern (R325, R326). -/
def State.decodes (s : State) (p : Port) (k : Nat) : Bool :=
  decide (k < 4) && decide ((s.link p).state ≠ .disabled) && decide ((s.lane p k).role ≠ .lpPark)
    && decide ((s.lane p k).role ≠ .check)

/-- A lane receives (R298, R300, R313, R319, R321): code violations count, symbol lock comes and goes; `eyes` are what
its phase-margin counter has measured (DEDUCED, log 21). -/
def State.laneReceives (s : State) (p : Port) (k : Nat) (items : List LineItem) (eyes : List Nat) : State :=
  if !s.decodes p k then s
  else
    let x := s.lane p k
    let (y, lost) := Lane.takeAll items x
    let s1 := (s.onLane p k fun _ => y).count .lnkLcnt 0 16 (y.cv - x.cv) (portIx p) k
    let s2 := if lost then s1.laneFails p k .lockLost else s1
    let s3 := if s.cvLimit p ≤ y.cv then s2.laneFails p k .violations else s2
    if y.lock && (!x.lock || lost) && (decide ((s.link p).state = .train) || decide ((s.link p).state = .rate)) then
      s3.equalise p k eyes
    else s3

/-- Each lane receives its part of a row's code groups. -/
def State.lanesReceive (s : State) (p : Port) (lines : List (List LineItem)) : State :=
  (List.range 4).foldl (fun t k => t.laneReceives p k (lines.getD k []) []) s

/-- A lane receives code groups and may achieve or lose symbol lock (R301, R313). Before lock, the polarity found in
them applies: the groups alone do not show it, since the two forms of K28.5 are each other's complement (DEDUCED, log
21). -/
def State.symbolLock (s : State) (p : Port) (k : Nat) (items : List LineItem) (inverted : Bool) (eyes : List Nat) : State :=
  let s1 := if s.decodes p k && !(s.lane p k).lock then s.onLane p k fun x => { x with inverted := inverted } else s
  s1.laneReceives p k items eyes

/-- The active lanes in ascending logical order (R302). -/
def Link.stripeLanes (l : Link) : List Nat :=
  (List.range 4).flatMap fun n => l.lanesWith fun x => decide (x.role = .active) && decide (x.logical = some n)

/-- The latest K28.5 of a lane is one more code violation, `age` groups back (R300, R313, R321). -/
def State.commaViolates (s : State) (p : Port) (k age : Nat) : State :=
  let x := s.lane p k
  let (y, lost) := { x with cv := x.cv + 1 }.violated (age :: x.viols)
  let s1 := (s.onLane p k fun _ => y).count .lnkLcnt 0 16 1 (portIx p) k
  let s2 := if lost then s1.laneFails p k .lockLost else s1
  if s.cvLimit p ≤ y.cv then s2.laneFails p k .violations else s2

/-- The packet that the active lanes hold, a K28.5 at the place of a pad that is none counted as a violation (R300, R302);
the lanes begin afresh. -/
def State.takePacket (s : State) (p : Port) : Option RxPacket × State :=
  let l := s.link p
  let lane (k : Nat) : Lane := l.lanes.getD k {}
  let last := l.stripeLanes.filter fun k => lastColumn [lane k] ≠ []
  let s1 := last.zipIdx.foldl (fun t (k, i) =>
    match strayComma (last.map lane) i with
    | some age => t.commaViolates p k age
    | none => t) s
  (packetOf (l.stripeLanes.map lane), s1.onLanes p fun _ x => { x with framed := false, held := [], joined := 0 })

/-- A packet has come in whole on the active lanes (R254, R256, R259): an ACK and a NAK of the host by their type, all
else as DATA. -/
def State.packetIn (s : State) (p : Port) (lines : List (List LineItem)) : State :=
  let (o, s1) := (s.lanesReceive p lines).takePacket p
  match o with
  | some k =>
    let w := k.payload.getD 0 0
    if (s1.port p).inDiscard then s1
    else if k.sound 4 && decide (k.payload.length = 1) then s1.hostAck p (field w 0 12)
    else if k.sound 5 && decide (k.payload.length = 1) then s1.hostNak p (field w 0 12)
    else s1.receive p o
  | none => s1.receive p none

def State.dataPacket (s : State) (p : Port) (lines : List (List LineItem)) : State := s.packetIn p lines

def State.ackReceived (s : State) (p : Port) (lines : List (List LineItem)) : State := s.packetIn p lines

def State.nakReceived (s : State) (p : Port) (lines : List (List LineItem)) : State := s.packetIn p lines

/-- The healthy active lanes, and the mask that names the one of them with the lowest logical number (R329). -/
def Link.healthy (l : Link) : List Nat := l.lanesWith fun x => decide (x.role = .active) && x.faults.isEmpty

def Link.lowestMask (l : Link) : Nat :=
  2 ^ (sortNats (l.healthy.filterMap fun k => (l.lanes.getD k {}).logical)).headD 0

/-- The decision of R322, 0.5 µs after an active lane first became faulty. A narrowing for HOLD that is not complete
goes on with a healthy lane (R329) (DEDUCED, log 17). -/
def State.parkDecision (s : State) (p : Port) : State :=
  match (s.link p).deciding with
  | none => s
  | some t =>
    let s := (s.advance (t + usec / 2)).onLink p fun l => { l with deciding := none }
    let l := s.link p
    let act := l.activeLanes.map fun k => l.lanes.getD k {}
    if l.healthy = [] then
      let los := act.all fun x => x.faults.contains .los
      let lost := act.all fun x => x.faults.contains .lol || x.faults.contains .lockLost
      s.linkDown p (if los then 1 else if lost then 2 else 3)
    else if l.healthy = l.activeLanes then s
    else
      let s1 := s.onPort p fun x => { x with inDiscard := true }
      if (l.wait.map (·.why)) = some .holdPark then s1.sendTs p .holdPark l.lowestMask 0
      else s1.sendTs p .park (l.logicalMask l.healthy) 0

/-- The faulty lanes that a LANES set does not name are parked at its switch (R322): they count, flag and report. -/
def State.parkFaulty (s : State) (p : Port) (mask : Nat) : State :=
  let ix := portIx p
  let ks := (s.link p).lanesWith fun x => decide (x.role = .active) && !x.faults.isEmpty && !x.named mask
  let rj := s.rejoinTimer p
  ks.foldl (fun t k =>
    (((t.onLane p k fun x => { x with role := .parked, faults := [], aligned := false, rejoin := rj }).count
      .lnkParkCnt 0 16 1 ix).flag .lnkEvent 2 ix).report (0x32 + ix) (4 * ix + k)) s

/-- Lanes enter CHECK with a PRBS TS that names them (R325) (DEDUCED, log 25). -/
def State.startCheck (s : State) (p : Port) (ks : List Nat) : State :=
  let l := s.link p
  let named := ks.filter fun k => (l.lanes.getD k {}).logical.isSome
  if named = [] then s
  else
    let tmo := s.lnkTmo p
    let s1 := s.onLanes p fun k x =>
      if named.contains k then
        { x with role := .check, acked := false, checking := false, rejoin := none, faults := []
                 lock := false, aligned := false, disp := none, recent := [], viols := [], since := none
                 framed := false, held := [], joined := 0, bits := [], streak := 0, timer := some (s.now, tmo) }
      else x
    let pat := s.fld .lnkErrCfg 24 2 (portIx p)
    (s1.onLink p fun l => { l with pattern := pat }).sendTs p .prbsStart (l.logicalMask named) (1 + 2 * pat)

/-- A check or resynchronisation of a lane fails (R325). -/
def State.rejoinFails (s : State) (p : Port) (k : Nat) (stop : Bool) : State :=
  let l := s.link p
  let rj := s.rejoinTimer p
  let s1 := (s.onLane p k fun x =>
    { x with role := .parked, timer := none, acked := false, checking := false, good := 0
             rejoin := rj }).flag .lnkEvent 4 (portIx p)
  if stop then s1.sendTs p .prbsStop (l.logicalMask [k]) (2 * l.pattern) else s1

/-- Instant at which the rejoin interval of a parked lane elapses, where it has a logical number by which a set can name it
(R308, R325). -/
def Lane.rejoinAt (x : Lane) : Option Nat :=
  match x.role, x.rejoin, x.logical with
  | .parked, some (t, n), some _ => some (t + n)
  | _, _, _ => none

/-- The earliest rejoin interval elapses (R325): every parked lane due by then enters CHECK. -/
def State.rejoinDue (s : State) (p : Port) : State :=
  let l := s.link p
  match (l.lanes.filterMap Lane.rejoinAt).min? with
  | none => s
  | some due =>
    if l.state = .up then
      let s1 := s.advance due
      s1.startCheck p (l.lanesWith fun x => x.rejoinAt.any (decide <| · ≤ s1.now))
    else s

/-- A write of LNK_REJOIN_p (R325, R335): STATE unless UP. -/
def State.rejoinWrite (s : State) (lp : Port) (v : Word) : Status × State :=
  let l := s.link lp
  if l.state = .up then
    (.ok, s.startCheck lp ((List.range 4).filter fun k =>
      bit v k && decide ((l.lanes.getD k {}).role = .parked)))
  else (.state, s)

/-! ### Low power in HOLD -/

/-- Entry to HOLD parks all active lanes but the one with the lowest logical number (R329); a faulty lane does not stay
(DEDUCED, log 17). -/
def State.lanesHold (s : State) (p : Port) : State :=
  let l := s.link p
  if l.state = .up && bit (s.rd .lnkCtrl (portIx p)) 12 && decide (1 < l.healthy.length) then
    (s.onPort p fun x => { x with inDiscard := true }).sendTs p .holdPark l.lowestMask 0
  else s

/-- Exit from HOLD: every LPPARK lane enters CHECK (R329). -/
def State.lanesUnhold (s : State) (p : Port) : State :=
  s.startCheck p ((s.link p).lanesWith fun x => decide (x.role = .lpPark))

/-! ### Acknowledged training sets -/

/-- The packet stream resumes after a change of lanes: discarding ends and a NAK names the next packet
(R322). -/
def State.resumePackets (s : State) (p : Port) : State :=
  ((s.onPort p fun x => { x with inDiscard := false }).onLink p fun l => { l with wait := none }).sendNak p 2

/-- Lanes on which an ACK counts (R309; log 17). -/
def Link.ackLanes (l : Link) (w : TsWait) : List Nat :=
  match w.why with
  | .rate => l.lanesWith fun x => x.aligned
  | .prbsStart => l.activeLanes
  | .prbsStop => l.activeLanes
  | _ => l.lanesWith fun x => x.named w.b4

/-- An ACK training set that has come in intact on lanes `seen` (R309, R314, R322, R325, R329) (DEDUCED, log 17). -/
def State.tsAck (s : State) (p : Port) (seen : List Nat) (b4 b5 b6 : Byte) : State :=
  let l := s.link p
  match l.awaited b4.toNat with
  | none => s
  | some w =>
    let fits := decide (b4.toNat = tsCode w.why) && decide (b5.toNat = w.b4) && decide (b6.toNat = w.b5)
      && (l.ackLanes w).any seen.contains
    if !fits then s
    else
      match w.why with
      | .rate => s.onLink p fun l => { l with wait := some { w with acked := true } }
      | .join => s.onLink p fun l => { l with wait := some { w with acked := true } }
      | .park => (s.parkFaulty p w.b4).resumePackets p
      | .holdPark =>
        let s1 := (s.parkFaulty p w.b4).onLanes p fun _ x =>
          if x.role = .active && !x.named w.b4 then { x with role := .lpPark } else x
        let s2 := s1.resumePackets p
        if s2.power.state = .hold then s2 else s2.lanesUnhold p
      | .prbsStart =>
        (s.onLanes p fun _ x =>
          if x.role = .check && !x.acked && x.named w.b4 then { x with acked := true, timer := some (s.now, 10 * usec) }
          else x).onLink p fun l => { l with prbs := none }
      | .prbsStop => s.onLink p fun l => { l with prbs := none }

/-! ### Training sets that come in -/

/-- The host's training sets of one column (R306 to R309), lane by lane: one that is damaged sets TS_ERR, CAP sets give
numbers and rates, an ACK set counts on the lanes that carry the same one (DEDUCED, log 25). -/
def State.trainingSets (s : State) (p : Port) (lines : List (List LineItem)) : State :=
  let s1 := s.lanesReceive p lines
  let seen := (List.range 4).map fun k => if s1.decodes p k then (s1.lane p k).trainSet else .nothing
  let s2 := s1.onLanes p fun _ x => if x.framed then x else { x with held := [] }
  let s3 := if seen.contains .damaged then s2.flag .lnkEvent 8 (portIx p) else s2
  let set (k code : Nat) : Option TrainSet :=
    match seen.getD k .nothing with
    | .set t => if t.code.toNat = code then some t else none
    | _ => none
  let caps := (List.range 4).map fun k => set k 1
  let s4 := match caps.filterMap id with
    | [] => s3
    | t :: _ => s3.hostCap p (BitVec.ofNat 5 t.b4.toNat) (caps.map fun o => o.map fun t => t.lane.toNat)
  let acks := (List.range 4).filterMap fun k => (set k 5).map fun t => (t.b4, t.b5, t.b6)
  acks.eraseDups.foldl (fun t a =>
    t.tsAck p ((List.range 4).filter fun k => decide ((set k 5).map (fun t => (t.b4, t.b5, t.b6)) = some a)) a.1 a.2.1 a.2.2)
    s4

/-! ### Marker columns -/

/-- The lane shows K28.3 in this marker column: its latest code group is one. -/
def Lane.showsMarker (x : Lane) : Bool := x.lock && decide (x.since = some 0)

/-- A lane at a marker column (R305, R313); a new marker interval begins (R321). -/
def Lane.atMarker (skew : Nat) (x : Lane) : Lane :=
  let ok := x.showsMarker && x.logical.isSome && decide (skew ≤ 16)
  if x.role = .lpPark then x
  else
    { x with aligned := ok
             missed := if ok then 0 else x.missed + 1
             good := if x.role = .resync && ok then x.good + 1 else 0
             cv := 0 }

/-- The spacing of the latest marker of a lane lies within 16,384 ± 8 columns, or it is its first (R304): each lane is
judged by its own markers, whatever its role (DESIGN CHOICE, log 113). -/
def Lane.inTime (x : Lane) : Bool := x.gap.all fun n => decide (16376 ≤ n) && decide (n ≤ 16392)

/-- Delays of the lanes that show a marker (R305, LNK_SKEW_p): 0 for a lane that shows none, and 31 for a longer delay
(DESIGN CHOICE, log 113). -/
def skewWord (lanes : List Lane) (marks : List LaneMark) : Word :=
  word ((List.range 4).foldl (fun a k =>
    a + (if (lanes.getD k {}).showsMarker then min (marks.getD k default).skew 31 else 0) * 256 ^ k) 0)

/-- The required lane count at the target rate (R315). -/
def State.requiredLanes (s : State) (p : Port) : Nat :=
  let n := (s.link p).minLanes
  if n = 0 then (s.link p).baseLanes else n

/-- Lanes whose resynchronisation is acknowledged join at the host's next marker column (R325), those of a packet in
progress from its next column on (R303, R327). -/
def State.joinLanes (s : State) (p : Port) (w : TsWait) : State :=
  let ix := portIx p
  let l := s.link p
  let ks := l.lanesWith fun x => decide (x.role = .resync) && x.named w.b4
  let inside := l.activeLanes.filterMap fun k =>
    let x := l.lanes.getD k {}
    if x.framed then some (x.held.length - 1) else none
  let s1 := ks.foldl (fun t k =>
    ((t.onLane p k fun x => { x with role := .active, timer := none, good := 0, missed := 0
                                     faults := [], joined := inside.headD 0, framed := !inside.isEmpty
                                     held := if inside.isEmpty then [] else [some .sop] }).count .lnkParkCnt 16 16 1 ix).flag .lnkEvent 3 ix) s
  s1.onLink p fun l => { l with wait := none }

/-- A marker column while UP: misaligned lanes, joining lanes and resynchronised lanes. -/
def State.markerUp (s : State) (p : Port) : State :=
  let act := (s.link p).activeLanes
  let bad := act.filter fun k => !(s.lane p k).aligned
  let s1 := if bad = [] then s else s.flag .lnkEvent 6 (portIx p)
  let s2 := (bad.filter fun k => decide (2 ≤ (s.lane p k).missed)).foldl (fun t k => t.laneFails p k .misaligned)
    s1
  match (s2.link p).wait with
  | some w =>
    if w.why = .join && w.acked then s2.joinLanes p w else s2
  | none =>
    let l := s2.link p
    let ready := l.lanesWith fun x => decide (x.role = .resync) && decide (2 ≤ x.good)
    if ready = [] then s2 else s2.sendTs p .join (l.logicalMask (l.activeLanes ++ ready)) 0

/-- A marker column arrives (R304, R305, R314, R316, R321, R325). -/
def State.markerColumn (s : State) (p : Port) (marks : List LaneMark) : State :=
  let ix := portIx p
  if (s.link p).state = .disabled then s
  else
    let s0 := s.lanesReceive p (marks.map (·.items))
    let shown := (s0.link p).lanesWith Lane.showsMarker
    let s1 := if shown.all fun k => (s0.lane p k).inTime then s0 else s0.flag .lnkEvent 6 ix
    let s2 := (s1.onLanes p fun k x => x.atMarker (marks.getD k default).skew).wr .lnkSkew
      (skewWord (s1.link p).lanes marks) ix
    let l := s2.link p
    let set := l.lanesWith fun x => x.aligned
    match l.state with
    | .train =>
      if !set.isEmpty && decide (l.prevSet = some set) then
        s2.onLink p fun l => { l with state := .caps, baseLanes := set.length, prevSet := none
                                      timer := some (s2.now, s2.lnkTmo p) }
      else s2.onLink p fun l => { l with prevSet := some set }
    | .rate =>
      if l.restarted then
        if decide (l.prevSet = some set) && decide (s2.requiredLanes p ≤ set.length) && !set.isEmpty then
          s2.enterUp p
        else s2.onLink p fun l => { l with prevSet := some set }
      else
        match l.wait with
        | some w =>
          if w.acked && l.stopped.isNone then
            ((s2.txPut p false [.marker]).txEnter p .quiet).onLink p fun l => { l with stopped := some s2.now }
          else s2
        | none => s2
    | .up => s2.markerUp p
    | _ => s2

/-- The transmit lane restarts at the target rate after its 4 µs stop (R314). -/
def State.rateRestart (s : State) (p : Port) : State :=
  let l := s.link p
  match l.stopped with
  | none => s
  | some t =>
    let s1 := s.advance (t + 4 * usec)
    (s1.onLink p fun l =>
      { l with stopped := none, restarted := true, rate := l.target, wait := none, prevSet := none
               lanes := l.lanes.map fun x => { Lane.fresh with logical := x.logical, inverted := x.inverted }
               timer := some (s1.now, s1.lnkTmo p) }).txEnter p .idle

/-- The 20 µs idle of the transmit lane ends (R314). -/
def State.idleEnd (s : State) (p : Port) : State :=
  match (s.link p).idle with
  | some t => ((s.advance (t + 20 * usec)).onLink p fun l => { l with idle := none }).txEnter p .train
  | none => s

/-- LNK_TMO_p passes in TRAIN, CAPS or RATE without the awaited event (R314): no timeout runs from the ACK of the RATE
set to the restart. -/
def State.trainTimeout (s : State) (p : Port) : State :=
  let l := s.link p
  let ix := portIx p
  match l.timer with
  | none => s
  | some (t, n) =>
    match l.state with
    | .train =>
      if l.lanes.any fun x => x.aligned then s
      else (((s.advance (t + n)).flag .lnkEvent 7 ix).count .lnkCnt 16 16 1 ix).enterTrain p true
    | .caps => (((s.advance (t + n)).flag .lnkEvent 7 ix).count .lnkCnt 16 16 1 ix).enterTrain p true
    | .rate =>
      if l.stopped.isSome || l.wait.any (·.acked) then s
      else ((s.advance (t + n)).onLink p fun l =>
        { l with failed := l.failed ||| ((1 : BitVec 5) <<< l.target) }).enterTrain p true
    | _ => s

/-! ### Checks of parked lanes -/

/-- Time of 2^27 bits at a rate code (R310, R325). -/
def windowTime (rate : Nat) : Nat :=
  2 ^ 27 * (match rate with
    | 0 => 80
    | 1 => 40
    | 2 => 32
    | 3 => 20
    | _ => 16) / 10

/-- A lane of a disabled link compares what it gets with PAT (R332): its bit of CHK is set and no far-end loopback
runs. CHK counts only while the link is DISABLED (DESIGN CHOICE, log 107). -/
def State.loopChecks (s : State) (p : Port) (k : Nat) : Bool :=
  decide ((s.link p).state = .disabled) && bit (s.rd .lnkPrbs (portIx p)) (4 + k)
    && decide (s.fld .lnkLoop 0 2 (portIx p) ≠ 3)

/-- A near-end loopback brings the device's own pattern to a lane (R331, R332). -/
def State.ownPattern (s : State) (p : Port) (k : Nat) : Bool :=
  let ix := portIx p
  (decide (s.fld .lnkLoop 0 2 ix = 1) || decide (s.fld .lnkLoop 0 2 ix = 2)) && decide (s.fld .lnkLoop 2 2 ix = k)
    && bit (s.rd .lnkPrbs ix) 0

/-- What drives the transmit pins of a port (R312, R331, R332). -/
inductive TxPins where
  | idle
  | stream
  | pattern (pat : Nat)
  | looped (lane : Nat)
deriving DecidableEq, Repr

/-- What the transmit pins of a port carry now. GEN counts only while the link is DISABLED (DESIGN CHOICE, log 107). -/
def State.txPins (s : State) (p : Port) : TxPins :=
  let ix := portIx p
  if (s.link p).state ≠ .disabled then if (s.port p).tx.mode = .quiet then .idle else .stream
  else
    let gen := bit (s.rd .lnkPrbs ix) 0
    let out : TxPins := if gen then .pattern (s.fld .lnkPrbs 8 2 ix) else .stream
    match s.fld .lnkLoop 0 2 ix with
    | 0 => if gen then out else .idle
    | 3 => .looped (s.fld .lnkLoop 2 2 ix)
    | _ => if bit (s.rd .lnkLoop ix) 4 then .idle else out

/-- The rate code in use (R331, R336): a loopback runs at MAXRATE. -/
def State.linkRate (s : State) (p : Port) : Nat :=
  let ix := portIx p
  if (s.link p).state = .disabled ∧ s.fld .lnkLoop 0 2 ix ≠ 0 then s.fld .lnkCtrl 4 3 ix else (s.link p).rate

/-- The checker of a lane gets bits, and counts from its lock on 64 error-free ones (R325, R328, R332); a lane that
adapts does so in the check of a parked lane (R319). A loopback run starts at 0 errors. -/
def State.checkerLock (s : State) (p : Port) (k : Nat) (received : List Bool) (eyes : List Nat) : State :=
  let l := s.link p
  let ix := portIx p
  let x := s.lane p k
  if 4 ≤ k ∨ x.checking then s
  else if x.role = .check && x.acked then
    let y := x.seekPattern l.pattern received
    let s1 := (s.onLane p k fun _ => y).equalise p k eyes
    if 64 ≤ y.streak then
      s1.onLane p k fun y => { y with checking := true, timer := some (s.now, windowTime l.rate) }
    else s1
  else if s.loopChecks p k then
    let y := x.seekPattern (s.fld .lnkPrbs 8 2 ix) received
    if s.ownPattern p k || decide (64 ≤ y.streak) then
      (s.onLane p k fun _ => { y with checking := true }).wr .lnkPrbsErr 0 ix k
    else s.onLane p k fun _ => y
  else s

/-- The window of 2^27 bits of a check completes (R325), or the bits of a loopback run are compared (R332). -/
def State.prbsWindow (s : State) (p : Port) (k : Nat) (received : List PrbsRun) : State :=
  let ix := portIx p
  let x := s.lane p k
  let l := s.link p
  if 4 ≤ k ∨ !x.checking then s
  else if x.role = .check then
    let errors := (prbsCount l.pattern received x.bits).2
    let due := match x.timer with
      | some (t, n) => t + n
      | none => s.now
    let s1 := (s.advance due).wr .lnkPrbsErr (word (min errors (2 ^ 32 - 1))) ix k
    if errors ≤ s.fld .lnkErrCfg 8 8 ix then
      let tmo := s1.lnkTmo p
      (s1.onLane p k fun x =>
        { x with role := .resync, acked := false, checking := false, good := 0
                 timer := some (s1.now, tmo) }).sendTs p .prbsStop (l.logicalMask [k]) (2 * l.pattern)
    else s1.rejoinFails p k true
  else if s.loopChecks p k then
    if s.ownPattern p k then s
    else
      let (h, errors) := prbsCount (s.fld .lnkPrbs 8 2 ix) received x.bits
      (s.onLane p k fun x => { x with bits := h }).count .lnkPrbsErr 0 32 errors ix k
  else s

/-- The checker of a lane has not locked within 10 µs of the ACK (R325). -/
def State.prbsNoLock (s : State) (p : Port) (k : Nat) : State :=
  let x := s.lane p k
  if x.role = .check && x.acked && !x.checking then
    match x.timer with
    | some (t, n) => (s.advance (t + n)).rejoinFails p k true
    | none => s
  else s

/-- The earliest deadline among lanes in CHECK without ACK and lanes in RESYNC: instant, lane, state. -/
def earliestLane (l : Link) : List Nat → Option (Nat × Nat × Bool)
  | [] => none
  | k :: t =>
    let x := l.lanes.getD k {}
    let rest := earliestLane l t
    match x.timer with
    | none => rest
    | some (a, n) =>
      if (x.role = .check && !x.acked) || decide (x.role = .resync) then
        match rest with
        | none => some (a + n, k, decide (x.role = .check))
        | some r => if a + n ≤ r.1 then some (a + n, k, decide (x.role = .check)) else some r
      else rest

/-- LNK_TMO_p passes while UP without the ACK of a LANES or PRBS set, or without resynchronisation
(R323 cause 4, R325). -/
def State.handshakeTimeout (s : State) (p : Port) : State :=
  let l := s.link p
  if l.state ≠ .up then s
  else
    let lanes : Option Nat := match l.wait with
      | some w => if (w.why = .park || w.why = .holdPark || (w.why = .join && !w.acked)) then
          some (w.start + w.length) else none
      | none => none
    match lanes, earliestLane l [0, 1, 2, 3] with
    | some a, none => (s.advance a).linkDown p 4
    | some a, some (b, k, chk) =>
      if a ≤ b then (s.advance a).linkDown p 4 else (s.advance b).rejoinFails p k chk
    | none, some (b, k, chk) => (s.advance b).rejoinFails p k chk
    | none, none => s

/-- HPT_ACK_TMO passes without an ACK (R259): every unacknowledged packet is sent again; after four
such retransmissions the link goes down with cause 5 (R323) (DEDUCED, log 20). -/
def State.ackTimeout (s : State) (p : Port) : State :=
  let x := s.port p
  match x.ackTimer with
  | none => s
  | some (t, n) =>
    if x.linkUp && !x.unacked.isEmpty then
      let s1 := s.advance (t + n)
      if 4 ≤ x.retries then s1.linkDown p 5
      else (s1.onPort p fun y => { y with retries := y.retries + 1 }).retransmit p
    else s

/-! ### Registers -/

/-- A write of LNK_LOOP_p or LNK_PRBS_p (R331, R332): STATE while the link is enabled. A lane whose bit of CHK is 0 ends
its run. CLR clears the error counts and reads 0 again at once. -/
def State.loopWrite (s : State) (lp : Port) (prbs : Bool) (v : Word) : Status × State :=
  let ix := portIx lp
  if bit (s.rd .lnkCtrl ix) 0 then (.state, s)
  else if prbs then
    let s1 := s.wr .lnkPrbs (setField v 12 1 0) ix
    let s2 := s1.onLanes lp fun k x => if bit v (4 + k) then x else { x with checking := false, bits := [], streak := 0 }
    (.ok, if bit v 12 then (List.range 4).foldl (fun t k => t.wr .lnkPrbsErr 0 ix k) s2 else s2)
  else (.ok, s.wr .lnkLoop v ix)

/-- Codes of R312. -/
def linkCode : LinkState → Nat
  | .disabled => 0
  | .train => 1
  | .caps => 2
  | .rate => 3
  | .up => 4

/-- LNK_STATUS_p (R336). -/
def State.linkStatus (s : State) (p : Port) : Word :=
  let l := s.link p
  let busy := l.lanesWith fun x => decide (x.role = .check) || decide (x.role = .resync)
  let lp := l.lanesWith fun x => decide (x.role = .lpPark)
  word (linkCode l.state + 16 * s.linkRate p + 256 * laneBits l.activeLanes + 4096 * laneBits busy
    + 65536 * laneBits lp + 2 ^ 20 * l.hostRates.toNat + 2 ^ 25 * l.downCause)

/-- LNK_LANEMAP_p (R335). -/
def State.laneMap (s : State) (p : Port) : Word :=
  word ((List.range 4).foldl (fun a k =>
    let x := s.lane p k
    a + (x.logical.getD 0 + 4 * boolNat x.inverted + 8 * boolNat x.logical.isSome) * 16 ^ k) 0)

end Sys2Proof.Machine
end

