-- ==== Sys2Proof/Machine/Hold.lean ====
section
/-! DEFINITION. The entry to HOLD and the exit from it (R458), and the POWER event (R292). -/

namespace Sys2Proof.Machine

/-- Codes of R453. -/
def powerCode : PowerState → Nat
  | .off => 0
  | .sleep => 1
  | .standby => 2
  | .run => 3
  | .hold => 4

/-- The device is in a new power state, and no transition is in progress: a POWER event (R292). -/
def State.powerIs (s : State) (x : PowerState) : State :=
  ((s.onPower fun w => { w with state := x, trans := none }).guardOutputs).eventAll 0x06 (powerCode x)

/-- HOLD is entered: the active buffers replay (R93) and the lanes narrow (R329) (DEDUCED, log 35). -/
def State.enterHold (s : State) : State :=
  (((s.powerIs .hold).onScan fun c => { c with replay := true }).lanesHold .A).lanesHold .B

/-- The timing of SCN_TMODE.RUN and SCN_BLANK (R88). -/
def State.runTiming (s : State) : Timing := { mode := s.fld .scnTmode 0 2, blank := s.fld .scnBlank 0 11 }

/-- The first flip after HOLD has the timing of SCN_TMODE.RUN (R94): a candidate of another timing that a
refresh pass has composed or composes does not flip. -/
def State.dropHoldFrames (s : State) : State :=
  let other (f : Frame) : Bool := f.hold && decide (f.timing ≠ s.runTiming)
  let gone := match s.comp.cand with
    | some c => other c.frame
    | none => false
  let s1 := s.onComp fun c =>
    { c with cand := if gone then none else c.cand
             run := match c.run with
               | some r => some (if other r.frame then { r with dropped := true } else r)
               | none => none }
  if gone then s1.onScan fun c => { c with flipPend := false } else s1

/-- HOLD is left (R458): the first pass waits for the next pass start point only. -/
def State.exitHold (s : State) : State :=
  (((s.dropHoldFrames.powerIs .run).onScan fun c => { c with replay := false }).onComp fun c =>
    { c with noWait := true }).lanesUnhold .A |>.lanesUnhold .B

/-- A Seal commit or a FALLBACK reaction leaves HOLD at once, unless an entry to STANDBY is in progress
(R176, R456, R459) (DEDUCED, log 35). -/
def State.leaveHold (s : State) : State :=
  if s.power.state = .hold then
    match s.power.trans with
    | none => s.exitHold
    | some t =>
      if t.target = .standby then s.onPower fun w => { w with trans := some { t with leave := true } } else s
  else s

end Sys2Proof.Machine
end

