-- ==== Sys2Proof/Machine/Commits.lean ====
section
/-! DEFINITION. Commits, fences and flip groups (R158 to R178): acceptance, the states of R170, timeouts and
the results of CMP_CRES. -/

namespace Sys2Proof.Machine

/-! ### Staged values -/

def State.stagedLayer (s : State) (p : Port) (n : Nat) : LayerVals where
  slot := s.rdp p .cmpStgSlot n
  src := s.rdp p .cmpStgSrc n
  pos := s.rdp p .cmpStgPos n
  ctrl := s.rdp p .cmpStgCtrl n

def State.stagedScaler (s : State) (p : Port) (j : Nat) : ScalerVals where
  out := s.rdp p .szrStgOut j
  hstep := s.rdp p .szrStgHstep j
  vstep := s.rdp p .szrStgVstep j
  hinit := s.rdp p .szrStgHinit j
  vinit := s.rdp p .szrStgVinit j
  ctrl := s.rdp p .szrStgCtrl j

def State.stagedRect (s : State) (p : Port) (k : Nat) : RectVals where
  org := s.rdp p .prfStgOrg k
  size := s.rdp p .prfStgSize k
  exp := s.rdp p .prfStgExp k

/-! ### The fields of CMP_COMMIT (R200) -/

/-- Numbers of the layers that a commit word names, 6 for the Seal layer. -/
def namedLayers (v : Word) : List Nat := (List.range 7).filter fun n => bit v n

def namedRects (v : Word) : List Nat := (List.range 16).filter fun k => bit v (16 + k)

def groupOf (v : Word) : Nat := field v 8 3

/-! ### The checks of R161 -/

/-- A rectangle that reaches outside the field (R183). -/
def RectVals.outside (r : RectVals) : Bool :=
  decide (2048 < r.x0 + r.w) || decide (512 < r.y0 + r.h) || (decide (1 ≤ r.w) && decide (r.h = 0))

/-- Scaler of general layer `n` in a plate, if it has one (R228). -/
def scalerNo (pl : Plate) (n : Nat) : Option Nat :=
  if n < 6 ∧ pl.szr.getD n 7 < 4 then some (pl.szr.getD n 7) else none

/-- Bytes of a layer's source (R218, R219) (DEDUCED, log 26). -/
def sourceBytes (pl : Plate) (n : Nat) (v : LayerVals) : Nat := v.height * strideOf v.width (bppOf (pl.fmt.getD n 0))

/-- R161, row ADDR_RANGE. -/
def State.commitAddr (s : State) (pl : Plate) (p : Port) (v : Word) : Bool :=
  ((namedLayers v).any fun n => decide (n < 6) && decide (pl.nlayers ≤ n))
    || (namedRects v).any fun k => (s.stagedRect p k).outside

/-- R161, row LEN_RANGE. -/
def State.commitLen (s : State) (pl : Plate) (p : Port) (v : Word) : Bool :=
  (namedLayers v).any fun n =>
    let x := s.stagedLayer p n
    x.en && decide (s.slotBytes x.slotNo < sourceBytes pl n x)

/-- R161, row REFUSED_OWNER. -/
def commitOwner (pl : Plate) (p : Port) (v : Word) : Bool :=
  (bit v 6 || (namedRects v).any fun k => pl.prfClass.getLsbD k) && decide (pl.sealOwner ≠ p)

/-- The staged slot of a layer with EN = 1 is neither READY nor read by the layer, or is a Seal slot for a
general layer, or no Seal slot for the Seal layer (R208, R209). -/
def State.slotUnfit (s : State) (n : Nat) (x : LayerVals) : Bool :=
  let a := s.applied n
  let reads := a.en && decide (a.slotNo = x.slotNo)
  x.en && (decide (s.slotSeal x.slotNo ≠ decide (n = 6))
    || (decide ((s.slot x.slotNo).mode ≠ .ready) && !reads))

/-- A named layer is staged with BYPASS = 0 and a bank that is not fully LOADED (R241). -/
def State.bankUnfit (s : State) (pl : Plate) (p : Port) (n : Nat) : Bool :=
  match scalerNo pl n with
  | some j =>
    let v := s.stagedScaler p j
    let b := s.bank j v.bankNo
    !v.bypass && !(b.hFull && b.vFull)
  | none => false

/-- R161, row STATE. -/
def State.commitState (s : State) (pl : Plate) (p : Port) (v : Word) : Bool :=
  (namedLayers v == [] && namedRects v == [])
    || (bit v 6 && (decide (groupOf v ≠ 0) || bit v 12))
    || (bit v 11 && decide (groupOf v = 0))
    || ((namedLayers v).any fun n => s.slotUnfit n (s.stagedLayer p n) || s.bankUnfit pl p n)

/-- R161, row LBUF_SHORT (R241). -/
def State.commitLbuf (s : State) (pl : Plate) (p : Port) (v : Word) : Bool :=
  (namedLayers v).any fun n =>
    match scalerNo pl n with
    | some j =>
      let x := s.stagedScaler p j
      !x.bypass && decide (20480 < ((s.bank j x.bankNo).taps - 1) * (s.stagedLayer p n).width * 2)
    | none => false

/-- A byte that the content check value of the Seal layer with the given values covers has an uncorrectable error
(R178, R629). -/
def State.sealUe (s : State) (pl : Plate) (x : LayerVals) : Bool :=
  let b := bppOf (pl.fmt.getD 6 0)
  (List.range x.height).any fun r =>
    s.eccHit (bulkBase + pageSize * (plateSlot pl x.slotNo).1 + r * strideOf x.width b) ((x.width * b + 7) / 8)

/-- R161, row CRC_FAIL (R178): a word with an uncorrectable error gives no value that matches (DEDUCED, log 26). -/
def State.commitCrc (s : State) (pl : Plate) (p : Port) (v : Word) : Bool :=
  let x := s.stagedLayer p 6
  bit v 6 && x.en && (s.sealUe pl x || decide (sealCrc pl s.mem x ≠ s.rdp p .cmpStgSealCrc))

/-- A commit that reads the Seal content meets its uncorrectable error (R503, R629) (DEDUCED, log 26). -/
def State.sealReport (s : State) (p : Port) (st : Status) : State :=
  match s.boot.plate with
  | some pl => if st = .crcFail ∧ s.sealUe pl (s.stagedLayer p 6) then s.report 0x22 else s
  | none => s

/-- A closed group that has not been applied (R168). -/
def State.groupClosed (s : State) (g : Nat) : Bool :=
  s.comp.commits.any fun c => c.live && decide (c.group = g) && c.close

/-- R161, row BUSY. -/
def State.commitBusy (s : State) (v : Word) : Bool :=
  let taken (c : Commit) : Bool :=
    (c.layers.any fun (n, _) => bit v n) || c.rects.any fun (k, _) => bit v (16 + k)
  (s.comp.commits.any fun c => c.live && !c.hasSeal && taken c)
    || (decide (groupOf v ≠ 0) && s.groupClosed (groupOf v))

/-- The refusal of a commit, the first that applies in the order of R161; reserved bits first (R18). -/
def State.commitRefusal (s : State) (p : Port) (v : Word) : Option Status :=
  match s.boot.plate with
  | none => some .notPlated
  | some pl =>
    if s.commitAddr pl p v then some .addrRange
    else if s.commitLen pl p v then some .lenRange
    else if commitOwner pl p v then some .refusedOwner
    else if s.commitState pl p v then some .state
    else if s.commitLbuf pl p v then some .lbufShort
    else if s.commitCrc pl p v then some .crcFail
    else if s.commitBusy v then some .busy
    else none

/-! ### Results -/

def State.results (s : State) : Port → List CommitResult
  | .A => s.comp.resultsA
  | .B => s.comp.resultsB

def State.setResults (s : State) : Port → List CommitResult → State
  | .A, l => s.onComp fun c => { c with resultsA := l }
  | .B, l => s.onComp fun c => { c with resultsB := l }

/-- Codes of CMP_CRES_STATE.STATE (R201). -/
def commitCode : CommitState → Nat
  | .pending => 1
  | .ready => 2
  | .applied => 3
  | .discarded => 4
  | .superseded => 5

/-- The result of a commit shows a new state. -/
def State.showResult (s : State) (p : Port) (seq : Nat) (st : CommitState) (code : Status) : State :=
  s.setResults p ((s.results p).map fun r => if r.seq = seq then { r with state := st, status := code } else r)

/-- A write of CMP_CRES_SEL captures a result (R199). -/
def State.cresSelect (s : State) (p : Port) (v : Word) : State :=
  let s1 := s.wrp p .cmpCresSel v
  match (s.results p)[v.toNat]? with
  | some r => (s1.wrp p .cmpCresSeq (word r.seq)).wrp p .cmpCresState
      (word (statusCode r.status + 256 * commitCode r.state))
  | none => (s1.wrp p .cmpCresSeq 0).wrp p .cmpCresState 0

/-! ### Ends of commits -/

/-- Palettes that no live commit of port `p` carries lose DIRTY and LOCKED (R224); `pals` are those that the
ended commit carried. -/
def State.releasePals (s : State) (p : Port) (pals : List Nat) : State :=
  pals.foldl (fun t q => if t.palLocked p q then t else t.onStage p q fun _ => {}) s

/-- A commit ends (R170): it leaves the list, its result shows the state, its port gets a COMMIT event. -/
def State.endCommit (s : State) (c : Commit) (st : CommitState) (code : Status) : State :=
  let s1 := s.onComp fun x => { x with commits := x.commits.filter fun d => decide (d.seq ≠ c.seq) }
  let s2 := (s1.showResult c.port c.seq st code).releasePals c.port (c.pals.map (·.1))
  s2.event c.port 0x03 (commitCode st + 8 * (c.seq % 2 ^ 21))

/-- Change of one commit in the list. -/
def State.onCommit (s : State) (seq : Nat) (f : Commit → Commit) : State :=
  s.onComp fun x => { x with commits := x.commits.map fun d => if d.seq = seq then f d else d }

/-! ### Fences -/

/-- The fence of a commit is met (R167). -/
def State.fenceMet (s : State) (c : Commit) : Bool :=
  match c.fence with
  | none => true
  | some (k, target) => !(s.rd .cmpFence k - target).msb

/-- A PENDING commit can become READY (R170). -/
def State.canReady (s : State) (c : Commit) : Bool :=
  if c.group = 0 then s.fenceMet c
  else s.groupClosed c.group
    && s.comp.commits.all fun d => decide (d.group ≠ c.group) || decide (d.state ≠ .pending) || s.fenceMet d

/-- Every PENDING commit whose fence is met, or whose closed group has all its fences met, becomes READY
(R167, R170). -/
def State.readyCommits (s : State) : State :=
  let due := (s.comp.commits.filter fun c => decide (c.state = .pending) && s.canReady c)
  due.foldl (fun t c => (t.onCommit c.seq fun d => { d with state := .ready }).showResult c.port c.seq .ready
    .ok) s

/-- A fence is signalled (R167). -/
def State.fenceSignal (s : State) (k : Nat) : State :=
  (s.wr .cmpFence (s.rd .cmpFence k + 1) k).readyCommits

/-- CMP_FENCEk is written (R167). -/
def State.fenceWrite (s : State) (k : Nat) (v : Word) : State := (s.wr .cmpFence v k).readyCommits

/-! ### Acceptance -/

/-- The timer of R171 that an accepted commit runs under: an ungrouped one whose fence is not met, or the
first of a group. -/
def State.newTimer (s : State) (g : Nat) (met : Bool) : Option (Nat × Nat) :=
  let t := (s.now, s.fld .cmpFenceTmo 0 10 * msec)
  if g = 0 then (if met then none else some t)
  else if s.comp.commits.any fun c => c.live && decide (c.group = g) then none else some t

/-- Palettes that a commit of port `p` takes: the DIRTY ones assigned to a layer it names (R224). -/
def State.takenPals (s : State) (pl : Plate) (p : Port) (v : Word) : List (Nat × Tab Word) :=
  ((List.range 8).filter fun q =>
      (s.stage p q).dirty && decide (q ≠ pl.sealPal)
        && (namedLayers v).any fun n => decide (n < 6) && decide (pl.pal.getD n 0 = q)).map fun q =>
    (q, (s.stage p q).entries)

/-- The commit that an accepted write of `v` makes. -/
def State.newCommit (s : State) (pl : Plate) (p : Port) (v : Word) (seq : Nat) : Commit :=
  let fence := if bit v 12 then some (field (s.rdp p .cmpStgFence) 0 4, s.rdp p .cmpStgFtarget) else none
  let base : Commit :=
    { seq := seq, port := p, state := .pending
      layers := (namedLayers v).map fun n => (n, s.stagedLayer p n)
      scalers := (namedLayers v).filterMap fun n =>
        match scalerNo pl n with
        | some j => some (j, s.stagedScaler p j)
        | none => none
      rects := (namedRects v).map fun k => (k, s.stagedRect p k)
      pals := s.takenPals pl p v
      hasSeal := bit v 6, sealCrc := s.rdp p .cmpStgSealCrc
      group := groupOf v, close := bit v 11, fence := fence, timer := none, sealApplied := false }
  let met := s.fenceMet base
  { base with
    state := if groupOf v = 0 ∧ met then .ready else .pending
    timer := s.newTimer (groupOf v) met }

/-- An earlier Seal commit than `seq` whose Seal layer has not been applied is superseded (R170, R177). -/
def State.supersede (s : State) (seq : Nat) : State :=
  (s.comp.commits.filter fun c => c.live && c.hasSeal && !c.sealApplied && decide (c.seq ≠ seq)).foldl
    (fun t c => t.endCommit c .superseded .ok) s

/-- The next commit sequence number (R160). -/
def State.nextSeq (s : State) : Nat :=
  let n := (s.rd .cmpCommitCnt).toNat + 1
  if n < 2 ^ 32 then n else 1

/-- A commit that passed its checks (R159, R160, R170, R176). It takes its palettes before it supersedes another
(R224). -/
def State.acceptCommit (s : State) (pl : Plate) (p : Port) (v : Word) : State :=
  let seq := s.nextSeq
  let c := s.newCommit pl p v seq
  let s1 := ((s.wr .cmpCommitCnt (word seq)).wrp p .cmpClast (word seq)).pmc 0x08
  let s2 := s1.onComp fun x => { x with commits := x.commits ++ [c] }
  let s3 := s2.setResults p (({ seq := seq, state := c.state, status := .ok } :: s2.results p).take 16)
  let s4 := if c.hasSeal then s3.supersede seq else s3
  let s5 := s4.readyCommits
  if c.hasSeal then s5.leaveHold else s5

/-- A write to CMP_COMMIT or a COMMIT command (R159, R161); reserved encodings have been refused. -/
def State.commit (s : State) (p : Port) (v : Word) : Status × State :=
  match s.commitRefusal p v with
  | some st => (st, s.sealReport p st)
  | none =>
    match s.boot.plate with
    | some pl => (.ok, s.acceptCommit pl p v)
    | none => (.notPlated, s)

/-! ### Timeouts -/

/-- The PENDING commits that a timeout discards (R170 to R172). -/
def State.timedOut (s : State) (t : TimerOf) : List Commit :=
  match t with
  | .commit q => s.comp.commits.filter fun c =>
      decide (c.seq = q) && decide (c.group = 0) && decide (c.state = .pending)
  | .group g =>
    if g = 0 then [] else s.comp.commits.filter fun c => decide (c.group = g) && decide (c.state = .pending)

/-- The running timer of a commit or of a group (R171). -/
def State.timerOf (s : State) (t : TimerOf) : Option (Nat × Nat) :=
  (s.comp.commits.find? fun c =>
    match t with
    | .commit q => decide (c.seq = q) && c.timer.isSome
    | .group g => decide (c.group = g) && decide (g ≠ 0) && c.timer.isSome).bind (·.timer)

/-- A request is served no earlier than in the next CK_FAB cycle: those of the running cycle have seen the states
before a pass start, a pass end or the end of a fence's wait (R215). A write whose service has ended is no longer in
progress (R216). -/
def State.nextFabCycle (s : State) : State :=
  { s with writing := if s.now < s.arbFree then s.writing else none
           arbFree := max s.arbFree ((s.fab + 1) * fabCycle) }

/-- CMP_FENCE_TMO expires (R171, R172): a PENDING commit or group is discarded whole. -/
def State.fenceTimeout (s : State) (t : TimerOf) : State :=
  match s.timerOf t with
  | none => s
  | some (start, len) =>
    let s1 := s.advance (start + len)
    let gone := s1.timedOut t
    if gone = [] then s1
    else
      (gone.foldl (fun u c => u.endCommit c .discarded .fenceTimeout)
        (((s1.flag .cmpEvent 1).count .cmpTmoCnt 0 32).report 0x43)).nextFabCycle

/-- CMP_STATUS (R195, R201) (DEDUCED, log 59). -/
def State.cmpStatus (s : State) : Word :=
  let fb := match s.comp.run with
    | some r => r.frame.fallback
    | none => s.faults.fallback
  let held (g : Nat) : Bool := s.comp.commits.any fun c => c.live && decide (c.group = g)
  word (boolNat s.comp.run.isSome + 2 * boolNat fb
    + 4 * packBits ((List.range 7).map fun g => held (g + 1)))

end Sys2Proof.Machine
end

