-- ==== Sys2Proof/Machine/Passes.lean ====
section
/-! DEFINITION. Composition passes (R162 to R169, R179, R186 to R196): when one starts, what it reads and
applies, its checks, its end and its candidate. -/

namespace Sys2Proof.Machine

/-! ### Which commits a pass can apply -/

/-- A commit names a slot with a write in progress (R216), or an incomplete one (R279), whatever its EN. -/
def State.writeBlocked (s : State) (c : Commit) : Bool := c.layers.any fun (_, v) => s.slotWriting v.slotNo

def State.incompleteBlocked (s : State) (c : Commit) : Bool :=
  c.layers.any fun (_, v) => (s.slot v.slotNo).incomplete

/-- A commit is READY and nothing but fallback holds it back (R169). -/
def State.unblocked (s : State) (c : Commit) : Bool :=
  decide (c.state = .ready) && !s.writeBlocked c && !s.incompleteBlocked c

/-- A pass that starts now applies all of the commit that is left (R168, R169, R192). -/
def State.appliesWhole (s : State) (c : Commit) : Bool :=
  !s.faults.fallback && s.unblocked c
    && (decide (c.group = 0) || s.comp.commits.all fun d => decide (d.group ≠ c.group) || s.unblocked d)

/-- A pass that starts now in fallback applies the Seal part of the commit (R192). -/
def State.appliesSeal (s : State) (c : Commit) : Bool :=
  s.faults.fallback && c.hasSeal && !c.sealApplied && s.unblocked c

/-- A general layer or an ANY-class rectangle is among what the commit names. -/
def Commit.hasRest (c : Commit) (pl : Plate) : Bool :=
  (c.layers.any fun (n, _) => decide (n < 6)) || c.rects.any fun (k, _) => !pl.prfClass.getLsbD k

/-! ### Applying -/

/-- A layer's staged values become its applied values (R170). -/
def State.applyLayer (s : State) (seq : Nat) (n : Nat) (v : LayerVals) : State :=
  let s1 := ((((s.wr .cmpLyrSlot v.slot n).wr .cmpLyrSrc v.src n).wr .cmpLyrPos v.pos n).wr .cmpLyrCtrl
    v.ctrl n).wr .cmpLyrSeq (word seq) n
  s1.onComp fun c => { c with updated := c.updated ||| ((1 : BitVec 7) <<< n) }

/-- One of the four scalers takes its values with its layer (R170). -/
def State.applyScaler (s : State) (j : Nat) (v : ScalerVals) : State :=
  if j < 4 then
    (((((s.wr .szrOut v.out j).wr .szrHstep v.hstep j).wr .szrVstep v.vstep j).wr .szrHinit v.hinit j).wr
      .szrVinit v.vinit j).wr .szrCtrl v.ctrl j
  else s

/-- One of the sixteen rectangles takes its values (R180, R182). -/
def State.applyRect (s : State) (k : Nat) (v : RectVals) : State :=
  if k < 16 then ((s.wr .prfOrg v.org k).wr .prfSize v.size k).wr .prfExp v.exp k else s

def State.applyPal (s : State) (q : Nat) (t : Tab Word) : State :=
  s.onComp fun c => { c with pals := modifyAt (fun _ => t) q c.pals }

/-- The Seal layer and the SEAL-class rectangles of a commit are applied (R182, R192). -/
def State.applySealPart (s : State) (pl : Plate) (c : Commit) : State :=
  let s1 := c.layers.foldl (fun t (n, v) => if n = 6 then t.applyLayer c.seq n v else t) s
  let s2 := c.rects.foldl (fun t (k, v) => if pl.prfClass.getLsbD k then t.applyRect k v else t) s1
  s2.onComp fun x => { x with sealCrc := c.sealCrc, newest := max x.newest c.seq }

/-- The general layers, scalers, palettes and the other rectangles of a commit are applied. The highest number stays the
highest after the numbers have begun again at 1 (DESIGN CHOICE, log 68). -/
def State.applyRest (s : State) (pl : Plate) (c : Commit) : State :=
  let s1 := c.layers.foldl (fun t (n, v) => if n < 6 then t.applyLayer c.seq n v else t) s
  let s2 := c.scalers.foldl (fun t (j, v) => t.applyScaler j v) s1
  let s3 := c.pals.foldl (fun t (q, e) => t.applyPal q e) s2
  let s4 := c.rects.foldl (fun t (k, v) =>
    if c.hasSeal && pl.prfClass.getLsbD k then t else t.applyRect k v) s3
  s4.onComp fun x => { x with newest := max x.newest c.seq }

/-- A commit is applied at a pass start, whole or in its Seal part (R169, R192). -/
def State.applyCommit (s : State) (pl : Plate) (whole : Bool) (c : Commit) : State :=
  let s1 := if c.hasSeal && !c.sealApplied then s.applySealPart pl c else s
  if whole then (s1.applyRest pl c).endCommit c .applied .ok
  else if c.hasRest pl then s1.onCommit c.seq fun d => { d with sealApplied := true }
  else s1.endCommit c .applied .ok

/-- The slot states follow what the layers now reference (R212); a FREE, FILLING or RETIRING slot that a held Seal
commit names becomes SCANNING too (DESIGN CHOICE, log 77). -/
def State.settleSlots (s : State) : State :=
  let refd := (List.range 64).map s.referenced
  let f (k : Nat) (x : SlotState) : SlotState :=
    match x.mode with
    | .undef => x
    | .scanning => if refd.getD k false then x else { x with mode := .retiring }
    | _ => if refd.getD k false then { x with mode := .scanning } else x
  s.onComp fun c => { c with slots := c.slots.mapIdx f }

/-- A pass start applies every commit that can then be applied, in sequence order, and notes what it holds
back (R169, R216). -/
def State.applyCommits (s : State) (pl : Plate) : State :=
  let ready := s.comp.commits.filter fun c => decide (c.state = .ready)
  let whole := ready.filter s.appliesWhole
  let part := ready.filter s.appliesSeal
  let held := ready.any fun c => !s.appliesWhole c && (!s.appliesSeal c || c.hasRest pl)
  let s1 := if ready.any s.writeBlocked then s.flag .lyrEvent 1 else s
  let s2 := if held then ((s1.flag .cmpEvent 0).count .cmpHeldCnt 0 32).pmc 0x09 else s1
  let s3 := whole.foldl (fun t c => t.applyCommit pl true c) s2
  (part.foldl (fun t c => t.applyCommit pl false c) s3).settleSlots

/-! ### When a pass starts -/

/-- The fallback state of the newest pass that started (R162) (DEDUCED, log 59). -/
def State.passFallback (s : State) : Bool :=
  match s.comp.run, s.comp.shown with
  | some r, _ => r.frame.fallback
  | none, some f => f.fallback
  | none, none => false

/-- The composition enters or leaves fallback with the next pass (R163, R194). -/
def State.fallbackChanged (s : State) : Bool := decide (s.faults.fallback ≠ s.passFallback)

/-- Instant of the pass start point of the running cycle (R162): the cycle takes CMP_PHASE at its boundary (DEDUCED,
log 85). -/
def State.passPoint (s : State) : Nat := s.scan.cycleStart + s.scan.phase * tickLen

/-- The interval of R162 has passed, or the pass is exempt from it (R163). -/
def State.intervalOver (s : State) (t : Nat) : Bool :=
  s.comp.noWait || s.fallbackChanged ||
    match s.comp.prevStart with
    | some p => decide (651042 ≤ (t - s.tbStart) / fabCycle - (p - s.tbStart) / fabCycle)
    | none => true

/-- A region's quantised temperature has moved by `d` steps from the newest flip record (R95, R119). -/
def State.tempMoved (s : State) (d : Nat) : Bool :=
  match s.scan.flips with
  | [] => false
  | r :: _ => (List.range 16).any fun g => decide (d ≤ (s.tempOf g - r.frame.temps.getD g 0).natAbs)

/-- An entry to HOLD waits for its last flip (R94) (DEDUCED, log 35). -/
def State.enteringHold (s : State) : Bool :=
  match s.power.trans with
  | some t => decide (t.target = .hold)
  | none => false

/-- A commit, a refresh condition or a change of the fallback state asks for a pass (R95, R119, R162). A commit can be
applied in the sense of R162, R167 and R168 when it is READY, though the pass may hold it back (R169) (DEDUCED,
log 112). -/
def State.passWanted (s : State) : Bool :=
  if s.power.state = .hold then s.comp.noWait || s.comp.holdRefresh || s.tempMoved (s.fld .scnHold 0 8)
  else s.comp.noWait || s.comp.refresh || s.fallbackChanged || s.enteringHold
    || s.tempMoved (s.fld .drvRefresh 0 8)
    || s.comp.commits.any fun c => decide (c.state = .ready)

/-- Nothing forbids a pass now: the scan runs, no pass runs, the array is not held dark, no relighting and
no entry to STANDBY is under way (R162, R459, R499, R500). -/
def State.passAllowed (s : State) : Bool :=
  s.scan.on && s.boot.plate.isSome && s.comp.run.isNone && !s.heldDark
    && decide (s.power.relightStep = 0) && !s.leaving

/-! ### The frame of a pass -/

/-- The timing that a pass starting now is composed in (R88, R94). -/
def State.passTiming (s : State) : Timing :=
  let hold := decide (s.power.state = .hold) || s.enteringHold
  { mode := s.fld .scnTmode (if hold then 2 else 0) 2, blank := s.fld .scnBlank 0 11 }

/-- RGe of region G (R124). -/
def State.rgEff (s : State) (g : Nat) : Nat :=
  let r := s.fld .drvRgain 0 16 g
  if (s.region g).fallback then min 65535 ((r * (s.region g).c + 16384) / 32768) else r

/-- The budgets in mA: a region's field (R138). -/
def State.budReg (s : State) (g : Nat) : Nat := s.fld .drvBudgetReg (16 * (g % 2)) 16 (g / 2)

/-- The inputs that a pass reads at its start (R52, R53, R116), without the scale factor. -/
def State.frameInputs (s : State) : Frame where
  pass := s.comp.passes
  fallback := s.faults.fallback
  pattern := s.faults.fallback && !s.comp.fbReload && !s.comp.fbDead
  layers := (List.range 7).map s.applied
  scalers := (List.range 4).map s.scaler
  palettes := s.comp.pals
  banks := s.comp.banks
  mem := s.mem
  rects := (List.range 16).map fun k =>
    { org := s.rd .prfOrg k, size := s.rd .prfSize k, exp := s.rd .prfExp k }
  plate := s.boot.plate
  timing := s.passTiming
  hold := decide (s.power.state = .hold) || s.enteringHold
  ifs := s.rd .scnIfs
  temps := (List.range 16).map s.tempOf
  store := s.cal.store
  trims := s.cal.trims
  mask := s.diag.mask
  xover := s.fld .drvXover 0 8
  fill := s.fld .drvFill 0 9
  rge := (List.range 16).map s.rgEff
  fluxFb := BitVec.ofNat 16 (packBits ((List.range 16).map fun g => (s.region g).fallback))
  budPkg := s.fld .drvBudgetPkg 0 16
  budDieL := s.fld .drvBudgetDie 0 16
  budDieR := s.fld .drvBudgetDie 16 16
  budReg := (List.range 16).map s.budReg
  commit := s.comp.newest
  updated := s.comp.updated
  headroom := s.fld .pwrHrCfg 0 10

/-- The frame of a pass that starts now: its inputs and the budget scale factor (R134) (DEDUCED, log 58). -/
def State.newFrame (s : State) : Frame :=
  let f := s.frameInputs
  { f with scale := f.scaleLimit.1 }

/-! ### Discards -/

/-- The running pass loses its candidate under R165. -/
def State.dropRun (s : State) : State :=
  match s.comp.run with
  | some r =>
    if r.dropped then s
    else ((s.onComp fun c => { c with run := some { r with dropped := true } }).count .cmpDiscardCnt 0 32).pmc
      0x07
  | none => s

/-- CK_PIX cycles of a pass, in time units (R164). -/
def passTime : Nat := 262144 * 32

/-- The pass reads the slot of layer `n` (R209); in fallback it composes the Seal layer only (R193). -/
def Frame.readsLayer (f : Frame) (n : Nat) : Bool := (f.layers.getD n {}).en && (!f.fallback || decide (n = 6))

/-- The pass reads a slot of layer memory (R209). -/
def Frame.readsSlots (f : Frame) : Bool := (List.range 7).any f.readsLayer

/-- What the running pass has read and transferred up to instant `t` is counted (R570): the drive words of the pixels
composed by then, four in a CK_PIX cycle (DEDUCED, log 18), and, in a pass that reads a slot, a free number of words of
layer memory, at most eight in a CK_CORE cycle (DESIGN CHOICE, log 18). -/
def State.passCounts (s : State) (t : Nat) : State :=
  match s.comp.run with
  | none => s
  | some r =>
    let e := min t (r.start + passTime)
    if e ≤ r.counted then s
    else
      let read :=
        if r.frame.readsSlots then
          let (w, t) := s.draw
          t.pmc 0x20 (w.toNat % (8 * ((e - r.counted) / coreCycle) + 1))
        else s
      let words := 4 * ((e - r.start) / 32) - 4 * ((r.counted - r.start) / 32)
      (read.pmc 0x28 words).onComp fun c => { c with run := some { r with counted := e } }

/-- The running pass is aborted by a pass that enters fallback (R164). -/
def State.abortPass (s : State) : State :=
  match s.comp.run with
  | some _ => ((s.passCounts s.now).onComp fun c => { c with run := none }).pmc 0x06
  | none => s

/-! ### Pass start -/

/-- Bytes of layer memory that a pass reads for layer `n`, if it reads any (R503, source 0x22)
(DEDUCED, log 26). -/
def State.layerUe (s : State) (f : Frame) (n : Nat) : Bool :=
  let v := f.layers.getD n {}
  match f.plate with
  | none => false
  | some pl =>
    f.readsLayer n
      && s.eccHit (bulkBase + pageSize * (plateSlot pl v.slotNo).1) (sourceBytes pl n v)

/-- Uncorrectable errors that the pass meets in layer memory and in the fallback bank (R503, R629). -/
def State.passUe (s : State) (f : Frame) : State :=
  let s1 := if (List.range 7).any (s.layerUe f) then (s.report 0x22).dropRun else s
  match f.plate with
  | none => s1
  | some pl =>
    if f.pattern && s.eccHit (bankBase pl.fbBank) 0x10000 then
      ((s1.report 0x24).dropRun).onComp fun c => { c with fbReload := true }
    else s1

/-- Regions that a load has found valid leave fall-back with this pass (R413). -/
def State.leaveFallbacks (s : State) : State :=
  s.onCal fun c => { c with regions := c.regions.map fun r =>
    if r.leaving then { r with fallback := false, leaving := false } else r }

/-- A composition pass starts now (R31, R116, R162, R169); CMP_PASS_CNT saturates
(DEDUCED, log 58; DESIGN CHOICE, log 76). -/
def State.startPass (s : State) : State :=
  match s.boot.plate with
  | none => s
  | some pl =>
    let hold := decide (s.power.state = .hold)
    let s1 := s.onComp fun c =>
      { c with cand := none, prevStart := some s.now, passes := c.passes + 1, noWait := false, refresh := false
               holdRefresh := false, fbAtFlip := false }
    let s1 := s1.onScan fun c =>
      if c.abuf then { c with buf0 := { c.buf0 with words := [] } } else { c with buf1 := { c.buf1 with words := [] } }
    let s2 := (s1.count .cmpPassCnt 0 32).pmc 0x05
    let s3 := if hold then s2 else s2.applyCommits pl
    let s4 := s3.leaveFallbacks
    let s5 := if (List.range 16).all s4.tempGood then s4 else s4.flag .drvEvent 3
    let f := s5.newFrame
    let retiring := (List.range 64).filter fun k => decide ((s5.slot k).mode = .retiring)
    ((s5.onComp fun c => { c with run := some { frame := f, start := s.now, retiring := retiring } }).passUe f).nextFabCycle

/-- The pass start point of the running cycle comes (R162, R83). -/
def State.passStart (s : State) : State :=
  let t := s.passPoint
  let s1 := s.advance t
  if s.now ≤ t ∧ s1.passAllowed ∧ s1.intervalOver t ∧ s1.passWanted then
    if s1.scan.flipPend then s1.onComp fun c => { c with fbAtFlip := true } else s1.startPass
  else s

/-- The fallback is composed or shown: by the running pass, or by the candidate that waits, or by the active buffers. -/
def State.fallbackShows (s : State) : Bool :=
  match s.comp.run, s.comp.cand with
  | some r, _ => r.frame.fallback
  | none, some c => c.frame.fallback
  | none, none => (if s.scan.abuf then s.scan.buf1 else s.scan.buf0).frame.any (·.fallback)

/-- A FALLBACK reaction (R163, R193, R456, R499): HOLD is left, a running pass is aborted and the fallback pass starts
at once, or at the boundary of a pending flip. A reaction that finds the latch set (`anew` false) while the fallback is
composed or shown starts none (DESIGN CHOICE, log 101). -/
def State.enterFallback (s : State) (anew : Bool) : State :=
  let s1 := s.leaveHold
  if s1.power.state = .hold ∨ (!anew && s1.fallbackShows) then s1
  else
    let s2 := if s1.heldDark then s1 else s1.abortPass
    if s2.passAllowed then
      (if s2.scan.flipPend then s2.onComp fun c => { c with fbAtFlip := true } else s2.startPass)
    else s2

/-! ### Pass end -/

/-- Slots that the pass releases (R213). -/
def State.retireSlots (s : State) (ks : List Nat) : State :=
  ks.foldl (fun t k => if (t.slot k).mode = .retiring then t.onSlot k SlotState.freed else t) s

/-- The signatures of a pass are shown (R186). -/
def State.showSignatures (s : State) (f : Frame) : State :=
  (f.rects.zipIdx.foldl (fun t (r, k) => t.wr .prfSig (f.signature r) k) s).wr .prfPassSeq (word (min f.pass 0xFFFFFFFF))

/-- µA of a sum N in a timing (R150). -/
def microAmps (t : Timing) (n : Nat) : Word := word (n / (8192 * t.len))

/-- The drive-chain registers show the pass (R124, R129, R137, R144, R150). -/
def State.showDrive (s : State) (f : Frame) : State :=
  let ns := f.nAll
  let (sc, lim) := f.scaleLimit
  let s1 := (s.wr .drvLastScale (word (sc + 2 ^ 16 * lim))).wr .drvPredPkg (microAmps f.timing ns.sum)
  let s2 := (s1.wr .drvPredDieL (microAmps f.timing (ns.take 8).sum)).wr .drvPredDieR
    (microAmps f.timing (ns.drop 8).sum)
  let s3 := (List.range 16).foldl (fun t g =>
    (t.wr .drvPredReg (microAmps f.timing (ns.getD g 0)) g).wr .drvRgainEff (word (f.rge.getD g 0)) g) s2
  let s4 := s3.wr .drvIpk (word (min 65535 (f.ipk 0 / 1000) + 2 ^ 16 * min 65535 (f.ipk 1 / 1000)))
  let lost := f.lostCount
  let s5 := s4.wr .drvFillCnt (word (min 65535 f.fillCount + 2 ^ 16 * min 65535 lost))
  let s6 := if lost = 0 then s5 else s5.flag .drvEvent 2
  if sc < 1024 then ((s6.flag .drvEvent 0).count .drvClipCnt 0 32).report 0x44 else s6

/-- X of R103 for a phase error in a timing: below one cycle of it (R105). -/
def stretchOf (e : Int) (len : Nat) : Nat := ((-e) % (8 * len : Nat)).toNat

/-- Instants of the decision point and of the boundary of the running cycle (R82, R102, R103). -/
def State.decisionAt (s : State) : Nat :=
  s.scan.cycleStart + (7 * s.scan.cur.len + s.scan.cur.window) * tickLen

def State.boundaryAt (s : State) : Nat :=
  let x : Nat := match s.scan.stretching with
    | some e => stretchOf e s.scan.cur.len
    | none => 0
  let ticks : Int := 8 * s.scan.cur.len + s.scan.delta + x
  s.scan.cycleStart + ticks.toNat * tickLen

/-- The cycle that begins takes the delays counted from its boundary (R162, R106, R630): CMP_PHASE, and
SCN_CAMSYNC_OFFSET, an offset of at least the cycle's length as 0 (R107) (DEDUCED, log 85). -/
def State.takeDelays (s : State) : State :=
  let off := s.fld .scnCamsyncOffset 0 18
  let long := decide (s.boundaryAt ≤ s.scan.cycleStart + off * tickLen)
  s.onScan fun c => { c with phase := s.fld .cmpPhase 0 16, cam := some (if long then 0 else off, long) }

/-- Ticks of the running slot, the line-7 blanking's correction and stretch among them (R71, R102, R103). -/
def State.slotTicks (s : State) : Nat :=
  if s.scan.slot = 7 then (s.boundaryAt - s.slotStart) / tickLen else s.scan.cur.len

/-- A candidate that becomes ready after the decision point sets FLIP_LATE (R82). -/
def State.lateCheck (s : State) : State :=
  match s.comp.cand with
  | some c =>
    if c.ready s && !s.scan.flipPend && decide (s.decisionAt < s.now) && decide (s.now ≤ s.boundaryAt) then
      s.flag .scnEvent 4
    else s
  | none => s

/-- The candidate of a pass is complete (R31, R145, R146, R481) (DEDUCED, log 58). -/
def State.offerCandidate (s : State) (f : Frame) : State :=
  let (i, j, h) := (f.ipk 0, f.ipk 1, f.headroom)
  let s1 := (s.noteLimit .L h i).noteLimit .R h j
  ((s1.onComp fun c => { c with cand := some { frame := f, ipkL := i, ipkR := j, vreqL := s.vreq .L h i
                                               vreqR := s.vreq .R h j } }).raises) |>.lateCheck

/-- The running pass has composed the whole field (R164, R186, R213). PRF_SIG_k, PRF_PASS_SEQ and the drive-chain
registers take the pass's values here, so an aborted pass never shows (DESIGN CHOICE, log 75). A pass without a candidate
computes no V_req (DESIGN CHOICE, log 90). -/
def State.passEnd (s : State) : State :=
  match s.comp.run with
  | none => s
  | some r =>
    let f := r.frame
    let t := r.start + passTime
    let s1 := ((s.advance t).passCounts t).onComp fun c => { c with run := none, shown := some f }
    let s4 := ((s1.retireSlots r.retiring).showSignatures f).showDrive f
    (if r.dropped then s4 else s4.offerCandidate f).nextFabCycle

/-! ### Checks in a pass -/

/-- Instant at which pixel `(x, y)` of a pass is composed (R164: four pixels in a CK_PIX cycle). -/
def pixelTime (r : Pass) (x y : Nat) : Nat := r.start + ((2048 * y + x) / 4 + 1) * 32

/-- The last pixel of rectangle `k` is composed (R187 to R189). -/
def State.proofCompare (s : State) (k : Nat) : State :=
  match s.comp.run with
  | none => s
  | some r =>
    let v := r.frame.rects.getD k {}
    if r.frame.fallback ∨ v.w = 0 ∨ 16 ≤ k then s
    else
      let s1 := s.advance (pixelTime r (v.x0 + v.w - 1) (v.y0 + v.h - 1))
      if r.frame.signature v = v.exp then s1
      else
        let s2 := s1.flag .prfMismatch k
        let s3 := if r.missed then s2 else s2.count .prfMissCnt 0 32
        ((s3.onComp fun c => { c with run := some { r with missed := true } }).dropRun).report 0x40 k

/-- What a Seal check of a pass reads or computes, where its read path is sound, and what it is compared with (R179):
the content check value from the bytes that the pass reads, a Seal palette entry `x`, the composed pixel `(x, y)`.
None where the check is not made. -/
def State.sealReads (s : State) (f : Frame) (part : SealPart) (x y : Nat) : Option (Word × Word) :=
  match f.plate with
  | none => none
  | some pl =>
    match part with
    | .content =>
      let v := f.layers.getD 6 {}
      if v.en then some (sealCrc pl f.mem v, s.comp.sealCrc) else none
    | .palette =>
      if x < 256 then
        some (tabGet 0 (f.palettes.getD pl.sealPal []) x, tabGet 0 (pl.palettes.getD pl.sealPal []) x)
      else none
    | .output =>
      match f.offer 6 x y with
      | some w => if x < 2048 ∧ y < 512 then some (word (f.composed x y), word w) else none
      | none => none

/-- Instant at which a Seal check acts (R179): the start of the pass, the composition of its pixel, or that of the last
pixel of the Seal layer in the field, after whose bytes the pass reads no more (DEDUCED, log 81). -/
def Pass.sealInstant (r : Pass) (part : SealPart) (x y : Nat) : Nat :=
  match part with
  | .palette => r.start
  | .output => pixelTime r x y
  | .content =>
    let v := r.frame.layers.getD 6 {}
    pixelTime r (clampInt (v.x + v.width - 1) 0 2047).toNat (clampInt (v.y + v.height - 1) 0 511).toNat

/-- A Seal check of the running pass (R179); `disturb` are the bits that its read path gets wrong. -/
def State.sealCheck (s : State) (part : SealPart) (x y : Nat) (disturb : Word) : State :=
  match s.comp.run with
  | none => s
  | some r =>
    match s.sealReads r.frame part x y with
    | none => s
    | some (got, want) =>
      let s1 := s.advance (r.sealInstant part x y)
      if got ^^^ disturb = want then s1
      else ((s1.flag .cmpEvent 2).dropRun).report (if part = .output then 0x42 else 0x41)

/-- A fallback pass has read the last byte of the pattern (R196) (DEDUCED, log 59); `disturb` are the bits of the check
value that the read gets wrong. -/
def State.patternCheck (s : State) (disturb : Word) : State :=
  match s.comp.run with
  | none => s
  | some r =>
    match r.frame.plate with
    | none => s
    | some pl =>
      if r.frame.pattern && !s.comp.fbReload && !patternGood r.frame.mem pl.fbBank disturb then
        (((s.flag .cmpEvent 3).dropRun).report 0x45).onComp fun c => { c with fbReload := true }
      else s

/-- The fallback bank holds the plate's pattern again (R190): its words get new check bits (R629). -/
def State.reloadPattern (s : State) (pl : Plate) : State :=
  let base := bankBase pl.fbBank
  let t := s.scansBefore base (base + 0x10000)
  { t with mem := loadPattern pl s.mem
           ecc := s.ecc.filter fun w => decide (w < base) || decide (base + 0x10000 ≤ w) }

/-- A reload of the fallback bank ends with its check (R196); `disturb` are the bits of the check value that the read
gets wrong. -/
def State.reloadDone (s : State) (disturb : Word) : State :=
  match s.boot.plate with
  | none => s
  | some pl =>
    if s.comp.fbReload then
      let s1 := (s.reloadPattern pl).onComp fun c => { c with fbReload := false }
      if patternGood s1.mem pl.fbBank disturb then s1
      else (s1.report 0x45).onComp fun c => { c with fbDead := true }
    else s

/-- A refresh condition of R119 arises (R162). -/
def State.refreshRun (s : State) : State := s.onComp fun c => { c with refresh := true }

/-- A refresh condition of R95 arises in HOLD. -/
def State.refreshHold (s : State) : State :=
  if s.power.state = .hold then s.onComp fun c => { c with holdRefresh := true } else s

/-- A condition of both rules arises: a change of the mask map or of a drive register. -/
def State.refreshBoth (s : State) : State :=
  if s.power.state = .hold then s.refreshHold else s.refreshRun

/-- PRF_STATUS (R203). -/
def State.prfStatus (s : State) : Word :=
  let fb := match s.comp.run with
    | some r => r.frame.fallback
    | none => s.faults.fallback
  word (boolNat fb + 2 ^ 16 * packBits ((List.range 16).map fun k => decide (field (s.rd .prfSize k) 0 12 ≠ 0)))

end Sys2Proof.Machine
end

