-- ==== Sys2Proof/Machine/Array.lean ====
section
/-! DEFINITION. The array as it is lit: stored words, pulses and probes (R73 to R75, R142, R345 to R347), pixel
states (R353), the attic bus (R68 to R70), mask causes (R355) and tile states (R363). -/

namespace Sys2Proof.Machine

/-! ### Columns, row groups and regions -/

/-- Number of a pixel's column: that of its working sink, 256 * T + s. -/
def columnNo (x y : Nat) : Nat := 256 * tileOf x y + sinkOf x y

/-- Row group of a column: 4 * T + q; its attic sinks are 2 * rg and 2 * rg + 1, its columns start at
64 * rg. -/
def groupOfColumn (n : Nat) : Nat := n / 64

def groupAttics (rg : Nat) : List Nat := [2 * rg, 2 * rg + 1]

/-- Number of a numbered pixel's column. -/
def columnOfPixel (p : Nat) : Nat := columnNo (p % 2048) (p / 2048)

/-- The eight pixels of a column (R13). -/
def columnPixels (n : Nat) : List (Nat × Nat) := (List.range 8).map fun m => pixelOf (n / 256) m (n % 256)

/-- Region of a tile (R11). -/
def regionOfTile (t : Nat) : Nat := 8 * (t % 32 / 16) + t / 64

/-- Region of a numbered pixel, of a column and of an attic sink. -/
def regionOfPixel (p : Nat) : Nat := regionOf (p % 2048) (p / 2048)
def regionOfColumn (n : Nat) : Nat := regionOfTile (n / 256)
def regionOfAttic (k : Nat) : Nat := regionOfTile (k / 8)

/-- A tile is populated under the loaded plate (R538). -/
def State.populatedTile (s : State) (t : Nat) : Bool :=
  match s.boot.plate with
  | some pl => pl.pop.getLsbD t
  | none => false

/-! ### Stored words -/

def State.activeBuffer (s : State) : Buffer := if s.scan.abuf then s.scan.buf1 else s.scan.buf0

/-- Index of a pixel's word in a buffer: 2,048 * T + 256 * m + s (R81). -/
def wordIndex (x y : Nat) : Nat := 2048 * tileOf x y + 256 * (y % 8) + sinkOf x y

/-- The drive word that a buffer holds for a pixel (R81, R503). -/
def Buffer.word (b : Buffer) (x y : Nat) : Word :=
  match b.words.find? fun e => e.1 == wordIndex x y with
  | some e => e.2
  | none =>
    match b.frame with
    | some f => f.drive x y
    | none => 0

def State.stored (s : State) (x y : Nat) : Word := s.activeBuffer.word x y

/-- Pixels of the active buffer whose words can hold a charge, in raster order. -/
def State.chargedPixels (s : State) : List (Nat × Nat) :=
  match s.activeBuffer.frame with
  | some f => let (a, b, c, d) := f.box; rectPixels a c (b - a) (d - c)
  | none => []

/-! ### Drive words -/

def wA (w : Word) : Nat := field w 0 8
def wP (w : Word) : Nat := field w 8 15
def wF (w : Word) : Nat := field w 23 2
def wMask (w : Word) : Bool := bit w 26

/-- RANK of R142. -/
def rankOf : Nat → Nat
  | 0 => 0
  | 1 => 2
  | 2 => 1
  | _ => 3

/-- The stipple extension e of a pixel in a cycle (R76, R142). -/
def stipple (cycle : BitVec 64) (x y f : Nat) : Nat :=
  boolNat (decide (rankOf ((cycle.toNat + (x + 2 * y)) % 4) < f))

/-- The word calls for current: MASK = 0, A ≥ 1 and A * (4P + F) ≥ 1 (R353). -/
def hasCurrent (w : Word) : Bool := !wMask w && decide (1 ≤ wA w) && decide (1 ≤ wA w * (4 * wP w + wF w))

/-- The word is that of a probe pixel (R345). -/
def isProbeWord (w : Word) : Bool := hasCurrent w && decide (wP w ≤ 249)

/-- Charge sum of a whole probe window (R347). -/
def windowSum (w : Word) : Nat := 64 * wP w + 16 * wF w

/-- Apr of R347. -/
def probeAmp (w : Word) : Nat := wA w * windowSum w / 250

/-- The word is below minimum: it meets R349. -/
def belowMinimum (apmin : Nat) (w : Word) : Bool :=
  isProbeWord w && decide (windowSum w < 250) && decide (probeAmp w < apmin)

def State.apMin (s : State) : Nat := s.fld .scnDiagCfg 8 8

/-- The pulse of a word in a slot: amplitude and ticks (R73, R74). -/
def wordPulse (t : Timing) (cycle : BitVec 64) (x y : Nat) (w : Word) : Nat × Nat :=
  let p := wP w + stipple cycle x y (wF w)
  if wMask w || wA w == 0 || p == 0 then (0, 0) else (wA w, min p t.window)

/-! ### Probe windows -/

/-- The probe pulse of a window in its cycle `c` with sum `sum` (R347): amplitude and ticks. -/
def probePulse (apmin c sum : Nat) (w : Word) : Option (Nat × Nat) :=
  if 250 ≤ sum then some (wA w, sum)
  else if 63 ≤ c ∧ apmin ≤ probeAmp w then
    some (probeAmp w, (wA w * sum + probeAmp w / 2) / probeAmp w)
  else none

/-- The running window of a pixel: cycle and sum. -/
def State.windowOf (s : State) (p : Nat) : Option (Nat × Nat) := (s.diag.windows.find? fun e => e.1 == p).map (·.2)

/-- The probe pulse that a pixel gives in the running cycle, if it gives one: APMIN as the latest flip found it (DEDUCED,
log 86). -/
def State.probeOf (s : State) (x y : Nat) : Option (Nat × Nat) :=
  match s.windowOf (pixelNo x y) with
  | some (c, sum) => probePulse s.diag.apLit c sum (s.stored x y)
  | none => none

/-! ### The attic bus -/

/-- Connection of attic sink `k` = 8 * T + a (R68). -/
def State.attic (s : State) (k : Nat) : Attic := tabGet .parked s.diag.attic k

def State.setAttic (s : State) (k : Nat) (a : Attic) : State :=
  s.onDiag fun d => { d with attic := tabSet .parked d.attic k a }

/-- Attic sink `k` counts as failed (R361). -/
def State.atticFailed (s : State) (k : Nat) : Bool := tabGet false s.diag.failedAttic k

def State.setAtticFailed (s : State) (k : Nat) (b : Bool) : State :=
  s.onDiag fun d => { d with failedAttic := tabSet false d.failedAttic k b }

/-- Working sink `n` has failed. -/
def State.sinkFailed (s : State) (n : Nat) : Bool := tabGet false s.diag.failed n

/-- The attic sink that drives column `n`, if one does: one in TAKEOVER before one in REPLACE, which is then
under measurement (R391), and of two in REPLACE the one that the line-7 blanking does not disconnect (R396, R361). -/
def State.holder (s : State) (n : Nat) : Option Nat :=
  let ks := groupAttics (groupOfColumn n)
  let repl := ks.filter fun k => s.attic k == .replace n
  ((ks.find? fun k => s.attic k == .takeover n).or (repl.find? fun k => !s.diag.toDrop.contains k)).or repl.head?

/-- A sink drives the column (R70): an attic sink, or its working sink. -/
def State.served (s : State) (n : Nat) : Bool := (s.holder n).isSome || !s.sinkFailed n

/-- Key of the confirmation count of the sink that drives column `n` (R341): the working sink, or 131,072 + k
for attic sink k. -/
def State.driver (s : State) (n : Nat) : Nat :=
  match s.holder n with
  | some k => 131072 + k
  | none => n

/-- Lowest-numbered column of a row group that a working sink serves (R366, R391). -/
def State.shadowColumn (s : State) (rg : Nat) : Option Nat :=
  ((List.range 64).map fun c => 64 * rg + c).find? fun n => !s.sinkFailed n && (s.holder n).isNone

/-! ### Light -/

/-- Every sink is off, whatever the words say: the array is held dark (R499), relighting has not released the sinks
(R500, step 3), or an entry to STANDBY has switched them off (R459, step 1). -/
def State.sinksOff (s : State) : Bool := s.heldDark || decide (s.power.relightStep ≠ 0) || s.leaving

/-- The sink of a pixel is held off, whatever the pixel's word says (R97, R354, R459, R499, R500). -/
def State.heldOff (s : State) (x y : Nat) : Bool :=
  s.sinksOff || s.diag.holdOff.contains (pixelNo x y) || (!s.scan.scanLock && decide (1024 ≤ x))

/-- The pulse that a pixel's word, or the probe in its place, calls for in the running cycle: amplitude and ticks (R73,
R74, R347). -/
def State.called (s : State) (x y : Nat) : Nat × Nat :=
  let w := s.stored x y
  if wMask w then (0, 0)
  else
    match s.windowOf (pixelNo x y) with
    | some _ => (s.probeOf x y).getD (0, 0)
    | none => wordPulse s.scan.cur s.scan.cycle x y w

/-- The pulse that the pixel's sink gives in its slot of the running cycle: amplitude and ticks (R73, R74). -/
def State.pulse (s : State) (x y : Nat) : Nat × Nat :=
  if s.heldOff x y || !s.scan.on || !s.guard.po1.cmd || !s.populatedTile (tileOf x y) || !s.served (columnNo x y) then
    (0, 0)
  else s.called x y

/-- A sink of the region of a pixel conducts in the running slot: the pixels that give a pulse (R73, R74). -/
def State.conductingRegions (s : State) : BitVec 16 :=
  s.chargedPixels.foldl (fun a (x, y) =>
    if y % 8 = s.scan.slot ∧ (s.pulse x y).2 ≠ 0 then a ||| ((1 : BitVec 16) <<< regionOf x y) else a) 0

/-- The slot current of a region in µA in line `m`, from its stored words as R144 forms the die's (R414). -/
def State.slotCurrent (s : State) (g m : Nat) : Nat :=
  match s.activeBuffer.frame with
  | none => 0
  | some f =>
    f.sumOver (1024 * (g / 8)) (1024 * (g / 8) + 1024) (64 * (g % 8)) (64 * (g % 8) + 64) (fun x y =>
      if y % 8 = m && f.populated (tileOf x y) then wA (s.stored x y) * ifsOf f.ifs g else 0) / 256

/-! ### Masks -/

def faultCause : BitVec 3 := 1
def hostCause : BitVec 3 := 2
def columnCause : BitVec 3 := 4

def State.causes (s : State) (p : Nat) : BitVec 3 := tabGet 0 s.diag.mask p

/-- Masked pixels of a region. -/
def State.maskedIn (s : State) (g : Nat) : Nat := (s.diag.mask.filter fun e => regionOfPixel e.1 == g).length

def State.maskMax (s : State) : Nat := s.fld .scnDiagLim 0 17

/-- The change of R358 that waits for the settings record. -/
def State.noteChange (s : State) : State := s.onDiag fun d => { d with unsaved := some (d.unsaved.getD s.now) }

def noConfirm : Confirm := { last := .pass, count := 0, latest := .pass }

/-- The count of a pixel starts again; its latest failing result stays (R343, R376). -/
def restartCount (p : Nat) (l : Tab Confirm) : Tab Confirm :=
  tabSet noConfirm l p { noConfirm with latest := (tabGet noConfirm l p).latest }

/-- The causes of a pixel become `c` (R353 to R355): a change asks for a pass, and a region whose masked
pixels come to exceed MASKMAX is reported (R371, source 0x56) (DEDUCED, log 65). -/
def State.setCauses (s : State) (p : Nat) (c : BitVec 3) : State :=
  let old := s.causes p
  if old = c then s
  else
    let g := regionOfPixel p
    let was := s.maskedIn g
    let back := decide (c = 0)
    let s1 := s.onDiag fun d =>
      { d with mask := tabSet 0 d.mask p c
               holdOff := if back then d.holdOff.filter (· != p) else d.holdOff
               holdNext := if back then d.holdNext.filter (· != p) else d.holdNext
               returned := if back then addNat p d.returned else d.returned.filter (· != p)
               pix := if back then restartCount p d.pix else d.pix }
    let s2 := if c &&& 3 = old &&& 3 then s1 else s1.noteChange
    let s3 := if was ≤ s.maskMax ∧ s.maskMax < s2.maskedIn g then s2.report 0x56 g else s2
    s3.refreshBoth

/-! ### Pixel states -/

/-- State of a pixel, in the codes of TIL_PIXMAP (R353, R376, R538): APMIN acts on it from the next flip on. -/
def State.pixelState (s : State) (x y : Nat) : Nat :=
  let w := s.stored x y
  let p := pixelNo x y
  if !s.populatedTile (tileOf x y) then 0
  else if s.causes p ≠ 0 then 2
  else if s.diag.returned.contains p || !hasCurrent w then 0
  else if belowMinimum s.diag.apLit w then 3
  else 1

/-- Codes of TIL_PIXINFO.LAST (R376). -/
def resultCode : SampleResult → Nat
  | .pass => 0
  | .opened => 1
  | .short => 2
  | .leak => 3
  | .sink => 4

/-- TIL_PIXINFO of a pixel (R376). -/
def State.pixInfo (s : State) (x y : Nat) : Word :=
  let p := pixelNo x y
  let (count, latest) := match s.diag.pix.find? fun e => e.1 == p with
    | some e => (e.2.count, e.2.latest)
    | none => (0, .pass)
  word (s.pixelState x y + 4 * (s.causes p).toNat + 32 * resultCode latest + 256 * count
    + 4096 * boolNat (isProbeWord (s.stored x y)))

/-- Pixel i of region G (R375). -/
def regionPixel (g i : Nat) : Nat × Nat := (1024 * (g / 8) + i % 1024, 64 * (g % 8) + i / 1024)

/-- TIL_PIXMAP word `k` of region G (R376). -/
def State.pixMap (s : State) (g k : Nat) : Word :=
  word ((List.range 16).foldl (fun a j =>
    let (x, y) := regionPixel g (16 * k + j)
    a + s.pixelState x y * 4 ^ j) 0)

/-! ### Tiles -/

/-- Row groups of a tile. -/
def tileGroups (t : Nat) : List Nat := (List.range 4).map fun q => 4 * t + q

/-- The attic sink is available for takeover (R363): it has not failed and is not in REPLACE. -/
def State.atticFree (s : State) (k : Nat) : Bool :=
  !s.atticFailed k && match s.attic k with
    | .replace _ => false
    | _ => true

/-- State of a tile, in the codes of TIL_TILE_STATEt (R363). -/
def State.tileState (s : State) (t : Nat) : Nat :=
  if s.diag.noSink.any fun n => n / 256 == t then 2
  else if (tileGroups t).all fun rg => (groupAttics rg).any s.atticFree then 0
  else 1

/-- TIL_TILE_STATEt (R376). -/
def State.tileWord (s : State) (t : Nat) : Word :=
  let failed := (s.diag.failed.filter fun e => e.1 / 256 == t).length
  let attics := (List.range 8).map fun a => s.attic (8 * t + a)
  let repl := packBits (attics.map fun a => match a with | .replace _ => true | _ => false)
  let bad := packBits ((List.range 8).map fun a => s.atticFailed (8 * t + a))
  word (s.tileState t + 16 * failed + 2 ^ 16 * repl + 2 ^ 24 * bad)

/-- TIL_SINKMAP word `k` of region G (R375). -/
def State.sinkMap (s : State) (g k : Nat) : Word :=
  let t := tileOfLocal g (k / 8)
  word (packBits ((List.range 32).map fun b => s.sinkFailed (256 * t + 32 * (k % 8) + b)))

/-! ### Losing and replacing sinks -/

/-- A column has no sink left (R364): its pixels are masked and its tile is DEGRADED. -/
def State.loseColumn (s : State) (n : Nat) : State :=
  if s.diag.noSink.contains n then s
  else
    let t := n / 256
    let g := regionOfTile t
    let was := s.tileState t
    let s1 := s.onDiag fun d => { d with noSink := addNat n d.noSink }
    let s2 := (columnPixels n).foldl (fun u (x, y) =>
      u.setCauses (pixelNo x y) (u.causes (pixelNo x y) ||| columnCause)) s1
    if was = 2 then s2 else (s2.flag .tilDiagEvent 2 g).report 0x55 t

/-- A column that had no sink has one again (R367). -/
def State.regainColumn (s : State) (n : Nat) : State :=
  if s.diag.noSink.contains n then
    (columnPixels n).foldl (fun u (x, y) =>
      u.setCauses (pixelNo x y) (u.causes (pixelNo x y) &&& ~~~columnCause))
      (s.onDiag fun d => { d with noSink := d.noSink.filter (· != n) })
  else s

/-- The region's running step is the re-admission of attic sink `k`. -/
def State.readmitsAttic (s : State) (k : Nat) : Bool :=
  (s.region (regionOfAttic k)).readmitting && match s.diag.readmit.getD (regionOfAttic k) none with
    | some u => u.attic && decide (8 * u.tile + u.unit = k)
    | none => false

/-- Rank of an attic sink in R359, none where it cannot be taken: a failed one only while its re-admission holds it in
SHADOW. -/
def State.atticRank (s : State) (k : Nat) : Option Nat :=
  match s.attic k with
  | .parked => if s.atticFailed k then none else some 1
  | .takeover _ => if s.atticFailed k then none else some 2
  | .shadow _ => if s.atticFailed k && !s.readmitsAttic k then none else some 3
  | .replace _ => none

/-- The attic sink that replaces a sink of a row group (R359): lowest rank, then lowest number. -/
def State.chooseAttic (s : State) (rg : Nat) : Option Nat :=
  let pick (r : Nat) : Option Nat :=
    (groupAttics rg).find? fun k => s.atticRank k == some r && !s.diag.toDrop.contains k
  ((pick 1).or (pick 2)).or (pick 3)

/-! ### Steps and re-admissions that a replacement ends -/

/-- The step in progress is abandoned (R404): it is repeated at once after a pause, or at the end of the
round; a step abandoned twice becomes SKIPPED. -/
def CalRegion.abandon (r : CalRegion) (pause : Bool) : CalRegion :=
  if !r.stepOn || r.readmitting then { r with stepOn := false, readmitting := false }
  else
    let i := r.step
    let twice := r.once.contains i
    let fromPlan := decide (r.pos < 8448) && decide (i = r.pos)
    { r with
      stepOn := false
      nAband := r.nAband + 1
      nSkip := if twice then r.nSkip + 1 else r.nSkip
      once := if twice then r.once else r.once ++ [i]
      pos := if fromPlan && (twice || !pause) then r.pos + 1 else r.pos
      again :=
        if fromPlan then (if twice || pause then r.again else r.again ++ [i])
        else if twice then r.again.drop 1
        else if pause then r.again
        else r.again.drop 1 ++ [i] }

/-- A step in progress in region G ends abandoned (R404, R570). -/
def State.stepCut (s : State) (g : Nat) (pause : Bool) : State :=
  (if (s.region g).stepOn then s.pmc 0x33 else s).onRegion g fun r => r.abandon pause

/-- A re-admission of region G ends without rejoining (R368): the unit stays failed, and an attic sink leaves SHADOW in
the line-7 blanking (R69). -/
def State.readmitFails (s : State) (g cause : Nat) : State :=
  match s.diag.readmit.getD g none with
  | none => s
  | some _ =>
    let s1 := s.onDiag fun d => { d with readmit := modifyAt (fun _ => none) g d.readmit }
    let s2 := if (s.region g).readmitting then s1.stepCut g false else s1
    ((s2.setFld .tilDiagStatus 2 3 cause g).flag .tilDiagEvent 4 g).count .tilCntRejoin 16 16 1 g

/-- What the duty of an attic sink loses when it is taken for a replacement (R359). -/
def State.preempt (s : State) (k : Nat) : State :=
  let g := regionOfAttic k
  match s.attic k with
  | .takeover _ => s.stepCut g false
  | .shadow _ =>
    if (s.region g).readmitting then s.readmitFails g 2 else s.stepCut g false
  | _ => s

/-- Column `n` gets an attic sink in REPLACE, or has no sink (R359, R364). -/
def State.replaceColumn (s : State) (n : Nat) (atticFailed : Bool) : State :=
  match s.chooseAttic (groupOfColumn n) with
  | none => s.loseColumn n
  | some k =>
    let s1 := ((s.preempt k).setAttic k (.replace n)).noteChange
    let s2 := s1.regainColumn n
    if atticFailed then s2 else s2.report 0x53 (regionOfColumn n)

/-! ### Confirmed failures of sinks -/

/-- A working sink's failure is confirmed (R359, R360, R396): it is switched off at once; an attic sink that
holds its column turns to REPLACE. -/
def State.sinkFails (s : State) (n : Nat) : State :=
  if s.sinkFailed n then s
  else
    let g := regionOfColumn n
    let s1 := ((s.onDiag fun d => { d with failed := tabSet false d.failed n true
                                           sinks := d.sinks.filter fun e => e.1 != n
                                           retry := d.retry.filter fun p => columnOfPixel p != n }).count .tilCntSink 0 16 1 g).flag
      .tilDiagEvent 1 g
    let s2 := (s1.onRegion g fun r =>
      { r with staged := r.staged.filter fun e => e.1 != 264 * (n / 256) + n % 256 }).noteChange
    match s2.holder n with
    | some k => (s2.setAttic k (.replace n)).report 0x53 g
    | none =>
      if (s2.chooseAttic (groupOfColumn n)).isSome then
        s2.onDiag fun d => { d with toReplace := d.toReplace ++ [(n, false)] }
      else s2.loseColumn n

/-- The column that a connection serves or shadows. -/
def Attic.column : Attic → Option Nat
  | .parked => none
  | .takeover n => some n
  | .replace n => some n
  | .shadow n => some n

/-- The attic sink drives a column for a failed sink. -/
def Attic.replaces : Attic → Bool
  | .replace _ => true
  | _ => false

/-- An attic sink's failure is confirmed (R361): the next line-7 blanking disconnects it, and no probe of its column
starts again (R348). One that a replacement took while it still counted as failed (R359, R368) fails again (DEDUCED,
log 87). -/
def State.atticFails (s : State) (k : Nat) : State :=
  if s.diag.toDrop.contains k || (s.atticFailed k && !(s.attic k).replaces) then s
  else
    let g := regionOfAttic k
    ((((s.onDiag fun d => { d with failedAttic := tabSet false d.failedAttic k true
                                   toDrop := d.toDrop ++ [k]
                                   sinks := d.sinks.filter fun e => e.1 != 131072 + k
                                   retry := d.retry.filter fun p => some (columnOfPixel p) != (s.attic k).column }).count
      .tilCntSink 16 16
      1 g).flag .tilDiagEvent 1 g).onRegion g fun r =>
        { r with staged := r.staged.filter fun e => e.1 != 264 * (k / 8) + 256 + k % 8 }).noteChange.report 0x54 g

/-! ### The attic bus in the line-7 blanking -/

/-- A failed attic sink is disconnected (R361); its column needs another where no attic sink has taken it (R396). -/
def State.dropAttic (s : State) (k : Nat) : State :=
  let g := regionOfAttic k
  let s1 := s.setAttic k .parked
  match s.attic k with
  | .replace n =>
    if (s1.holder n).isSome then s1.noteChange
    else (s1.onDiag fun d => { d with toReplace := d.toReplace ++ [(n, true)] }).noteChange
  | .takeover _ => s1.stepCut g false
  | .shadow _ => s1.stepCut g false
  | _ => s1

/-- Insertion of a replacement in the order of R362: working sinks before attic sinks in REPLACE, then by
number. -/
def insertRepl (x : Nat × Bool) : List (Nat × Bool) → List (Nat × Bool)
  | [] => [x]
  | y :: t =>
    if boolNat x.2 * 131072 + x.1 ≤ boolNat y.2 * 131072 + y.1 then x :: y :: t else y :: insertRepl x t

/-- A unit that passed its re-admission rejoins (R367), with its staged trim (R409). -/
def State.rejoin (s : State) (u : Readmit) (trim : BitVec 9) : State :=
  let g := regionOfTile u.tile
  let no := 264 * u.tile + (if u.attic then 256 else 0) + u.unit
  let s1 := (s.onCal fun c => { c with trims := tabSet 0 c.trims no trim, dirty := true }).count .calCommitCnt 0 32
  let s1 := s1.pmc 0x34
  let s2 := (s1.onScan fun c => { c with calCommit := true }).refreshRun.noteChange
  let s3 := (s2.count .tilCntRejoin 0 16 1 g).flag .tilDiagEvent 3 g
  if u.attic then
    let k := 8 * u.tile + u.unit
    let s4 := (s3.setAttic k .parked).setAtticFailed k false
    match s4.diag.noSink.find? fun n => groupOfColumn n == k / 2 with
    | some n => s4.replaceColumn n false
    | none => s4
  else
    let n := 256 * u.tile + u.unit
    let s4 := s3.onDiag fun d => { d with failed := tabSet false d.failed n false }
    let s5 := match s4.holder n with
      | some k => s4.setAttic k .parked
      | none => s4
    s5.regainColumn n

/-- Replacements, disconnections and rejoins of the line-7 blanking (R69, R359 to R362, R367). -/
def State.atticChanges (s : State) : State :=
  let s1 := s.diag.toDrop.foldl (fun t k => t.dropAttic k) (s.onDiag fun d => { d with toDrop := [] })
  let joins := s1.diag.toRejoin
  let s2 := joins.foldl (fun t (u, tr) => t.rejoin u tr) (s1.onDiag fun d => { d with toRejoin := [] })
  let repl := s2.diag.toReplace.foldl (fun l x => insertRepl x l) []
  repl.foldl (fun t (n, a) => t.replaceColumn n a) (s2.onDiag fun d => { d with toReplace := [] })

end Sys2Proof.Machine
end

