-- ==== Sys2Proof/Machine/Diag.lean ====
section
/-! DEFINITION. Pixel and sink diagnostics (R338 to R376): samples and their confirmation, diagnostic periods,
probe windows, coverage, host masks and re-admission requests. -/

namespace Sys2Proof.Machine

/-! ### Classification -/

/-- The local VLED of a region in mV (R340, R432): the latest VLEDL or VLEDR result of its die while the region's
converter is retired (R448); and its column discharge level. -/
def State.vledLoc (s : State) (g : Nat) : Nat :=
  if (s.conv g).retired then s.vled (dieOf g) * 5000 / 65536 else milliVolts (tabGet 0 (s.conv g).latest 6)
def State.vdis (s : State) (g : Nat) : Nat := milliVolts (tabGet 0 (s.conv g).latest 11)

/-- A threshold of SCN_DIAG_VTH in mV (R374). -/
def State.vth (s : State) (lsb : Nat) : Nat := 10 * s.fld .scnDiagVth lsb 8

/-- A lit sample of R340. -/
def State.classifyLit (s : State) (g : Nat) (reg : Bool) (v : Nat) : SampleResult :=
  if !reg && decide (v < s.vth 0) then .opened
  else if reg && decide ((s.vledLoc g : Int) - s.vth 8 < v) then .short
  else if !reg then .sink
  else .pass

/-- A dark sample of R340. -/
def State.classifyDark (s : State) (g v : Nat) : SampleResult :=
  if (s.vledLoc g : Int) - s.vth 24 ≤ v then .short
  else if s.vdis g + s.vth 16 ≤ v then .leak
  else .pass

/-! ### Confirmation -/

def State.failN (s : State) : Nat := s.fld .scnDiagCfg 4 4

/-- A count of R343 or R344 after a sample; `fails` says that the result counts. -/
def Confirm.next (c : Confirm) (r : SampleResult) (fails : Bool) : Confirm where
  last := r
  count := if fails then (if c.last = r then min 15 (c.count + 1) else 1) else 0
  latest := if r = .pass then c.latest else r

/-- Hardware sets the FAULT cause of a pixel in this CK_FAB cycle (R357). -/
def State.noteFault (s : State) (p : Nat) : State :=
  { s with cyc := { s.thisCycle with faults := addNat p s.thisCycle.faults } }

/-- A pixel's failure is confirmed (R343, R353, R354): its probes do not go on (R348). A LEAK, or a dark SHORT, of a lit
pixel, of which R353 has no row, masks it and holds it off too (DESIGN CHOICE, log 88). -/
def State.pixelFails (s : State) (p : Nat) (r : SampleResult) : State :=
  let g := regionOfPixel p
  let s1 := match r with
    | .opened => (s.count .tilCntOpen 0 32 1 g).report 0x50 g
    | .short => (s.count .tilCntShort 0 32 1 g).report 0x51 g
    | _ => (s.count .tilCntLeak 0 32 1 g).report 0x52 g
  let s2 := ((s1.flag .tilDiagEvent 0 g).setCauses p (s.causes p ||| faultCause)).noteFault p
  s2.onDiag fun d => { d with holdNext := addNat p d.holdNext, retry := d.retry.filter (· != p) }

/-- A sample enters the count of its pixel (R343); a pixel with the FAULT cause has failed already. -/
def State.pixelSample (s : State) (p : Nat) (r : SampleResult) (fails : Bool) : State :=
  let c := (tabGet noConfirm s.diag.pix p).next r fails
  let s1 := s.onDiag fun d => { d with pix := tabSet noConfirm d.pix p c }
  if fails ∧ s.failN ≤ c.count ∧ s.causes p &&& faultCause = 0 then s1.pixelFails p r else s1

/-- A lit sample enters the count of the sink that drove the column (R341, R344). -/
def State.sinkSample (s : State) (key : Nat) (r : SampleResult) : State :=
  let c := (tabGet noConfirm s.diag.sinks key).next r (decide (r = .sink))
  let s1 := s.onDiag fun d => { d with sinks := tabSet noConfirm d.sinks key c }
  if r = .sink ∧ s.failN ≤ c.count then
    (if key < 131072 then s1.sinkFails key else s1.atticFails (key - 131072))
  else s1

/-! ### Samples -/

/-- SCN_DIAG_CFG disables a kind of sample (R342). -/
def State.samplesOff (s : State) : Bool := !bit (s.rd .scnDiagCfg) 0 || !bit (s.rd .scnDiagCfg) 1

/-- Sampling on a die is suspended (R342). -/
def State.samplingSuspended (s : State) (d : Die) : Bool := s.dieSuspended d || s.samplesOff

/-- Samples of a column of the running slot count: its die is not suspended and its comparator has passed its self-test
(R342, R372). -/
def State.columnSampled (s : State) (x y : Nat) : Bool :=
  let n := columnNo x y
  decide (x < 2048) && decide (y < 512) && decide (y % 8 = s.scan.slot)
    && !s.dieSuspended (dieOf (regionOf x y)) && !s.diag.badComp.contains n && !s.diag.retiredComp.contains n
    && s.populatedTile (tileOf x y)

/-- A lit sample of a pixel is taken in the running slot (R338). -/
def State.litTaken (s : State) (x y : Nat) : Bool :=
  bit (s.rd .scnDiagCfg) 0 && s.columnSampled x y && decide (250 ≤ (s.pulse x y).2)

/-- A lit sample with its result (R340, R341, R343, R344, R348). A pixel that returns from a mask is itself sampled from
the next flip on (R357); its sink is sampled all the same. -/
def State.litResult (s : State) (x y : Nat) (r : SampleResult) : State :=
  let p := pixelNo x y
  let probe := (s.windowOf p).isSome
  let s1 := s.onDiag fun d =>
    { d with verified := if r = .pass ∧ d.period.isSome then addNat p d.verified else d.verified
             retry := if probe && decide (r ≠ .pass) then addNat p d.retry else d.retry }
  let s2 := if s1.diag.returned.contains p then s1
    else s1.pixelSample p r (decide (r = .opened) || decide (r = .short))
  s2.sinkSample (s.driver (columnNo x y)) r

/-- One lit sample that is taken. -/
def State.litOne (s : State) (m : Sample) : State :=
  if s.litTaken m.x m.y then s.litResult m.x m.y (s.classifyLit (regionOf m.x m.y) m.reg m.v) else s

/-- The lit samples of the running slot (R338, R369). A pixel that the command does not list has REG = 1 and a voltage
within both thresholds: it passes (DESIGN CHOICE, log 30). -/
def State.litSamples (s : State) (l : List Sample) : State :=
  if s.scan.on then
    let s1 := s.advance (s.slotStart + 248 * tickLen)
    let px := s1.chargedPixels.filter fun (x, y) => s1.litTaken x y
    let rest := px.filter fun (x, y) => !l.any fun m => m.x == x && m.y == y
    rest.foldl (fun t (x, y) => t.litResult x y .pass) (l.foldl State.litOne (s1.pmc 0x30 px.length))
  else s

/-- A sink drove the column in the slot's on-window (R341): after the attic-bus change of the line-7 blanking, as it was
before it. -/
def State.servedInSlot (s : State) (n : Nat) : Bool :=
  match s.diag.before with
  | some l => !l.contains n
  | none => s.served n

/-- A dark sample of a pixel is taken in the running slot (R339): its sink conducts no current for the slot's line (R74),
because it is held off, or because neither its word nor a probe (R347) calls for a pulse. -/
def State.darkTaken (s : State) (x y : Nat) : Bool :=
  let p := pixelNo x y
  bit (s.rd .scnDiagCfg) 1 && s.columnSampled x y && s.servedInSlot (columnNo x y)
    && !s.diag.returned.contains p && s.pixelState x y != 3
    && (s.heldOff x y || (s.called x y).2 == 0)

/-- A dark sample with its result (R340, R343). -/
def State.darkResult (s : State) (x y : Nat) (r : SampleResult) : State :=
  s.pixelSample (pixelNo x y) r (decide (r = .short) || decide (r = .leak))

/-- One dark sample that is taken. -/
def State.darkOne (s : State) (m : Sample) : State :=
  if s.darkTaken m.x m.y then s.darkResult m.x m.y (s.classifyDark (regionOf m.x m.y) m.v) else s

/-- Dark samples that the running slot takes. -/
def State.darkCount (s : State) : Nat :=
  Nat.fold 64 (fun j _ acc => Nat.fold 2048 (fun x _ acc => acc + boolNat (s.darkTaken x (8 * j + s.scan.slot))) acc) 0

/-- The dark samples of the running slot (R339), latched 32 ticks before its end. A pixel that the command does not list has the
discharge level and passes (DESIGN CHOICE, log 30), which matters where its count runs. -/
def State.darkSamples (s : State) (l : List Sample) : State :=
  if s.scan.on then
    let s1 := s.advance (s.slotStart + (s.slotTicks - 32) * tickLen)
    let s2 := if s1.pmcIdle then s1 else s1.pmc 0x31 s1.darkCount
    let rest := s1.diag.pix.filter fun e =>
      s1.darkTaken (e.1 % 2048) (e.1 / 2048) && !l.any fun m => pixelNo m.x m.y == e.1
    rest.foldl (fun t e => t.darkResult (e.1 % 2048) (e.1 / 2048) .pass) (l.foldl State.darkOne s2)
  else s

/-- TIL_DIAG_STATUS of region G, RCAUSE from the register (R376). -/
def State.diagStatus (s : State) (g : Nat) : Word :=
  word (boolNat (s.samplingSuspended (dieOf g)) + 2 * boolNat (s.diag.readmit.getD g none).isSome
    + 4 * s.fld .tilDiagStatus 2 3 g)

/-! ### Host masks -/

/-- TIL_MASK_CMD of region G (R357): a FAULT cause that hardware sets in the same CK_FAB cycle stays (R22). -/
def State.maskCommand (s : State) (g xr yr : Nat) (clear : Bool) : State :=
  let p := pixelNo (1024 * (g / 8) + xr) (64 * (g % 8) + yr)
  let stay := if s.thisCycle.faults.contains p then columnCause ||| faultCause else columnCause
  s.setCauses p (if clear then s.causes p &&& stay else s.causes p ||| hostCause)

/-! ### Re-admission requests -/

/-- The unit is failed (R365). -/
def State.unitFailed (s : State) (u : Readmit) : Bool :=
  if u.attic then s.atticFailed (8 * u.tile + u.unit) else s.sinkFailed (256 * u.tile + u.unit)

/-- TIL_READMIT of region G (R365). -/
def State.readmitRequest (s : State) (g : Nat) (v : Word) : Status × State :=
  let u : Readmit := { tile := tileOfLocal g (field v 0 5), unit := field v 8 8, attic := bit v 16 }
  let cur := s.diag.readmit.getD g none
  if u.attic && decide (8 ≤ u.unit) then (.state, s)
  else if !s.unitFailed u && decide (cur ≠ some u) then (.state, s)
  else if cur.isSome then (.busy, s)
  else (.ok, s.onDiag fun d => { d with readmit := modifyAt (fun _ => some u) g d.readmit })

/-! ### Diagnostic periods and coverage -/

/-- NPC of a timing mode (R346): PERIOD ms in cycles, at least 96. -/
def npcOf (periodMs len : Nat) : Nat := max ((periodMs * 1000000 + 32 * len - 1) / (32 * len)) 96

/-- The device computes NPC (R346); SCN_DIAG_NPC keeps its value while the arrays are off (R30), and while a period runs,
whose length it is (R630) (DEDUCED, log 89). -/
def State.setNpc (s : State) : State :=
  if s.scan.on && s.diag.period.isNone then s.wr .scnDiagNpc (word (npcOf (s.fld .scnDiagCfg 16 10) s.scan.cur.len % 65536)) else s

/-- The coverage report of region G is latched (R370). -/
def State.latchRegion (s : State) (g : Nat) : State :=
  let px := s.chargedPixels.filter fun (x, y) => regionOf x y == g
  let lit := px.filter fun (x, y) => s.pixelState x y == 1
  let ver := lit.filter fun (x, y) => s.diag.verified.contains (pixelNo x y)
  let unv := px.filter fun (x, y) => s.pixelState x y == 3
  let msk := s.diag.mask.filter fun e =>
    regionOfPixel e.1 == g && s.populatedTile (tileOf (e.1 % 2048) (e.1 / 2048))
  let susp := (match dieOf g with
    | .L => s.diag.suspL
    | .R => s.diag.suspR) || s.samplingSuspended (dieOf g)
  let s1 := ((s.wr .tilCovSeq (s.rd .tilCovSeq g + 1) g).wr .tilCovLit (word lit.length) g).wr .tilCovVer
    (word ver.length) g
  ((((s1.wr .tilCovUnv (word unv.length) g).wr .tilCovMsk (word msk.length) g).wr .tilCovAbn
    (word (min (tabGet 0 s.diag.aborted g) 0x1FFFF + 2 ^ 31 * boolNat susp)) g).flag .tilDiagEvent 5 g)

/-- The running diagnostic period ends (R346, R351, R370). -/
def State.endPeriod (s : State) : State :=
  match s.diag.period with
  | none => s
  | some _ =>
    ((List.range 16).foldl (fun t g => t.latchRegion g) s).onDiag fun d =>
      { d with period := none, verified := [], aborted := [], suspL := false, suspR := false }

/-- The comparators of every region check themselves (R372); `bad` are the columns whose comparator fails. -/
def State.selfTest (s : State) (bad : List Nat) : State :=
  let bad := bad.filter (· < 131072)
  let s1 := s.onDiag fun d => { d with badComp := bad }
  (List.range 16).foldl (fun t g =>
    if bad.any fun n => regionOfColumn n == g then (t.flag .tilDiagEvent 6 g).report 0x57 g else t) s1

/-- A diagnostic period starts with the running cycle (R346). -/
def State.startPeriod (s : State) (bad : List Nat) : State :=
  (s.onDiag fun d => { d with period := some s.scan.cycle.toNat, suspL := s.samplingSuspended .L
                              suspR := s.samplingSuspended .R, verified := [], aborted := []
                              testDue := false }).selfTest bad

/-- The count of the running cycle is a multiple of NPC (R346). -/
def State.atNpc (s : State) : Bool :=
  let npc := s.fld .scnDiagNpc 0 16
  decide (npc ≠ 0) && decide (s.scan.cycle.toNat % npc = 0)

/-- The period that ends at the boundary that began the running cycle, and the one that starts there, whose length is
that of the present PERIOD (R346, R630); a self-test that the first period of an array switch-on still owes is made here
(DEDUCED, log 32, 89). -/
def State.periodBoundary (s : State) (bad : List Nat) : State :=
  let s := if s.diag.period.isSome && s.atNpc then s.endPeriod.setNpc else s
  if s.diag.period.isNone && s.atNpc then s.startPeriod bad
  else if s.diag.testDue then (s.onDiag fun d => { d with testDue := false }).selfTest bad
  else s

/-- The period that starts with the first cycle after an array switch-on (R346): the comparators check themselves
later in it (R372; DEDUCED, log 32). -/
def State.firstPeriod (s : State) : State :=
  let t := (s.onDiag fun d => { d with period := none, testDue := false }).setNpc
  if t.atNpc then (t.startPeriod []).onDiag fun d => { d with testDue := true } else t

/-- A write of SCN_DIAG_CFG has disabled a kind of sample (R342): the period and a re-admission step have met a
suspension (R368, R370). -/
def State.noteSamplesOff (s : State) : State :=
  if s.samplesOff then
    (s.onDiag fun d => { d with suspL := d.suspL || d.period.isSome, suspR := d.suspR || d.period.isSome }).onCal fun c =>
      { c with regions := c.regions.map fun r => { r with upset := r.upset || r.readmitting } }
  else s

/-! ### Probe windows -/

/-- P + e of a pixel in the running cycle. -/
def State.probeTicks (s : State) (x y : Nat) : Nat :=
  let w := s.stored x y
  wP w + stipple s.scan.cycle x y (wF w)

/-- A window opens for a pixel (R345, R347): below the minimum there is none (R349). -/
def State.probable (s : State) (x y : Nat) : Bool :=
  let w := s.stored x y
  bit (s.rd .scnDiagCfg) 2 && isProbeWord w && decide (s.pixelState x y = 1) && s.served (columnNo x y)

/-- A window that has given its probe, or has run its 64 cycles, is over. -/
def State.windowOver (s : State) (p c sum : Nat) : Bool :=
  (probePulse s.diag.apLit c sum (s.stored (p % 2048) (p / 2048))).isSome || decide (63 ≤ c)

/-- The windows that are over at a cycle boundary end, before a flip can end any (R347, R350). -/
def State.closeWindows (s : State) : State :=
  s.onDiag fun d => { d with windows := d.windows.filter fun (p, c, sum) => !s.windowOver p c sum }

/-- The windows go on to the cycle `s.scan.cycle` (R347): failed probes start again (R348), and the windows of R346
open. -/
def State.advanceWindows (s : State) : State :=
  let start (x y : Nat) : Nat × Nat × Nat := (pixelNo x y, 0, s.probeTicks x y)
  let going := s.diag.windows.map fun (p, c, sum) => (p, c + 1, sum + s.probeTicks (p % 2048) (p / 2048))
  let again := (s.diag.retry.filter fun p =>
    s.probable (p % 2048) (p / 2048) && !going.any fun e => e.1 == p).map fun p => start (p % 2048) (p / 2048)
  let opened := match s.diag.period with
    | none => []
    | some n =>
      let d := s.scan.cycle.toNat - n
      if d < 32 ∧ d % 8 = 0 then
        (s.chargedPixels.filter fun (x, y) =>
          decide (8 * ((x + 3 * y) % 4) = d) && s.probable x y
            && !(going ++ again).any fun e => e.1 == pixelNo x y).map fun (x, y) => start x y
      else []
  s.onDiag fun d => { d with windows := going ++ again ++ opened, retry := [] }

/-- Windows end without a probe (R350, R351): all of them, or those of the pixels in `ps` (DEDUCED, log 32). -/
def State.abortWindows (s : State) (ends : Nat → Bool) : State :=
  let gone := s.diag.windows.filter fun e => ends e.1
  let s1 := s.onDiag fun d => { d with windows := d.windows.filter fun e => !ends e.1 }
  gone.foldl (fun t e =>
    let g := regionOfPixel e.1
    (t.count .tilPabortCnt 0 32 1 g).onDiag fun d =>
      { d with aborted := tabSet 0 d.aborted g (tabGet 0 d.aborted g + 1) }) s1

/-- The probe pulses of line `m` of the running cycle are counted (R347, TIL_PROBE_CNT). -/
def State.countProbes (s : State) (m : Nat) : State :=
  let px := s.diag.windows.filter fun e => e.1 / 2048 % 8 == m && (s.pulse (e.1 % 2048) (e.1 / 2048)).2 != 0
  px.foldl (fun t e => t.count .tilProbeCnt 0 32 1 (regionOfPixel e.1)) (s.pmc 0x32 px.length)

/-- What a flip does to diagnostics (R343, R350, R354, R357): `old` is the state before the buffers change
(DEDUCED, log 32). -/
def State.flipDiag (s old : State) : State :=
  let s1 := s.abortWindows fun p => s.stored (p % 2048) (p / 2048) != old.stored (p % 2048) (p / 2048)
  let s2 := s1.onDiag fun d =>
    { d with holdOff := d.holdOff.filter fun p => !wMask (s.stored (p % 2048) (p / 2048))
             holdNext := [], returned := [], apLit := s.apMin }
  let moved (p : Nat) : Bool :=
    hasCurrent (s.stored (p % 2048) (p / 2048)) != hasCurrent (old.stored (p % 2048) (p / 2048))
  s2.onDiag fun d => { d with pix := (d.pix.filter fun e => moved e.1).foldl (fun l e => restartCount e.1 l) d.pix }

end Sys2Proof.Machine
end

