-- ==== Sys2Proof/Machine/Cal.lean ====
section
/-! DEFINITION. Background sink calibration and flux-monitor fall-back (R389 to R416): the plan of a round,
its steps and their arithmetic, rounds and targets, pauses, and the correction C. -/

namespace Sys2Proof.Machine

/-! ### Arithmetic -/

/-- A quotient; where the divisor is 0 the manual states none, and the value is free (DESIGN CHOICE, log 3; DEDUCED,
log 44). -/
def State.quot (s : State) (a b : Nat) : Nat × State :=
  if b = 0 then (let (w, t) := s.draw; (w.toNat, t)) else (a / b, s)

/-- The lower median (R398). -/
def lowerMedian (l : List Nat) : Nat := (sortNats l).getD ((l.length - 1) / 2) 0

/-- G of R394. -/
def stepG (m : StepSums) : Int := 3 * ((m.r3 : Int) - m.r0) + ((m.r2 : Int) - m.r1)

/-- The largest |e[k]| of R394. -/
def stepE (m : StepSums) : Nat :=
  let sum : Int := m.r0 + m.r1 + m.r2 + m.r3
  let e (r : Nat) (d : Int) : Nat := (640 * (4 * (r : Int) - sum) - 4 * d * stepG m).natAbs
  max (max (e m.r0 (-96)) (e m.r1 (-32))) (max (e m.r2 32) (e m.r3 96))

/-- The results of R395. -/
inductive StepResult where
  | pass (trim : BitVec 9)
  | limit (trim : BitVec 9)
  | lin
  | sinkFail
deriving DecidableEq, Repr

/-- The result of a step (R394, R395) for gain `m` > 0 or 0, target `t`, old trim and CAL_CFG; `tn` is the
trim that brings m to T. -/
def gradeStep (cfg : Word) (sums : StepSums) (m t : Nat) (tn : Int) : StepResult :=
  let g := stepG sums
  if !sums.regOk || decide (g ≤ 0) || decide (field cfg 16 4 * t < ((m : Int) - t).natAbs * 64) then .sinkFail
  else if (field cfg 8 8 * g.toNat) < stepE sums * 64 then .lin
  else if tn < -256 then .limit (BitVec.ofInt 9 (-256))
  else if 255 < tn then .limit 255
  else .pass (BitVec.ofInt 9 tn)

/-- The gain m of a step, its result against target `t` (none: T = m), with old trim `old` (R394, R395, R402)
(DEDUCED, log 44). -/
def State.gradeAgainst (s : State) (cfg : Word) (sums : StepSums) (t : Option Nat) (old : BitVec 9) :
    Nat × StepResult × State :=
  let g := stepG sums
  if g ≤ 0 then (0, .sinkFail, s)
  else
    let (q, s1) := s.quot (g.toNat * 65536) sums.rref
    let m := q % 2 ^ 32
    let t := t.getD m
    let (x, s2) := s1.quot ((8192 + old.toInt).toNat * t + m / 2) m
    (m, gradeStep cfg sums m t ((x : Int) - 8192), s2)

/-! ### The plan of a round -/

/-- What is measured in a step (R390): a working sink or an attic sink in REPLACE with its column, or a
parked attic sink. -/
inductive Planned where
  | working (n : Nat)
  | replaced (k n : Nat)
  | attic (k : Nat)
deriving DecidableEq, Repr

/-- The plan's entry at index `i` (R390). -/
def State.planned (s : State) (g i : Nat) : Planned :=
  if i < 8192 then
    let n := 256 * tileOfLocal g (i / 256) + i % 256
    match (groupAttics (groupOfColumn n)).find? fun k => s.attic k == .replace n with
    | some k => .replaced k n
    | none => .working n
  else .attic (8 * tileOfLocal g ((i - 8192) / 8) + (i - 8192) % 8)

/-- The attic sink that takes a column of the row group over (R391): the lowest-numbered PARKED one that has
not failed. Connections of a step that is over count as PARKED again. -/
def State.takeoverAttic (s : State) (rg : Nat) : Option Nat :=
  (groupAttics rg).find? fun k => s.attic k == .parked && !s.atticFailed k

/-- How a step stands when it comes due (R390, R538): none where no step is planned. -/
def State.due (s : State) (p : Planned) : Option Bool :=
  match p with
  | .working n =>
    some (s.populatedTile (n / 256) && !s.sinkFailed n && (s.takeoverAttic (groupOfColumn n)).isSome)
  | .replaced k n =>
    some (s.populatedTile (n / 256) && !s.atticFailed k && (s.takeoverAttic (groupOfColumn n)).isSome)
  | .attic k =>
    match s.attic k with
    | .parked =>
      some (s.populatedTile (k / 8) && !s.atticFailed k && (s.shadowColumn (k / 2)).isSome)
    | _ => none

/-- Attic sinks of the region that no running step uses return to PARKED (R392, R404). -/
def State.releaseAttics (s : State) (g : Nat) : State :=
  s.onDiag fun d => { d with attic := d.attic.filter fun e => regionOfAttic e.1 != g || (s.attic e.1).replaces }

/-- The next step that runs, after the skipped ones have been counted (R390, R404). -/
def seekStep (s : State) (g : Nat) : Nat → CalRegion → Option Nat × CalRegion
  | 0, r => (none, r)
  | fuel + 1, r =>
    if r.pos < 8448 then
      match s.due (s.planned g r.pos) with
      | some true => (some r.pos, r)
      | some false => seekStep s g fuel { r with pos := r.pos + 1, nSkip := r.nSkip + 1 }
      | none => seekStep s g fuel { r with pos := r.pos + 1 }
    else
      match r.again with
      | [] => (none, r)
      | i :: t =>
        match s.due (s.planned g i) with
        | some true => (some i, r)
        | _ => seekStep s g fuel { r with again := t, nSkip := r.nSkip + 1 }

/-- The region's next step once the running one is over: the connections of that one return (R392), so its attic sink is
PARKED again when the next step comes due. -/
def State.seek (s : State) (g : Nat) : Option Nat × CalRegion :=
  let r := s.region g
  seekStep (s.releaseAttics g) g (8449 + r.again.length) r

/-! ### Rounds -/

/-- The region's latest M_G counts in the package median of G: its IFS code is that of G (R399). -/
def State.packageMs (s : State) (g : Nat) : List Nat :=
  s.cal.regions.filterMap fun r => if r.ifs = (s.region g).ifs then r.mG else none

/-- M_P of region G (R399). -/
def State.packageMedian (s : State) (g mG : Nat) : Nat :=
  let l := s.packageMs g
  if l.length < 4 then mG else lowerMedian l

/-- T of R399. -/
def targetOf (mG mP pull : Nat) : Nat := ((mG : Int) + (((mP : Int) - mG) * pull).tdiv 256).toNat

/-- A round starts in the region at a cycle boundary, the coming one in line 7 (R399, R402, R410): a survey while it has
no M_G or when one is asked for. -/
def State.startRound (s : State) (g : Nat) (survey : Bool) : State :=
  let cfg := s.rd .calCfg
  let base (r : CalRegion) : CalRegion :=
    { r with pos := 0, step := 0, again := [], once := [], staged := [], ms := [], cfg := cfg, nPass := 0
             nOff := 0, nSkip := 0, nFail := 0, nAband := 0, nAttic := 0, stalled := false
             startCycle := if s.scan.slot = 7 then s.scan.cycle + 1 else s.scan.cycle }
  match (s.region g).mG with
  | some m =>
    if survey then s.onRegion g fun r => { base r with mode := .survey, target := none, mP := none }
    else
      let p := s.packageMedian g m
      s.onRegion g fun r =>
        { base r with mode := .round, target := some (targetOf m p (field cfg 0 8)), mP := some p }
  | none => s.onRegion g fun r => { base r with mode := .survey, target := none, mP := none }

/-- A survey or a round is open. -/
def CalRegion.running (r : CalRegion) : Bool :=
  match r.mode with
  | .survey => true
  | .round => true
  | _ => false

/-- RESULT and ROUNDS of CAL_RSTAT_G (R421). -/
def State.showRound (s : State) (g result : Nat) (completed : Bool) : State :=
  let w := setField (s.rd .calRstat g) 4 3 result
  let w := if completed then setField w 16 16 (satAdd 16 (field w 16 16) 1) else w
  s.wr .calRstat w g

/-- The counts of the completed round (R420). -/
def State.showCounts (s : State) (g : Nat) : State :=
  let r := s.region g
  ((s.wr .calRcova (word (min r.nPass 65535 + 65536 * min r.nOff 65535)) g).wr .calRcovb
    (word (min r.nSkip 65535 + 65536 * min r.nFail 65535)) g).wr .calRcovc
    (word (min r.nAband 65535 + 65536 * min r.nAttic 65535)) g

/-- The last step of a round has ended (R398, R400, R402, R403). -/
def State.roundEnd (s : State) (g : Nat) : State :=
  let r := s.region g
  let fresh := decide (1024 ≤ r.ms.length)
  let mG := if fresh then some (lowerMedian r.ms) else r.mG
  let s1 := ((s.onRegion g fun r => { r with mG := mG }).showCounts g).flag .calEvent 0
  let results (u : State) (pass : Bool) : State :=
    let w := u.rd .calResults ||| bitWord (16 + g)
    u.wr .calResults (if pass then w ||| bitWord g else w &&& ~~~bitWord g)
  match r.mode with
  | .round =>
    let drift := match r.mP, mG with
      | some p, some m => fresh && decide (field r.cfg 24 4 * p < ((m : Int) - p).natAbs * 256)
      | _, _ => false
    let fail := decide (0 < r.nOff) || !fresh || drift
    let s2 := (results (s1.showRound g (if fail then 2 else 1) true) (!fail)).onRegion g fun r =>
      { r with commit := some r.staged }
    let s3 := if drift then (s2.flag .calEvent 5).report 0x66 g else s2
    let s4 := if fail then (s3.flag .calEvent 1).report 0x60 g else s3
    s4.startRound g false
  | _ => (results (s1.showRound g 4 true) false).startRound g false

/-- An open round ends with ABORTED; its staged trims are discarded (R402 to R407). A re-admission step goes on. -/
def State.abortRound (s : State) (g : Nat) : State :=
  if (s.region g).running then
    ((if (s.region g).readmitting then s else s.stepCut g false).onRegion g fun r =>
      { r with staged := [] }).showRound g 3 false
  else s

/-- The region returns to OFF (R403, R407). -/
def State.calOff (s : State) (g : Nat) : State :=
  (s.abortRound g).onRegion g fun r => { r with mode := .off, ending := false, stepOn := r.stepOn && r.readmitting }

/-- The sense load or converter of the region is retired, or its calibration is (R403, R509). -/
def State.calStop (s : State) (g : Nat) : State :=
  let s1 := (s.abortRound g).onRegion g fun r => { r with mode := .stopped, ending := false }
  if (s1.diag.readmit.getD g none).isSome then s1.readmitFails g 4 else s1

/-- EN and the region's REN bit are set (R403, R420). -/
def State.calEnabled (s : State) (g : Nat) : Bool := bit (s.rd .calCtrl) 0 && bit (s.rd .calCtrl) (16 + g)

/-- The pause conditions of R404. -/
def State.calPaused (s : State) (d : Die) : Bool := s.dieSuspended d || s.darkLatched

/-- A write to CAL_CTRL (R403, R407): a region that is no longer enabled ends its round after the step in progress, which
may be that of a re-admission (R409). -/
def State.calCtrlSet (s : State) (v : Word) : State :=
  (List.range 16).foldl (fun t g =>
    let r := t.region g
    if t.calEnabled g || !r.running then t
    else if r.stepOn then t.onRegion g fun r => { r with ending := true }
    else t.calOff g) (s.wr .calCtrl v)

/-! ### Steps -/

/-- Trim number of a planned sink (R386). -/
def trimNo : Planned → Nat
  | .working n => 264 * (n / 256) + n % 256
  | .replaced k _ => 264 * (k / 8) + 256 + k % 8
  | .attic k => 264 * (k / 8) + 256 + k % 8

/-- A measured sink fails (R396): the attic sink that holds its column turns to REPLACE, and one in REPLACE that failed is
disconnected in the line-7 blanking (R361, R69). -/
def State.measuredFails (s : State) (p : Planned) : State :=
  match p with
  | .working n => s.sinkFails n
  | .attic k => s.atticFails k
  | .replaced k n =>
    let s1 := s.atticFails k
    match s1.holder n with
    | some h =>
      if h = k then s1 else s1.setAttic h (.replace n)
    | none => s1

/-- The plan goes on behind the step in progress. -/
def CalRegion.stepDone (r : CalRegion) : CalRegion :=
  { r with stepOn := false
           pos := if r.pos < 8448 ∧ r.step = r.pos then r.pos + 1 else r.pos
           again := if r.pos < 8448 then r.again else r.again.drop 1 }

/-- After a step: the region goes OFF (R407), or the round ends when nothing is left (R402). -/
def State.afterStep (s : State) (g : Nat) : State :=
  let r := s.region g
  if !r.running then s
  else if r.ending then s.calOff g
  else
    match s.seek g with
    | (some _, r1) => s.onRegion g fun _ => r1
    | (none, r1) => (s.onRegion g fun _ => r1).roundEnd g

/-- The counts and the staged trim of a graded step (R395, R397, R398, R401). -/
def CalRegion.graded (r : CalRegion) (p : Planned) (m : Nat) (res : StepResult) : CalRegion :=
  let round := decide (r.mode = .round)
  let working := match p with
    | .working _ => true
    | _ => false
  let attic := match p with
    | .attic _ => true
    | _ => false
  let ms := if working then r.ms ++ [m] else r.ms
  match res with
  | .pass t =>
    { r with nPass := if attic then r.nPass else r.nPass + 1
             nAttic := if attic then r.nAttic + 1 else r.nAttic
             ms := ms, staged := if round then tabSet' r.staged (trimNo p) t else r.staged }
  | .limit t =>
    { r with nOff := r.nOff + 1, ms := ms
             staged := if round then tabSet' r.staged (trimNo p) t else r.staged }
  | .lin => { r with nOff := r.nOff + 1 }
  | .sinkFail => { r with nFail := r.nFail + 1 }
where
  /-- A staged trim replaces an earlier one of its sink. -/
  tabSet' (l : List (Nat × BitVec 9)) (k : Nat) (t : BitVec 9) : List (Nat × BitVec 9) :=
    l.filter (fun e => e.1 != k) ++ [(k, t)]

/-- The re-admission step of the region ends (R367, R368, R409). -/
def State.readmitGraded (s : State) (g : Nat) (u : Readmit) (sums : StepSums) : State :=
  let r := s.region g
  let no := 264 * u.tile + (if u.attic then 256 else 0) + u.unit
  let t := match r.target with
    | some t => if r.running then some t else r.mG
    | none => r.mG
  let cfg := if r.running then r.cfg else s.rd .calCfg
  let (_, res, s1) := s.gradeAgainst cfg sums t (tabGet 0 s.cal.trims no)
  let s2 := s1.onRegion g fun r => { r with stepOn := false, readmitting := false }
  let ok (tr : BitVec 9) : State :=
    s2.onDiag fun d => { d with readmit := modifyAt (fun _ => none) g d.readmit, toRejoin := d.toRejoin ++ [(u, tr)] }
  match res with
  | .pass tr => ok tr
  | .limit tr => ok tr
  | _ => s2.readmitFails g 1

/-- Cycles since cycle 0 of the region's step. -/
def State.stepCycle (s : State) (g : Nat) : Nat := (s.scan.cycle - (s.region g).stepAt).toNat

/-- A sum of R394 of 192 samples, of which `x.2` have come: nothing states the others (DESIGN CHOICE, log 3, 44). -/
def State.wholeSum (s : State) (x : Nat × Nat) : Nat × State :=
  if 192 ≤ x.2 then (x.1, s)
  else
    let (w, t) := s.draw
    (x.1 + w.toNat % ((192 - x.2) * 16383 + 1), t)

/-- The sums of the step that ends (R394); `regOk` says that REG read 1 in every monitored slot. -/
def State.stepSums (s : State) (g : Nat) (regOk : Bool) : StepSums × State :=
  let x (k : Nat) : Nat × Nat := (s.region g).sums.getD k (0, 0)
  let (r0, s0) := s.wholeSum (x 0)
  let (r1, s1) := s0.wholeSum (x 1)
  let (r2, s2) := s1.wholeSum (x 2)
  let (r3, s3) := s2.wholeSum (x 3)
  let (rref, s4) := s3.wholeSum (x 4)
  ({ r0 := r0, r1 := r1, r2 := r2, r3 := r3, rref := rref, regOk := regOk }, s4)

/-- Cycle 7 of a step ends (R394 to R396, R402, R404, R368). -/
def State.calStepEnd (s : State) (g : Nat) (regOk : Bool) : State :=
  let r := s.region g
  let k := s.stepCycle g
  if g < 16 ∧ s.scan.on ∧ r.stepOn ∧ 7 ≤ k ∧ k < 2 ^ 63 then
    let s1 := s.advance s.decisionAt
    if r.upset || s1.calPaused (dieOf g) || (r.readmitting && s1.samplesOff) then
      (if r.readmitting then s1.readmitFails g 3 else s1.stepCut g true)
    else
      let (sums, s1) := (s1.pmc 0x33).stepSums g regOk
      if r.readmitting then
        match s1.diag.readmit.getD g none with
        | some u => s1.readmitGraded g u sums
        | none => s1
      else
        let p := s1.planned g r.step
        let (m, res, s2) := s1.gradeAgainst r.cfg sums (if r.mode = .round then r.target else none)
          (tabGet 0 s1.cal.trims (trimNo p))
        let s3 := s2.onRegion g fun r => (r.graded p m res).stepDone
        let s4 := if res = .sinkFail then s3.measuredFails p else s3
        s4.afterStep g
  else s

/-! ### The line-7 blanking -/

/-- The step `i` of the region is connected (R391, R392). -/
def State.connectStep (s : State) (g i : Nat) : State :=
  let s1 := s.onRegion g fun r =>
    { r with step := i, stepOn := true, stepAt := s.scan.cycle + 1, readmitting := false, upset := false
             sums := List.replicate 5 (0, 0) }
  match s.planned g i with
  | .working n =>
    match s.takeoverAttic (groupOfColumn n) with
    | some k => s1.setAttic k (.takeover n)
    | none => s1
  | .replaced _ n =>
    match s.takeoverAttic (groupOfColumn n) with
    | some k => s1.setAttic k (.takeover n)
    | none => s1
  | .attic k =>
    match s.shadowColumn (k / 2) with
    | some n => s1.setAttic k (.shadow n)
    | none => s1

/-- The unit under re-admission is connected (R366). -/
def State.connectReadmit (s : State) (g : Nat) (u : Readmit) : State :=
  let s1 := s.onRegion g fun r =>
    { r with stepOn := true, stepAt := s.scan.cycle + 1, readmitting := true, upset := false
             sums := List.replicate 5 (0, 0) }
  if u.attic then
    let k := 8 * u.tile + u.unit
    s1.setAttic k (.shadow ((s.shadowColumn (k / 2)).getD 0))
  else s1

/-- The region in the line-7 blanking (R391, R392, R404, R366): a step that a pause has met is abandoned, the
connections of a step that is over return, and the next step is connected. -/
def State.calLine7 (s : State) (g : Nat) : State :=
  let r := s.region g
  let paused := s.calPaused (dieOf g)
  let s1 := if r.stepOn && (r.upset || paused || (r.readmitting && s.samplesOff)) then
      (if r.readmitting then s.readmitFails g 3 else s.stepCut g true)
    else s
  if (s1.region g).stepOn then s1
  else
    let s2 := s1.releaseAttics g
    let s3 := if (s2.region g).running && (s2.region g).ending then s2.calOff g else s2
    if paused then s3
    else
      match s3.diag.readmit.getD g none with
      | some u =>
        if (s3.region g).mode = .stopped then s3.readmitFails g 4
        else if u.attic && decide (s3.attic (8 * u.tile + u.unit) ≠ .parked) then s3.readmitFails g 2
        else s3.connectReadmit g u
      | none =>
        if (s3.region g).running then
          match s3.seek g with
          | (some i, r1) => (s3.onRegion g fun _ => r1).connectStep g i
          | (none, r1) => (s3.onRegion g fun _ => r1).roundEnd g
        else s3

/-- Columns that no sink drives: of those whose working sink has failed. -/
def State.unserved (s : State) : List Nat := (s.diag.failed.map (·.1)).filter fun n => !s.served n

/-- The line-7 blanking (R69, R341): failures, replacements and rejoins first, then the steps of every region. -/
def State.line7 (s : State) : State :=
  if s.scan.on ∧ s.scan.slot = 7 then
    let s0 := s.advance (s.decisionAt + 16 * tickLen)
    let s1 := (s0.onDiag fun d => { d with before := some (d.before.getD s0.unserved) }).atticChanges
    (List.range 16).foldl (fun t g => t.calLine7 g) s1
  else s

/-! ### The cycle boundary -/

/-- A calibration commit waits for the coming boundary, or has come into force in this line-7 blanking (R90). -/
def State.calDue (s : State) : Bool := s.scan.calCommit || s.cal.regions.any fun r => r.commit.isSome

/-- The commit of a region takes effect (R388, R401, R417). -/
def State.commitTrims (s : State) (g : Nat) : State :=
  match (s.region g).commit with
  | none => s
  | some l =>
    let s1 := (s.onRegion g fun r => { r with commit := none }).onCal fun c =>
      { c with trims := l.foldl (fun t (k, v) => tabSet 0 t k v) c.trims, dirty := true }
    ((s1.count .calCommitCnt 0 32).pmc 0x34).refreshRun

/-- All commits that wait take effect. -/
def State.calCommits (s : State) : State :=
  ((List.range 16).foldl (fun t g => t.commitTrims g) s).onScan fun c => { c with calCommit := false }

/-- Surveys of enabled regions begin (R403). -/
def State.calSurveys (s : State) : State :=
  (List.range 16).foldl (fun t g =>
    if (t.region g).mode = .off && t.calEnabled g && t.domOn (arrDomain (dieOf g)) && !(t.conv g).retired
        && (decide (t.power.state = .run) || decide (t.power.state = .hold)) && !t.leaving then t.startRound g true
    else t) s

/-- A flip that changes the IFS code of a region aborts its round; a step in progress is abandoned, and a re-admission
in progress takes the region's next step again (R405, R404). -/
def State.flipIfs (s : State) (ifs : Word) : State :=
  (List.range 16).foldl (fun t g =>
    let code := field ifs (2 * g) 2
    if (t.region g).ifs = code then t
    else
      let t1 := (if (t.region g).readmitting then t.stepCut g false else t).onRegion g fun r => { r with ifs := code }
      if (t1.region g).running then
        (t1.abortRound g).startRound g true
      else t1) s

/-- A round has not ended 270,336 cycles after its start (R411). -/
def State.roundStall (s : State) (g : Nat) : State :=
  let r := s.region g
  let k := (s.scan.cycle - r.startCycle).toNat
  if g < 16 ∧ r.running ∧ !r.stalled ∧ 270336 ≤ k ∧ k < 2 ^ 63 then
    ((s.onRegion g fun r => { r with stalled := true }).flag .calEvent 6).report 0x64 g
  else s

/-- Codes of CAL_RSTAT_G.STATE (R421) (DEDUCED, log 64). -/
def State.calCode (s : State) (g : Nat) : Nat :=
  let r := s.region g
  if r.running && s.calPaused (dieOf g) then 3
  else
    match r.mode with
    | .off => 0
    | .survey => 1
    | .round => 2
    | .stopped => 4

/-- The array domain of the region's die is to switch off (R407); the connections of its step return in the next line-7
blanking, or when the domain is off (R69). -/
def State.calArrayOff (s : State) (g : Nat) : State :=
  let s1 := s.calOff g
  let s2 := if (s1.region g).readmitting then s1.readmitFails g 3 else s1
  s2.onRegion g fun r => { r with mode := if (s.region g).mode = .stopped then .stopped else .off }

/-- The array domain of the region's die switches on (R403, R420). -/
def State.calArrayOn (s : State) (g : Nat) : State :=
  let s1 := s.onRegion g fun r => { r with mode := if r.mode = .stopped then .off else r.mode }
  (s1.setFld .calRstat 16 16 0 g).wr .calResults (s1.rd .calResults &&& ~~~bitWord (16 + g))

/-! ### Flux-monitor fall-back -/

/-- Neighbours of region G (R415). -/
def regionNeighbours (g : Nat) : List Nat :=
  (if g % 8 ≠ 0 then [g - 1] else []) ++ (if g % 8 ≠ 7 then [g + 1] else []) ++ [(g + 8) % 16]

/-- The reference e_N of the counting neighbours' efficiencies (R415). -/
def referenceOf (l : List Nat) : Option Nat :=
  match sortNats l with
  | [] => none
  | [a] => some a
  | [a, b] => some ((a + b) / 2)
  | _ :: b :: _ => some b

/-- The interval of a region is valid (R414). -/
def State.fluxValid (s : State) (r : CalRegion) : Bool :=
  decide (s.fld .calFbCfg 16 16 * 1000 * r.fluxSlots ≤ r.fluxD) && !r.fluxUpset

/-- The efficiencies of an interval (R414), region by region: none where the interval is not valid
(DEDUCED, log 44). -/
def efficiencies (kG : List Nat) : Nat → List CalRegion → State → List (Option Nat) × State
  | _, [], s => ([], s)
  | g, x :: t, s =>
    if s.fluxValid x then
      let (e, s1) := s.quot (bitsOf 64 (x.fluxF * (kG.getD g 0 * 2 ^ 17 : Nat))) x.fluxD
      let (l, s2) := efficiencies kG (g + 1) t s1
      (some e :: l, s2)
    else
      let (l, s2) := efficiencies kG (g + 1) t s
      (none :: l, s2)

/-- The update of C (R416). -/
def nextC (c r step : Nat) : Nat :=
  let ct : Nat := c * r / 2 ^ 15 % 2 ^ 32
  (clampInt (c + clampInt ((ct : Int) - c) (-(step : Int)) step) 24576 40960).toNat

/-- The region at the end of an interval (R415, R416): without a counting neighbour C is held, whatever the region's own
interval is. -/
def State.fluxRegion (s : State) (effs : List (Option Nat)) (g : Nat) : State :=
  let own := effs.getD g none
  let s0 := match own with
    | some e => s.onRegion g fun r => { r with eff := some e }
    | none => s
  let r := s0.region g
  if r.fallback then
    match referenceOf ((regionNeighbours g).filterMap fun n => if (s.region n).fallback then none else effs.getD n none),
        own with
    | none, _ => s0.flag .calEvent 4
    | some _, none => s0
    | some en, some e =>
      if r.monitorRetired || (s.conv g).retired then s0
      else
        let (q, s1) := s0.quot (en * 32768 % 2 ^ 64) e
        let c := nextC r.c (q % 2 ^ 32) (s.fld .calFbCfg 8 8)
        if c = r.c then s1 else (s1.onRegion g fun r => { r with c := c }).refreshRun
  else s0

/-- A flux-monitor interval begins: its sums start at 0, and a pause condition that holds has arisen in it (R414). -/
def State.fluxBegin (s : State) : State :=
  s.onCal fun c =>
    { c with
      flux := some (s.now, s.fld .calFbCfg 0 8 * 100 * msec)
      regions := c.regions.mapIdx fun g r =>
        { r with fluxF := 0, fluxD := 0, fluxSlots := 0, fluxUpset := s.calPaused (dieOf g) } }

/-- A flux-monitor interval ends (R414 to R416). -/
def State.fluxInterval (s : State) : State :=
  match s.cal.flux with
  | none => s
  | some (t, n) =>
    let s1 := s.advance (t + n)
    let (effs, s2) := efficiencies s.boot.otp.kG 0 s1.cal.regions s1
    ((List.range 16).foldl (fun u g => u.fluxRegion effs g) s2).fluxBegin

/-! ### Samples of the region converters -/

/-- A sample of the sense load or of the package reference enters the sums of the running step (R393): measurement
slots of line `m` use code index m mod 4. -/
def State.stepSample (s : State) (g k v : Nat) : State :=
  s.onRegion g fun r => if r.stepOn then { r with sums := modifyAt (fun x => (x.1 + v, x.2 + 1)) k r.sums } else r

/-- A flux-monitor sample (R414): the on sample of a slot waits with the slot's current for its blanking sample; the
pair enters the sums of the running interval (DEDUCED, log 44). -/
def State.fluxSample (s : State) (g input m v : Nat) : State :=
  if input = 4 then s.onRegion g fun r => { r with fluxOn := some (v, s.slotCurrent g m) }
  else s.onRegion g fun r =>
    match r.fluxOn with
    | some (on, cur) =>
      { r with fluxOn := none, fluxF := r.fluxF + ((on : Int) - v), fluxD := r.fluxD + cur, fluxSlots := r.fluxSlots + 1 }
    | none => r

/-- What a scheduled conversion of region converter `g` is for, beside R427 (R393, R414, R430). -/
def State.useScheduled (s : State) (g input tick m v : Nat) : State :=
  if input = 0 then s.stepSample g (m % 4) v
  else if input = 7 ∧ tick ≠ 4736 then s.stepSample g 4 v
  else if input = 4 ∨ input = 5 then s.fluxSample g input m v
  else s

/-- CONVERSION_DONE: a conversion completes, and its corrected result goes where it is used (R393, R414, R427). -/
def State.conversionDone (s : State) (n raw : Nat) : State :=
  match (s.conv n).busy with
  | some (input, .scheduled tick m, _) =>
    (s.convDone n raw).useScheduled n input tick m (s.resultOf n (raw % (maxCodeOf n + 1)))
  | _ => s.convDone n raw

end Sys2Proof.Machine
end

