-- ==== Sys2Proof/Machine/Store.lean ====
section
/-! DEFINITION. The storeroom (R378 to R385), the settings record (R358, R418, R544, R545) and the writes of
flash that the device makes itself. -/

namespace Sys2Proof.Machine

/-! ### Flash -/

/-- Byte of the flash outside the settings, fault-log and boot-record partitions (`State.wholeFlash` has them); an erased
byte reads 0xFF (R522; log 5). -/
def State.flashByte (s : State) (a : Nat) : Byte := tabGet 0xFF s.boot.flash a

/-- Partition bases of R522. -/
def imageBase : Nat → Nat
  | 0 => 0x000000
  | 1 => 0x200000
  | 2 => 0x400000
  | _ => 0x480000

/-- Sizes of the image slots (R522). -/
def imageRoom (k : Nat) : Nat := if k < 2 then 0x200000 else 0x80000

def factoryBase : Nat := 0x500000
def mirrorBase : Nat := 0x900000
def settingsBase (b : Bool) : Nat := if b then 0xD40000 else 0xD00000
def settingsRoom : Nat := 0x40000
def logBase : Nat := 0xD80000
def logRoom : Nat := 0x100000
def customerBase : Nat := 0xE80000
def recordBase : Nat := 0x1280000
def goldenBase : Nat := 0x1290000

/-- `n` bytes of the flash from offset `a` upward. -/
def State.flashBytes (s : State) (a n : Nat) : List Byte := (List.range n).map fun i => s.flashByte (a + i)

/-- A read of `n` bytes of the flash from offset `a` meets an uncorrectable error (R524). -/
def State.flashSpoilt (s : State) (a n : Nat) : Bool :=
  s.boot.flashBad.any fun w => decide (w < a + n) && decide (a < w + 8)

/-- The flash with `n` bytes from offset `a` erased: errors in them are gone. -/
def State.flashErase (s : State) (a n : Nat) : State :=
  let out (k : Nat) : Bool := decide (k < a) || decide (a + n ≤ k)
  s.onBoot fun b => { b with flash := tabFilter out b.flash, flashBad := b.flashBad.filter out }

/-- The flash with bytes programmed from offset `a` upward: a program operation clears bits only (R552). -/
def State.flashProgram (s : State) (a : Nat) (bs : List Byte) : State :=
  s.onBoot fun b => { b with flash := bs.zipIdx.foldl (fun t (x, i) =>
    tabSet 0xFF t (a + i) (tabGet 0xFF t (a + i) &&& x)) b.flash }

/-! ### Storeroom -/

/-- The 256 KiB block at offset `a` of the flash. -/
def State.flashBlock (s : State) (a : Nat) : StoreBlock where
  fill := 0xFF
  bytes := (s.boot.flash.filter fun e => decide (a ≤ e.1) && decide (e.1 < a + 0x40000)).map fun e => (e.1 - a, e.2)

/-- The CRC-32C of a block (R379). -/
def StoreBlock.crc (b : StoreBlock) : Word := crc32c ((List.range 0x40000).map b.byte)

/-- The block of an invalid region (R381). -/
def invalidBlock : StoreBlock := { fill := 0x80, bytes := [] }

/-- The block of region G, with its source (R380): a copy that cannot be read gives way to the other (R524). -/
def State.chooseBlock (s : State) (g : Nat) : StoreBlock × StoreSource :=
  let want := s.boot.otp.blockCrc.getD g 0
  let good (a : Nat) : Bool := (s.flashBlock a).crc == want && !s.flashSpoilt a 0x40000
  let p := factoryBase + 0x40000 * g
  let m := mirrorBase + 0x40000 * g
  if good p then (s.flashBlock p, .primary) else if good m then (s.flashBlock m, .mirror) else (invalidBlock, .invalid)

/-- The block of region G is loaded (R380, R381, R413). -/
def State.loadBlock (s : State) (g : Nat) : State :=
  let (b, src) := s.chooseBlock g
  let s1 := s.onCal fun c => { c with store := modifyAt (fun _ => b) g c.store
                                      source := modifyAt (fun _ => src) g c.source }
  match src with
  | .mirror =>
    ((s1.flag .calEvent 2).report 0x61 g).onRegion g fun r => { r with leaving := r.fallback }
  | .invalid =>
    ((s1.flag .calEvent 3).report 0x62 g).onRegion g fun r =>
      { r with fallback := true, leaving := false, c := if r.fallback then r.c else 32768 }
  | _ => s1.onRegion g fun r => { r with leaving := r.fallback }

/-- A load of the whole storeroom ends (R380 to R382, R385) (DEDUCED, log 38). -/
def State.storeLoaded (s : State) : State :=
  if s.cal.loading then
    ((List.range 16).foldl (fun t g => t.loadBlock g) s).onCal fun c => { c with loading := false, loaded := true }
  else s

/-- CAL_CMD.RELOAD (R385) (DEDUCED, log 38). -/
def State.reload (s : State) : Status × State :=
  if s.power.state = .standby then (.ok, s.onCal fun c => { c with loading := true }) else (.state, s)

/-- An uncorrectable error in a storeroom read of a pass (R384). -/
def State.storeEcc (s : State) (g : Nat) : State :=
  if g < 16 ∧ s.comp.run.isSome then ((s.dropRun.flag .calEvent 8).report 0x67 g).loadBlock g else s

/-- Codes of CAL_STORE_STATE (R420). -/
def sourceCode : StoreSource → Nat
  | .notLoaded => 0
  | .primary => 1
  | .mirror => 2
  | .invalid => 3

def State.storeState (s : State) : Word :=
  word ((List.range 16).foldl (fun a g => a + sourceCode (s.cal.source.getD g .notLoaded) * 4 ^ g) 0)

/-- CAL_STATUS (R420). -/
def State.calStatus (s : State) : Word :=
  word (boolNat s.cal.loaded + 2 ^ 16 * packBits ((List.range 16).map fun g => (s.region g).fallback))

/-- CAL_STORE_ID (R382). -/
def State.calStoreId (s : State) : Word := if s.cal.loaded then storeId s.cal.store else 0

/-! ### Settings -/

/-- A copy is valid (R545): it matches its CRC, and its SETVER is at most that of the running firmware. -/
def State.copyValid (s : State) (c : Option Settings) : Bool :=
  match c with
  | some x => x.intact && decide (x.setver ≤ s.boot.fwSetver)
  | none => false

/-- The copy that a start uses (R545): the valid one with the highest WRITE_SEQ. -/
def State.chooseCopy (s : State) : Option Bool :=
  let b := s.boot
  match s.copyValid b.copyA, s.copyValid b.copyB with
  | true, true => some (decide ((b.copyA.map (·.seq)).getD 0 < (b.copyB.map (·.seq)).getD 0))
  | true, false => some false
  | false, true => some true
  | false, false => none

/-- The defaults of R544. -/
def defaultSettings : Settings where
  setver := 0
  seq := 0
  coef := []
  trims := []
  failed := []
  failedAttic := []
  attic := []
  mask := []

/-- The copy in use, the defaults where there is none. -/
def State.settings (s : State) : Settings :=
  if s.boot.defaults then defaultSettings
  else ((if s.boot.copyUsed then s.boot.copyB else s.boot.copyA).getD defaultSettings)

/-- Mask entries of the record: FAULT and HOST causes (R358, R544). -/
def State.maskEntries (s : State) : Tab (BitVec 3) :=
  s.diag.mask.filterMap fun (p, c) => if c &&& 3 = 0 then none else some (p, c &&& 3)

/-- The attic connections in REPLACE (R358). -/
def State.atticEntries (s : State) : Tab Attic :=
  s.diag.attic.filter fun e => match e.2 with
    | .replace _ => true
    | _ => false

/-- The copy that the next write goes to (R545): B is true. -/
def State.nextCopy (s : State) : Bool :=
  if s.boot.defaults then false else if s.boot.fwTrial then s.boot.copyUsed else !s.boot.copyUsed

/-! ### The boot record -/

/-- A valid copy of the boot record. -/
def goodRecord (r : Option BootRecord) : Option BootRecord := r.filter fun x => x.intact

/-- The newer valid copy of the boot record, by its sequence number (R530); B is true. -/
def State.newestRecord (s : State) : Option (Bool × BootRecord) :=
  match goodRecord s.boot.recA, goodRecord s.boot.recB with
  | some a, some b => some (if a.seq < b.seq then (true, b) else (false, a))
  | some a, none => some (false, a)
  | none, some b => some (true, b)
  | none, none => none

/-- The copy of the boot record that the next write goes to: the one that is not the newest valid one. -/
def State.nextRecord (s : State) : Bool :=
  match s.newestRecord with
  | some (b, _) => !b
  | none => false

def State.setRecord (s : State) (b : Bool) (r : Option BootRecord) : State :=
  s.onBoot fun x => if b then { x with recB := r } else { x with recA := r }

/-- The boot record is written, with the next sequence number (R522, R542, R553) (DEDUCED, log 96). -/
def State.writeRecord (s : State) : State :=
  let seq := ((s.newestRecord.map (·.2.seq)).getD 0) + 1
  s.setRecord s.nextRecord (some { seq := seq, starts := s.boot.starts, roles := s.boot.slots.map (·.role) })

/-- A write of the settings record or of the boot record that runs is cut short: the copy that it goes to is not valid
(R545). -/
def State.cutCopy (s : State) : State :=
  match s.boot.jobs with
  | [] => s
  | .bootRecord :: _ => s.onBoot fun b =>
    if s.nextRecord then { b with recB := b.recB.map fun c => { c with intact := false } }
    else { b with recA := b.recA.map fun c => { c with intact := false } }
  | _ :: _ => s.onBoot fun b =>
    if s.nextCopy then { b with copyB := b.copyB.map fun c => { c with intact := false } }
    else { b with copyA := b.copyA.map fun c => { c with intact := false } }

/-- A new copy of the record is written (R545): with the next WRITE_SEQ to the other copy, or, while the running
firmware is TRIAL, to the copy in use. `f` sets what changes. -/
def State.writeCopy (s : State) (f : Settings → Settings) : State :=
  let old := s.settings
  let new := { f old with setver := s.boot.fwSetver, seq := old.seq + 1, coef := s.adc.coef
                          version := s.boot.fwVersion, intact := true }
  let toB := s.nextCopy
  s.onBoot fun b =>
    if toB then { b with copyB := some new, copyUsed := true, defaults := false }
    else { b with copyA := some new, copyUsed := false, defaults := false }

/-- The trim image is in the settings record (R418). -/
def State.trimsWritten (s : State) : State :=
  ((s.writeCopy fun c => { c with trims := s.cal.trims }).onCal fun c =>
    { c with dirty := false, save := (s.now, s.fld .calSave 0 8 * 60000 * msec) }).flag .calEvent 7

/-- Mask causes, failed sinks and replacements are in the settings record (R358, R544). -/
def State.settingsWritten (s : State) : State :=
  let m := s.maskEntries
  let s1 := (s.writeCopy fun c =>
    { c with mask := m.take 16384, failed := s.diag.failed, failedAttic := s.diag.failedAttic
             attic := s.atticEntries }).onDiag fun d =>
      { d with unsaved := none }
  if 16384 < m.length then s1.flag .botEvent 3 else s1

/-! ### Writes of the flash -/

def State.addJob (s : State) (j : FlashJob) : State :=
  s.onBoot fun b => { b with jobs := if b.jobs.contains j then b.jobs else b.jobs ++ [j] }

/-- CAL_CMD.SAVE_NOW (R418). -/
def State.saveNow (s : State) : State := s.addJob .trims

/-- The write of the image that CAL_SAVE asks for (R418): MINUTES have passed since the last write, and a commit has
occurred since then; the write starts the time again. -/
def State.trimSaveDue (s : State) : State :=
  if s.controlOn && s.cal.dirty then (s.advance (s.cal.save.1 + s.cal.save.2)).addJob .trims else s

/-- The settings write that a change of R358 needs. -/
def State.settingsDue (s : State) : State :=
  if s.controlOn && s.diag.unsaved.isSome then s.addJob .settings else s

/-- A write of the flash is complete (DEDUCED, log 37). -/
def State.jobWritten (s : State) (j : FlashJob) : State :=
  let s1 := s.onBoot fun b => { b with jobs := b.jobs.erase j }
  match j with
  | .trims => s1.trimsWritten
  | .settings => s1.settingsWritten
  | .bootRecord => s1.writeRecord

/-! ### The partitions that the device writes -/

/-- Byte `i` of a little-endian number. -/
def leByte (n i : Nat) : Byte := BitVec.ofNat 8 (n / 256 ^ i)

/-- Bytes of a settings copy (R544): the header without its CRC-32C, which `Settings.byte` adds. -/
def Settings.body (x : Settings) (off : Nat) : Byte :=
  if off < 4 then leByte x.setver off
  else if off < 8 then leByte x.seq (off - 4)
  else if off < 12 then leByte x.version.toNat (off - 8)
  else if off < 16 then leByte 0x3D000 (off - 12)
  else if 0x40 ≤ off ∧ off < 0xA0 then
    let k := (off - 0x40) / 4
    let c := tabGet (0, 32768) x.coef (8 * (k / 6) + k % 6)
    leByte (bitsOf 16 c.1 + 65536 * (c.2 % 65536)) (off % 4)
  else if 0x1000 ≤ off ∧ off < 0x26200 then
    let bit (i : Nat) : Bool :=
      let n := i / 9
      let g := n / 8448
      let k := n % 8448
      (tabGet 0 x.trims (264 * tileOfLocal g (k / 264) + k % 264)).getLsbD (i % 9)
    BitVec.ofNat 8 (packBits ((List.range 8).map fun j => bit (8 * (off - 0x1000) + j)))
  else if 0x27000 ≤ off ∧ off < 0x2D000 then
    let t := (off - 0x27000) / 48
    let i := (off - 0x27000) % 48
    if i < 32 then
      BitVec.ofNat 8 (packBits ((List.range 8).map fun j => tabGet false x.failed (256 * t + 8 * i + j)))
    else if i = 32 then
      BitVec.ofNat 8 (packBits ((List.range 8).map fun j => tabGet false x.failedAttic (8 * t + j)))
    else if i < 41 then
      match tabGet .parked x.attic (8 * t + (i - 33)) with
      | .replace n => BitVec.ofNat 8 (n % 64)
      | _ => 0xFF
    else 0
  else if 0x2D000 ≤ off ∧ off < 0x3D000 then
    match x.mask[(off - 0x2D000) / 4]? with
    | some (p, c) =>
      let g := 8 * (p % 2048 / 1024) + p / 2048 / 64
      leByte (p % 1024 + 2 ^ 10 * (p / 2048 % 64) + 2 ^ 16 * g + 2 ^ 20 * (c &&& 3).toNat) (off % 4)
    | none => 0xFF
  else 0

/-- A byte of a settings copy (R544): its header holds the CRC-32C of the copy with that field as 0, which a copy that was
cut short or spoilt does not (DEDUCED, log 96). -/
def Settings.byte (x : Settings) (off : Nat) : Byte :=
  let crc := crc32c ((List.range 0x3D000).map x.body)
  if 16 ≤ off ∧ off < 20 then byteOf (if x.intact then crc else ~~~crc) (off - 16) else x.body off

/-- The fault-log partition (R513): the newest record lies before the head. -/
def State.logByte (s : State) (off : Nat) : Byte :=
  let age := (s.faults.ringPos + 32767 - off / 32) % 32768
  match s.faults.ring[age]? with
  | some r => byteOf (r.getD (off % 32 / 4) 0) (off % 4)
  | none => 0xFF

/-- A byte of the whole flash by its partition (R522); the settings and log partitions come from what they hold. The
manual gives no layout of a boot-record copy. -/
def State.wholeFlash (s : State) (a : Nat) : Option Byte :=
  let copy (b : Bool) : Byte :=
    match (if b then s.boot.copyB else s.boot.copyA) with
    | some x => if a - settingsBase b < 0x3D000 then x.byte (a - settingsBase b) else 0xFF
    | none => 0xFF
  if settingsBase false ≤ a ∧ a < settingsBase false + settingsRoom then some (copy false)
  else if settingsBase true ≤ a ∧ a < settingsBase true + settingsRoom then some (copy true)
  else if logBase ≤ a ∧ a < logBase + logRoom then some (s.logByte (a - logBase))
  else if recordBase ≤ a ∧ a < recordBase + 0x2000 then none
  else some (s.flashByte a)

/-- An uncorrectable error in the flash (R524): a settings or boot-record copy that it falls into is no longer valid; any
other word reads with an error until it is erased. -/
def State.flashFails (s : State) (a : Nat) : State :=
  let spoil (c : Option Settings) : Option Settings := c.map fun x => { x with intact := false }
  let lost (c : Option BootRecord) : Option BootRecord := c.map fun x => { x with intact := false }
  s.onBoot fun b =>
    if settingsBase false ≤ a ∧ a < settingsBase false + settingsRoom then { b with copyA := spoil b.copyA }
    else if settingsBase true ≤ a ∧ a < settingsBase true + settingsRoom then { b with copyB := spoil b.copyB }
    else if recordBase ≤ a ∧ a < recordBase + 0x1000 then { b with recA := lost b.recA }
    else if recordBase + 0x1000 ≤ a ∧ a < recordBase + 0x2000 then { b with recB := lost b.recB }
    else { b with flashBad := addNat (a / 8 * 8) b.flashBad }

/-! ### Restoration -/

/-- The trim image is restored (R418): the record's trims, or all 0. -/
def State.restoreTrims (s : State) : State :=
  s.onCal fun c => { c with trims := s.settings.trims, restored := true, dirty := false }

/-- CAL_TRIM_ID_G (R387, R420): 0 until the trim image has been restored. -/
def State.calTrimId (s : State) (g : Nat) : Word := if s.cal.restored then trimId s.cal.trims g else 0

/-- A failed column without a sink waits for a replacement, or its pixels are masked and its tile is DEGRADED (R359,
R364, R371). -/
def State.restoreColumn (s : State) (n : Nat) : State :=
  if (s.holder n).isSome then s
  else if (s.chooseAttic (groupOfColumn n)).isSome then
    s.onDiag fun d => { d with toReplace := d.toReplace ++ [(n, false)] }
  else s.loseColumn n

/-- Mask causes, failed sinks and replacements are restored (R358, phase H of R530); a region whose masked pixels then
exceed MASKMAX is reported (R371). -/
def State.restoreDiag (s : State) : State :=
  let r := s.settings
  let s1 := s.onDiag fun d =>
    { d with mask := r.mask, failed := r.failed, failedAttic := r.failedAttic, attic := r.attic }
  let s2 := (List.range 16).foldl (fun t g => if t.maskMax < t.maskedIn g then t.report 0x56 g else t) s1
  r.failed.foldl (fun t e => t.restoreColumn e.1) s2

/-- The user coefficients are taken from the record (R444). -/
def State.restoreCoef (s : State) : State :=
  let s1 := s.onAdc fun a => { a with coef := s.settings.coef }
  if s.boot.defaults then
    let s2 := s1.flag .adcEvent 6
    if s.boot.copyA.isSome || s.boot.copyB.isSome then s2.report 0x6D else s2
  else s1

/-- Phase E is complete (R530): the settings record has been read. -/
def State.settingsRead (s : State) : Bool :=
  match s.power.stage with
  | .phase .f => true
  | .phase .g => true
  | .phase .h => true
  | .complete => true
  | _ => false

/-- BOT_SET_STAT (R553): 0 until the record has been read (R529, R612). -/
def State.setStat (s : State) : Word :=
  if !s.settingsRead then 0
  else word (s.settings.setver % 65536 + 2 ^ 16 * boolNat (s.boot.copyUsed && !s.boot.defaults)
    + 2 ^ 17 * boolNat s.boot.migrated + 2 ^ 18 * boolNat s.boot.defaults)

end Sys2Proof.Machine
end

