-- ==== Sys2Proof/Machine/Power.lean ====
section
/-! DEFINITION. Power states (R453 to R464): requests and refusers, the entries to RUN, STANDBY, HOLD and SLEEP,
domains that switch, the answers of the rails, and relighting (R500). -/

namespace Sys2Proof.Machine

/-! ### Transitions -/

def State.setTrans (s : State) (t : Option Transition) : State := s.onPower fun w => { w with trans := t }

/-- The transition in progress goes on to step `k`. -/
def State.transStep (s : State) (k : Nat) : State :=
  s.onPower fun w => { w with trans := match w.trans with
    | some t => some { t with step := k }
    | none => none }

/-- A transition to `x` is in progress and stands at step `k`. -/
def State.inStep (s : State) (x : PowerState) (k : Nat) : Bool :=
  match s.power.trans with
  | some t => decide (t.target = x) && decide (t.step = k)
  | none => false

/-- PWR_LAST_REFUSE and PWR_REFCNT_t_r (R462). -/
def State.noteRefusal (s : State) (x : PowerState) (code : Nat) (p : Port) (abort : Bool) : State :=
  let s1 := match x with
    | .sleep => s.count .pwrRefcnt 0 16 1 0 (code - 1)
    | .standby => s.count .pwrRefcnt 0 16 1 1 (code - 1)
    | _ => s
  s1.wr .pwrLastRefuse (word (code + 16 * powerCode x + 256 * boolNat abort + 512 * portIx p))

/-- An entry aborts (R461, R460): the device is in `source` again. -/
def State.abortEntry (s : State) (t : Transition) (code : Nat) (source : PowerState) : State :=
  ((s.noteRefusal t.target code t.port true).flag .pwrEvent 0).powerIs source

/-! ### Array domains -/

/-- Both buffers of every tile store are cleared to 0 (R460, R500). -/
def State.clearBuffers (s : State) : State := s.onScan fun c => { c with buf0 := {}, buf1 := {} }

/-- The array domains switch off (R459, R407, R288): the scan and the region converters stop. A SYNCOUT pulse in progress
ends (DESIGN CHOICE, log 110); the fields of SCN_STATUS stay (R30). -/
def State.arraysOff (s : State) : State :=
  let s1 := s.onPower fun w => { w with doms := w.doms &&& 0x3F, rising := w.rising &&& 0x3F }
  let s2 := s1.onScan fun c =>
    { c with on := false, replay := false, flipPend := false, syncout := false, lastEdge := none
             badSpacing := 0, badPhase := 0, stretchDue := none, stretching := none, stretched := false, delta := 0
             deltaDue := none }
  let s3 := (s2.onAdc fun a =>
    { a with convs := a.convs.mapIdx fun n c => if n < 16 then { c with busy := none } else c }).groupCut (· < 16)
  let s4 := (List.range 16).foldl (fun t g => t.releaseAttics g) s3
  let s5 := (s4.onDiag fun d =>
    { d with windows := [], retry := [], period := none, testDue := false, before := none }).onCal fun c =>
    { c with flux := none }
  ((s5.onComp fun c => { c with cand := none, fbAtFlip := false }).onGuard fun g =>
    { g with darkWait := false }).onPower fun w => { w with relightStep := 0 }

/-- The scan starts dark in the timing of SCN_TMODE.RUN and SCN_BLANK (R460, R30, R114), and with it a flux-monitor
interval (R414) and, where the cycle count is a multiple of NPC, a diagnostic period (R346). A follower begins in FREE_RUN
(DESIGN CHOICE, log 110). -/
def State.scanStart (s : State) : State :=
  let s1 := s.clearBuffers.onScan fun c =>
    { c with on := true, slot := 0, cycleStart := s.now, cur := s.runTiming, flipPend := false, calCommit := false
             replay := false, sync := .freeRun, conducted := 0 }
  let s2 := (s1.onCal fun c =>
    { c with regions := c.regions.mapIdx fun g r =>
        { r with ifs := field (s.rd .scnIfs) (2 * g) 2, fluxOn := none } }).fluxBegin
  (s2.takeDelays.onComp fun c => { c with noWait := true }).firstPeriod

/-- PO1 switches on where R486 and R487 allow it. -/
def State.tryPo1 (s : State) : State := if s.po1Ok then s.po1On else s

/-- Rails 2 and 3 are set to 2,700 mV (R460, R500). -/
def State.presetRails (s : State) : State := (s.railAsk 2 2700 .preset).railAsk 3 2700 .preset

/-! ### Entry to RUN -/

/-- No request is outstanding or waits on rail `k`. -/
def State.railIdle (s : State) (k : Nat) : Bool := (s.rail k).req.isNone && (s.rail k).next.isNone

/-- An entry sends the Power Mode write of its rail once the requests made before on that rail have ended: rail 1 for step
1 of R460, rail 0 for step 5 of R463 (DEDUCED, log 116). -/
def State.entryRail (s : State) : State :=
  if s.inStep .run 0 && s.railIdle 1 then (s.transStep 1).railSend 1 (some true) 0 .entry
  else if s.inStep .sleep 4 && s.railIdle 0 then (s.transStep 5).railSend 0 (some false) 0 .entry
  else s

/-- Entry to RUN from STANDBY begins (R460, step 1) (DEDUCED, log 38). -/
def State.enterRun (s : State) (p : Port) : State :=
  (s.setTrans (some { target := .run, source := .standby, port := p, step := 0 })).entryRail

/-- Step 2 of R460: the array domains begin to switch on; the fallback bank holds the pattern (R190)
(DEDUCED, log 38). -/
def State.runArrays (s : State) : State :=
  let s1 := (s.transStep 2).onPower fun w => { w with rising := w.rising ||| 0xC0 }
  match s1.boot.plate with
  | some pl => s1.reloadPattern pl
  | none => s1

/-- Step 3 of R460: both array domains are on. -/
def State.runLight (s : State) : State := ((s.scanStart.transStep 3).tryPo1).presetRails

/-- The entry to RUN ends in STANDBY with rail 1 switched off (R460, R531). -/
def State.runFails (s : State) : State := s.arraysOff.railSend 1 (some false) 0 .other

/-- A rail-1 request of the entry has failed (R460). -/
def State.abortRun (s : State) (t : Transition) : State := s.runFails.abortEntry t 7 .standby

/-- A sequencer does not load (R531): the device returns to STANDBY (DEDUCED, log 34). -/
def State.sequencerFails (s : State) : State :=
  let s1 := (s.runFails.flag .botEvent 1)
  if s.power.state = .standby then s1.powerIs .standby else s1

/-! ### Entry to STANDBY -/

/-- A request for STANDBY is accepted (R459): step 1 awaits the next cycle boundary. -/
def State.enterStandby (s : State) (p : Port) : State :=
  s.setTrans (some { target := .standby, source := s.power.state, port := p, step := 1 })

/-- Step 4 of R459: rail 1 is switched off (DEDUCED, log 34). -/
def State.standbyRail (s : State) : State :=
  if s.inStep .standby 2 && !s.guard.po1.cmd then (s.transStep 3).railSend 1 (some false) 0 .entry else s

/-- The boundary of step 1 of R459: every sink off, open rounds end, PO1 loses its condition
(DEDUCED, log 34, 35). -/
def State.standbyDark (s : State) : State :=
  if s.inStep .standby 1 then
    let s1 := (s.transStep 2).onComp fun c =>
      { c with cand := none, fbAtFlip := false
               run := match c.run with
                 | some r => some { r with dropped := true }
                 | none => none }
    let s2 := s1.onScan fun c => { c with flipPend := false, replay := false }
    let s3 := (List.range 16).foldl (fun t g => t.calArrayOff g) s2
    s3.guardOutputs.standbyRail
  else s

/-- Step 5 of R459: STANDBY is entered, and lanes that HOLD had parked enter CHECK (R329) (DEDUCED, log 34). -/
def State.standbyDone (s : State) : State :=
  ((s.arraysOff.powerIs .standby).lanesUnhold .A).lanesUnhold .B

/-- The entry to STANDBY aborts (R459, R461): the source state with the array dark, to relight under R500. -/
def State.abortStandby (s : State) (t : Transition) : State :=
  let s1 := (s.abortEntry t 7 t.source).onGuard fun g => { g with darkWait := true }
  let s2 := s1.onScan fun c => { c with replay := decide (t.source = .hold) }
  if t.leave && decide (t.source = .hold) then s2.exitHold else s2

/-! ### Entry to HOLD -/

/-- The timing of SCN_TMODE.HOLD and SCN_BLANK. -/
def State.holdTiming (s : State) : Timing := { mode := s.fld .scnTmode 2 2, blank := s.fld .scnBlank 0 11 }

/-- A request for HOLD is accepted (R94, R458, R88). A pass that runs, and a candidate that waits, may still flip in
HOLD (DEDUCED, log 35; DESIGN CHOICE, log 70). -/
def State.enterHoldRequest (s : State) (p : Port) : State :=
  let same := match s.scan.flips with
    | r :: _ => decide (r.frame.timing = s.holdTiming)
    | [] => false
  if same && decide (s.fld .scnTmode 0 2 = s.fld .scnTmode 2 2) then
    (s.onScan fun c => { c with pendHold := none }).enterHold
  else s.setTrans (some { target := .hold, source := .run, port := p, step := 1 })

/-! ### Entry to SLEEP -/

/-- The PHY domain of a port switches off; its link goes down with cause 7 (R480, R463). -/
def State.phyOff (s : State) (p : Port) : State :=
  let b := domBit (phyDomain p)
  let s1 := s.onPower fun w =>
    { w with doms := w.doms &&& ~~~((1 : BitVec 8) <<< b), rising := w.rising &&& ~~~((1 : BitVec 8) <<< b) }
  s1.linkOff p 7

/-- The PHY domain of a port begins to switch on, unless PWR_PHY_CTRL keeps it off. -/
def State.phyOn (s : State) (p : Port) : State :=
  if bit (s.rd .pwrPhyCtrl) (portIx p) || s.domOn (phyDomain p) then s
  else s.onPower fun w => { w with rising := w.rising ||| ((1 : BitVec 8) <<< domBit (phyDomain p)) }

/-- A request for SLEEP is accepted (R463, step 2). -/
def State.enterSleepRequest (s : State) (p : Port) : State :=
  ((s.setTrans (some { target := .sleep, source := .standby, port := p, step := 2 })).addJob .trims).addJob .settings

/-- Steps 3 to 5 of R463, once the writes of step 2, the fault log (R514) and an operation of the customer area
(R552) are complete (DEDUCED, log 39). -/
def State.sleepProceed (s : State) : State :=
  if s.inStep .sleep 2 && !s.boot.jobs.contains .trims && !s.boot.jobs.contains .settings && s.boot.cust.isNone
      && s.faults.buffer.isEmpty then
    let s1 := (s.phyOff .A).phyOff .B
    let s2 := s1.onPower fun w =>
      { w with retain := BitVec.ofNat 8 (s.fld .pwrRet 0 8), wakeCfg := s.rd .pwrWakeCfg }
    (s2.transStep 4).entryRail
  else s

/-- VCORE has collapsed: the device is in SLEEP (R463, R454). The guardian's watch is not armed, and a request that waited
on rail 0 goes with the power manager (DEDUCED, log 116). -/
def State.asleep (s : State) : State :=
  let s1 := (s.onRail 0 fun r => { r with next := none }).onPower fun w =>
    { w with state := .sleep, trans := none, stage := .idle, doms := 0, rising := 0, cpuRun := false, hbSent := none
             refClock := false, pll := false
             banks := (List.range 8).map fun b => if w.retain.getLsbD b then .retained else .off }
  s1.onGuard fun g => { g with armed := false, hbTimer := none }

/-- The request is the one that an entry has sent. -/
def RailReq.ofEntry (q : RailReq) : Bool := decide (q.why = .entry)

/-- An entry to SLEEP aborts (R461, R463): of the requests on rail 0 only its own is given up, and one that waited for it
is sent (DEDUCED, log 39, 116). -/
def State.abortSleep (s : State) (t : Transition) (code : Nat) : State :=
  let s1 := s.onRail 0 fun r => { r with req := r.req.filter (!·.ofEntry) }
  let s2 := if 3 ≤ t.step then (s1.phyOn .A).phyOn .B else s1
  (s2.abortEntry t code .standby).railNext 0

/-! ### Requests -/

/-- A wake source is enabled (R457). -/
def State.wakeEnabled (s : State) : Bool :=
  decide (s.fld .pwrWakeCfg 0 2 ≠ 0) || decide (s.fld .pwrWakeCfg 4 4 ≠ 0)

/-- The step in progress of region G is the last of its round (R461, code 0x4). -/
def State.lastStep (s : State) (g : Nat) : Bool :=
  let r := s.region g
  r.running && r.stepOn && !r.readmitting
    && (seekStep (s.releaseAttics g) g (8449 + r.again.length) r.stepDone).1.isNone

/-- An off-pulse test is in progress (R489, R490). -/
def Output.testing (o : Output) : Bool := o.pulse || o.verify

/-- A write of an update or of an activation is in progress. -/
def State.updateWrites (s : State) : Bool :=
  let busy (x : Option Session) : Bool :=
    match x with
    | some u => u.erasing || !u.buffer.isEmpty
    | none => false
  busy s.boot.sessionFw || busy s.boot.sessionPl || s.boot.jobs.contains .bootRecord

/-- The lowest refuser of R461 that answers BUSY. -/
def State.refuser (s : State) (x : PowerState) : Option Nat :=
  let sleep := decide (x = .sleep)
  let g := s.guard
  if sleep && ((s.owner 2).isSome || s.updateWrites) then some 2
  else if sleep && s.darkLatched then some 3
  else if (sleep && (s.boot.jobs.contains .trims || s.boot.jobs.contains .settings))
      || (!sleep && (List.range 16).any s.lastStep) then some 4
  else if g.sia.timer.isSome || g.sib.timer.isSome || g.po1.testing || g.po2.testing
      || (sleep && (g.po2.cmd || g.po2.rb)) then some 5
  else none

/-- R456 allows the target from the present state. -/
def allowedMove : PowerState → PowerState → Bool
  | .standby, .run => true
  | .standby, .sleep => true
  | .run, .standby => true
  | .run, .hold => true
  | .hold, .standby => true
  | .hold, .run => true
  | _, _ => false

/-- An accepted request for another state. -/
def State.beginMove (s : State) (p : Port) (x : PowerState) : State :=
  match x with
  | .run => if s.power.state = .hold then s.exitHold else s.enterRun p
  | .hold => s.enterHoldRequest p
  | .standby => s.enterStandby p
  | .sleep => s.enterSleepRequest p
  | .off => s

/-- A write to PWR_REQ (R456, R457, R461), in the order of R25. -/
def State.powerRequest (s : State) (p : Port) (x : PowerState) : Status × State :=
  let busy := s.power.trans.isSome
  let entry := (decide (x = .sleep) || decide (x = .standby)) && !busy && allowedMove s.power.state x
  if !busy && decide (x = .run) && s.boot.plate.isNone then (.notPlated, s)
  else
    match s.gate p 0 with
    | some .semHeld =>
      (.semHeld, if entry then (s.noteRefusal x 1 p false).flag .pwrEvent 1 else s)
    | some st => (st, s)
    | none =>
      if busy then (.busy, s)
      else if x = s.power.state then (.ok, s)
      else if !allowedMove s.power.state x then (.state, s)
      else if x = .sleep ∧ s.wakeEnabled = false then (.state, s)
      else
        match if entry then s.refuser x else none with
        | some c => (.busy, (s.noteRefusal x c p false).flag .pwrEvent 1)
        | none => (.ok, s.beginMove p x)

/-- PWR_STATE.DOMAINS: the array domains are on for the self-tests that cover them too (R481, R550)
(DEDUCED, log 62). -/
def State.domainsShown (s : State) : BitVec 8 :=
  match s.boot.bist with
  | some g =>
    s.power.doms ||| (if g.getLsbD 1 || g.getLsbD 7 then 0x40 else 0) ||| (if g.getLsbD 2 || g.getLsbD 7 then 0x80 else 0)
  | none => s.power.doms

/-- PWR_STATE (R481). After the register reset DOMAINS reads 0x00 (R612) (DEDUCED, log 115). -/
def State.pwrState (s : State) : Word :=
  let (t, b) := match s.power.trans with
    | some t => (powerCode t.target, 1)
    | none => (0, 0)
  word (powerCode s.power.state + 16 * t + 256 * b + 2 ^ 16 * if s.justReset then 0 else s.domainsShown.toNat)

/-! ### Relighting -/

/-- PO1's conditions hold again (R500, step 1): PO1 switches on and reads on, and rails 2 and 3 are set. -/
def State.relight (s : State) : State :=
  if s.po1Ok && (s.guard.darkWait || !s.guard.po1.cmd) && decide (s.power.relightStep = 0) && !s.guard.po2.rb then
    let s1 := s.po1On
    if s1.guard.po1.rb then
      (((s1.onGuard fun g => { g with darkWait := false }).onPower fun w => { w with relightStep := 2 })).presetRails
    else s1
  else s

/-- Step 3 of R500, once the requests of step 2 have ended: the buffers are cleared and the first pass waits for
the next pass start point only. -/
def State.relitRails (s : State) : State :=
  let busy (k : Nat) : Bool :=
    match (s.rail k).req with
    | some q => decide (q.why = .preset)
    | none => false
  let waits (k : Nat) : Bool :=
    match (s.rail k).next with
    | some (_, w) => decide (w = .preset)
    | none => false
  if s.power.relightStep = 2 ∧ !busy 2 ∧ !busy 3 ∧ !waits 2 ∧ !waits 3 then
    (s.clearBuffers.onPower fun w => { w with relightStep := 0 }).onComp fun c => { c with noWait := true }
  else s

/-! ### Steps 1 to 3 of a start -/

/-- Step 1 of R476: the guardian switches rail 0 on and then writes its target. -/
def State.railUp (s : State) : State := s.railSend 0 (some true) 0 .wake

/-- The target of rail 0 in step 1 (R467): PWR_VCORE_OFS reads 0 after the reset that the start is (DEDUCED, log 95). -/
def State.vcoreTarget (s : State) : Nat := min 900 s.boot.otp.speed

/-- Step `n` of 1 to 3 is complete (R476): rail 0 is at its target, the oscillator is ready, the PLL is locked. -/
def State.stepNext (s : State) (n : Nat) : State :=
  let v := s.vcoreTarget
  let s1 := if n = 1 then s.onRail 0 fun r => { r with on := true, acked := v, req := none, next := none } else s
  s1.onPower fun w =>
    { w with stage := .step (n + 1) 0, stepAt := s.now, refClock := w.refClock || decide (n = 2)
             pll := w.pll || decide (n = 3) }

/-- The guardian releases SCL and withholds the acknowledge of the next byte (R474, R477). -/
def State.sclGiveUp (s : State) (p : Port) : State :=
  if (s.port p).sclHeld then s.onPort p fun x => { x with sclHeld := false, busNack := true } else s

/-- Step 1, 2 or 3 fails (R477, R530): the oscillator and the PLL are disabled, and rail 0 is switched off
(DEDUCED, log 49). -/
def State.stepFails (s : State) (n : Nat) : State :=
  let s1 := (s.setFld .pwrWakeStat 4 2 n).count .pwrWakeCnt 16 16
  let s2 := ((s1.sclGiveUp .A).sclGiveUp .B).avsWrite 0 (some false) 0
  s2.onPower fun w =>
    { w with rails := [{}, {}, {}, {}], stepAt := s.now, wakeFailed := w.wakeFailed || w.wake, refClock := false
             pll := false, stage := if w.wake then .idle else .retry }

/-- An attempt of step `n` fails, after `tries` that failed before it (R476): the step is repeated from its start up to
three times. -/
def State.attemptFails (s : State) (n tries : Nat) : State :=
  if tries < 3 then
    let s1 := s.onPower fun w => { w with stage := .step n (tries + 1), stepAt := s.now }
    let s2 := if n = 1 then s1.railUp else s1
    if s.power.wake then s2.count .pwrWakeStat 16 8 else s2
  else s.stepFails n

/-- Timeout of an attempt of a step (R476). -/
def stepTimeout : Nat → Nat
  | 1 => 2 * msec
  | 2 => 5 * msec
  | _ => msec

/-- An attempt of a step times out (R476). -/
def State.stepTimesOut (s : State) : State :=
  match s.power.stage with
  | .step n tries =>
    let s1 := s.advance (s.power.stepAt + stepTimeout n)
    if n < 4 then (if n = 1 then s1.railCountFail 0 false else s1).attemptFails n tries else s
  | _ => s

/-- A request of step 1 is acknowledged (R466, R476): the Voltage write follows Power Mode (on), and its acknowledgement
completes the step. -/
def State.wakeAcked (s : State) (q : RailReq) : State :=
  match s.power.stage with
  | .step 1 _ => if q.power.isSome then (s.railTake 0 q).railSend 0 none s.vcoreTarget .wake else s.stepNext 1
  | _ => s

/-- A request of step 1 fails with NACK (R469, R476): the attempt fails. -/
def State.wakeNacked (s : State) : State :=
  match s.power.stage with
  | .step 1 tries => (s.railCountFail 0 true).attemptFails 1 tries
  | _ => s

/-! ### Answers of the rails -/

/-- An entry goes on after an acknowledged request (R460, R459, R463). -/
def State.entryAcked (s : State) (k : Nat) (q : RailReq) : State :=
  if q.why = .entry then
    match s.power.trans with
    | none => s
    | some t =>
      match t.target with
      | .run =>
        if k = 1 ∧ t.step = 1 then (if q.power.isSome then s.railSend 1 none 900 .entry else s.runArrays) else s
      | .standby => if k = 1 ∧ t.step = 3 then s.standbyDone else s
      | .sleep => if k = 0 ∧ t.step = 5 then s.asleep else s
      | _ => s
  else s

/-- The outstanding request of rail `k` is acknowledged (R468, R146 to R148). -/
def State.railAck (s : State) (k : Nat) : State :=
  match (s.rail k).req with
  | none => s
  | some q =>
    if q.why = .wake then s.wakeAcked q
    else (((((s.railTake k q).entryAcked k q).railNext k).entryRail).relitRails).lateCheck

/-- A request of an entry sequence has failed four times (R469). -/
def State.entryFails (s : State) (k : Nat) (nack : Bool) (t : Transition) : State :=
  let s1 := ((s.onRail k fun r => { r with req := none }).flag .pwrEvent 5).report (railSource k nack).1
    (railSource k nack).2
  match t.target with
  | .run => s1.abortRun t
  | .standby => s1.abortStandby t
  | .sleep => s1.abortSleep t 7
  | _ => s1

/-- An attempt of the outstanding request fails (R468, R469). -/
def State.railFail (s : State) (k : Nat) (nack : Bool) : State :=
  match (s.rail k).req with
  | none => s
  | some q =>
    if q.why = .wake then s.wakeNacked
    else
    let s1 := s.railCountFail k nack
    if q.fails < 3 then s1.railAgain k (q.fails + 1)
    else
      match q.why, s1.power.trans with
      | .entry, some t => s1.entryFails k nack t
      | _, _ => (((s1.railGivesUp k nack q).railNext k).entryRail).relitRails

/-- AVS_ACKNOWLEDGE, AVS_NACK, AVS_TIMEOUT on a rail; a timeout falls 2 ms after the write (R468). -/
def State.railTimeout (s : State) (k : Nat) : State :=
  match (s.rail k).req with
  | none => s
  | some q => if q.why = .wake then s.stepTimesOut else (s.advance (q.sent + 2 * msec)).railFail k false

/-- A Status read, every 20 µs after the write (R468): with VDone the request is acknowledged. -/
def State.railPoll (s : State) (k : Nat) (vdone : Bool) : State :=
  match (s.rail k).req with
  | none => s
  | some q =>
    let t := q.sent + 20 * usec * ((s.now - q.sent) / (20 * usec) + 1)
    if q.sent + 2 * msec < t then s
    else
      let s1 := (s.advance t).avsFrame k .status none
      if vdone then s1.railAck k else s1

/-- A write to PWR_VCORE_OFS sends a rail-0 request at once (R467, R481). -/
def State.vcoreSet (s : State) (v : Word) : State :=
  let s1 := s.wr .pwrVcoreOfs v
  s1.railAsk 0 (min 900 (s1.boot.otp.speed + field v 0 8)) .other

/-! ### Domains -/

/-- A write to PWR_PHY_CTRL (R480). -/
def State.phyCtrl (s : State) (v : Word) : State :=
  let old := s.rd .pwrPhyCtrl
  let s1 := s.wr .pwrPhyCtrl v
  [Port.A, Port.B].foldl (fun t p =>
    let i := portIx p
    if bit v i && !bit old i then t.phyOff p else if !bit v i && bit old i then t.phyOn p else t) s1

/-- The array domain of a die has switched on (R432, R403, R420, R509). -/
def State.arrayOn (s : State) (d : Die) : State :=
  let gs := (List.range 8).map fun i => 8 * dieIx d + i
  let s1 := gs.foldl (fun t g => (t.convOnAgain g).calArrayOn g) s
  s1.onDiag fun x => { x with retiredComp := x.retiredComp.filter fun n => dieOf (regionOfColumn n) != d }

/-- A power domain ends its switch-on sequence (R288, R465, R531). -/
def State.domainOn (s : State) (d : Domain) (seqOk : Bool) : State :=
  let b := domBit d
  if s.power.rising.getLsbD b then
    let m : BitVec 8 := (1 : BitVec 8) <<< b
    let s0 := s.onPower fun w =>
      { w with doms := w.doms ||| m, rising := w.rising &&& ~~~m
               banks := if d = .cellar then List.replicate 8 .on else w.banks }
    let s1 := { s0 with cyc := { s.thisCycle with rose := s.thisCycle.rose ||| m } }
    match d with
    | .phyA => s1.linkOn .A
    | .phyB => s1.linkOn .B
    | .arrL => if seqOk then (let t := s1.arrayOn .L; if t.domOn .arrR && t.inStep .run 2 then t.runLight else t)
      else s1.sequencerFails
    | .arrR => if seqOk then (let t := s1.arrayOn .R; if t.domOn .arrL && t.inStep .run 2 then t.runLight else t)
      else s1.sequencerFails
    | _ => s1
  else s

end Sys2Proof.Machine
end

