-- ==== Sys2Proof/Machine/Scan.lean ====
section
/-! DEFINITION. The scan engine (R66 to R114): slots, the decision point, the cycle boundary with its flip (R57,
R81 to R96), the timebase wires (R97), synchronisation (R98 to R108) and the die-to-die buses (R85). -/

namespace Sys2Proof.Machine

/-! ### Slots -/

/-- Pulses of the running slot that are cut at W (R75): words that the array holds beside its frame. -/
def State.clampedPulses (s : State) : Nat :=
  (s.activeBuffer.words.filter fun e =>
    let i := e.1 % 2048
    let (x, y) := pixelOf (e.1 / 2048) (i / 256) (i % 256)
    decide (i / 256 = s.scan.slot) && !wMask e.2 && decide (wA e.2 ≠ 0)
      && decide (s.scan.cur.window < wP e.2 + stipple s.scan.cycle x y (wF e.2))).length

/-- The sinks of the running slot light (R72 to R75, R347). -/
def State.lightSlot (s : State) : State :=
  let n := if s.sinksOff then 0 else s.clampedPulses
  let s1 := s.countProbes s.scan.slot
  if n = 0 then s1 else (s1.flag .scnEvent 3).count .scnPclampCnt 0 32 n

/-- Die R compares the two wires of the timebase (R97) (DEDUCED, log 36). -/
def State.compareWires (s : State) (w0 w1 within : Bool) : State :=
  if !s.scan.scanLock then s
  else
    let ok0 := s.scan.wire0 && w0
    let ok1 := s.scan.wire1 && w1
    let s1 := s.onScan fun c => { c with wire0 := ok0, wire1 := ok1 }
    if (!ok0 && !ok1) || !within then (s1.onScan fun c => { c with scanLock := false }).report 0x59
    else if (s.scan.wire0 && !ok0) || (s.scan.wire1 && !ok1) then s1.report 0x58
    else s1

/-- What a slot leaves behind at its end: the regions of which a sink conducted in it (R425), the flux-monitor samples
that the hold stages hold (R431), and the hold-off of the pixels whose failure it confirmed (R354). -/
def State.slotEnds (s : State) : State :=
  let w := s.scan.cur.window
  let r := s.conductingRegions
  ((s.onDiag fun d => { d with holdOff := d.holdNext.foldl (fun l p => addNat p l) d.holdOff, holdNext := [] }).onScan fun c => { c with conducted := r }).onAdc fun a =>
    { a with holdOn := s.slotStart + w / 2 * tickLen, holdBlank := s.slotStart + (w + 16) * tickLen }

/-- A line slot ends and the next one begins (R72, R97). The slot of line 0 begins with the cycle boundary; at the
end of line 7 only the wires are compared (DEDUCED, log 36). -/
def State.slotBoundary (s : State) (w0 w1 within : Bool) : State :=
  if !s.scan.on then s
  else if s.scan.slot < 7 then
    let s1 := (s.advance (s.slotStart + s.scan.cur.len * tickLen)).slotEnds.onScan fun c => { c with slot := c.slot + 1 }
    (s1.compareWires w0 w1 within).lightSlot
  else s.compareWires w0 w1 within

/-! ### Row switches -/

/-- The present tick of the running slot (R72). -/
def State.slotTick (s : State) : Nat := (s.now - s.slotStart) / tickLen

/-- The line whose row switch is closed, in every row group alike (R67, R72): that of the slot up to tick W + 16, none
up to L - 16, then that of the next slot. -/
def State.closedRow (s : State) : Option Nat :=
  if !s.scan.on then none
  else if s.slotTick < s.scan.cur.window + 16 then some s.scan.slot
  else if s.slotTicks ≤ s.slotTick + 16 then some ((s.scan.slot + 1) % 8)
  else none

/-- Row switch `m` of row group `q` of tile `t` is closed (R66): 8 in a row group, 32 in a tile, 16,384 in the
package. -/
def State.rowSwitch (s : State) (t q m : Nat) : Bool :=
  decide (t < 512) && decide (q < 4) && decide (m < 8) && decide (s.closedRow = some m)

/-- The column nodes are clamped to the discharge level (R72): from W + 16 to L - 32. -/
def State.clamped (s : State) : Bool :=
  s.scan.on && decide (s.scan.cur.window + 16 ≤ s.slotTick) && decide (s.slotTick + 32 < s.slotTicks)

/-! ### Decision point -/

/-- The candidate changes the timing (R89, R90). -/
def State.candChanges (s : State) : Bool :=
  match s.comp.cand with
  | some c => decide (c.frame.timing ≠ s.scan.cur)
  | none => false

/-- The candidate is complete and its VLED increases are acknowledged (R31). -/
def State.candReady (s : State) : Bool :=
  match s.comp.cand with
  | some c => c.ready s
  | none => false

/-- Tick W of the line-7 slot (R82). -/
def State.decisionPoint (s : State) : State :=
  if s.scan.on ∧ s.scan.slot = 7 ∧ s.now ≤ s.decisionAt then
    let s1 := s.advance s.decisionAt
    if s1.candReady && !s1.heldDark && !s1.leaving then s1.onScan fun c => { c with flipPend := true } else s1
  else s

/-! ### The flip -/

/-- The next flip sequence number (R57). -/
def State.nextFlip (s : State) : Nat := if s.scan.flipSeq + 1 < 2 ^ 32 then s.scan.flipSeq + 1 else 1

/-- The buffers are exchanged, the record is written and the frame's timing applies (R57, R83, R89). A flip applies the
changed values that it concerns, where its pass started after the write (R88) (DEDUCED, log 58). -/
def State.swap (s : State) (f : Frame) : State :=
  let seq := s.nextFlip
  let rec' : FlipRecord := { seq := seq, time := s.timeBase, frame := f }
  let s1 := s.onScan fun c =>
    { c with
      abuf := !c.abuf
      buf0 := if c.abuf then { c.buf0 with frame := some f } else c.buf0
      buf1 := if c.abuf then c.buf1 else { c.buf1 with frame := some f }
      cur := f.timing, flipPend := false, flipSeq := seq, flips := (rec' :: c.flips).take 16
      pendRun := c.pendRun.filter fun n => f.hold || decide (f.pass ≤ n)
      pendHold := c.pendHold.filter fun n => !f.hold || decide (f.pass ≤ n)
      pendBlank := c.pendBlank.filter fun n => decide (f.pass ≤ n) }
  s1.onComp fun c => { c with cand := none, updated := 0 }

/-- Entries to RUN and HOLD that the flip completes (R460, R94, R458). A Seal commit or a fallback that arose
during the entry to HOLD leaves it again at once. -/
def State.entryFlip (s : State) (f : Frame) : State :=
  match s.power.trans with
  | none => s
  | some t =>
    match t.target with
    | .run => if 3 ≤ t.step then s.powerIs .run else s
    | .hold =>
      if f.hold then
        let s1 := s.enterHold
        if s1.fallbackChanged || s1.comp.commits.any fun c => c.live && c.hasSeal && !c.sealApplied then s1.exitHold
        else s1
      else s
    | _ => s

/-- A flip at the boundary that has just begun the running cycle (R83, R147, R350, R351, R405). The flipped frame's V_req
is that of its H and of the T of this instant, and sets VLED_LIMIT again (DESIGN CHOICE, log 90). -/
def State.flip (s : State) (c : Candidate) : State :=
  let f := c.frame
  let changed := decide (f.timing ≠ s.scan.cur)
  let s1 := ((s.swap f).pmc 0x04).flipDiag s
  let s2 := if changed then
      (((s1.abortWindows fun _ => true).onDiag fun d => { d with retry := [] }).endPeriod).setNpc
    else s1
  let h := f.headroom
  let s3 := (((s2.flipIfs f.ifs).noteLimit .L h c.ipkL).noteLimit .R h c.ipkR).lowerRails (s2.vreq .L h c.ipkL)
    (s2.vreq .R h c.ipkR)
  (s3.eventAll 0x02 (s3.scan.flipSeq % 2 ^ 24)).entryFlip f

/-! ### The cycle boundary -/

/-- Repair wires take the place of the wires that wait for them (R85). -/
def State.takeRepairs (s : State) : State :=
  let take (t : State) (r : Reg) (l : List Nat) : State :=
    if l = [] then t else t.wr r (setField (t.rd r) 0 3 (min 4 (field (t.rd r) 0 3 + l.length)))
  ((take s .scnD2dL s.scan.repairL |> fun t => take t .scnD2dR s.scan.repairR)).onScan fun c =>
    { c with repairL := [], repairR := [] }

/-- The synchronisation at a cycle boundary (R99, R102, R103): a due stretch begins, a stretched cycle ends; the time of
R103 without an edge then begins again (DESIGN CHOICE, log 69). -/
def State.syncBoundary (s : State) : State :=
  let ended := s.scan.stretching.isSome
  let s1 := s.onScan fun c =>
    { c with
      syncout := decide (c.role ≠ 0)
      stretching := c.stretchDue
      stretchDue := none
      delta := c.deltaDue.getD c.delta
      deltaDue := none
      stretched := c.stretched || ended
      lastEdge := if ended then some s.now else c.lastEdge }
  if s.scan.stretchDue.isSome then s1.flag .scnEvent 5 else s1

/-- The diagnostics and the calibration in the cycle that begins (R346, R347, R403). -/
def State.beginCycle (s : State) (bad : List Nat) : State := ((s.periodBoundary bad).advanceWindows).calSurveys

/-- The pass that waits for the boundary of a flip (R83, R163); where R90 makes that flip wait, the pass starts all the
same and drops the candidate (DESIGN CHOICE, log 108). -/
def State.boundaryPass (s : State) : State :=
  if s.comp.fbAtFlip then
    let s1 := s.onComp fun c => { c with fbAtFlip := false }
    if s1.passAllowed then s1.startPass else s1
  else s

/-- The scan cycle ends (R83, R84, R89, R90, R114). `bad` names the columns whose comparator fails a self-test
that falls to this boundary (R372) (DEDUCED, log 36). A flip comes before the end of a period that falls to the same
boundary (DESIGN CHOICE, log 91), and one that R90 makes wait is pending up to this boundary and no longer
(DESIGN CHOICE, log 108). The cycle takes its delays in the timing that the flip gives it (R89, R107). -/
def State.cycleBoundary (s : State) (bad : List Nat) : State :=
  if s.scan.on ∧ s.scan.slot = 7 then
    let t := s.boundaryAt
    let s0 := ((s.advance t).slotEnds.closeWindows.onDiag fun d => { d with before := none }).standbyDark
    let wait := s0.candChanges && s0.calDue
    let s1 := (s0.calCommits.takeRepairs).onScan fun c =>
      { c with slot := 0, cycle := c.cycle + 1, cycleStart := t }
    let s2 := s1.syncBoundary.pmc 0x03
    let s3 := match s2.comp.cand with
      | some c => if s2.scan.flipPend && !wait then s2.flip c else s2.onScan fun x => { x with flipPend := false }
      | none => s2.onScan fun x => { x with flipPend := false }
    ((s3.takeDelays.beginCycle bad).boundaryPass).lightSlot
  else s

/-! ### Die-to-die buses -/

/-- A transfer of a die-to-die bus fails its check (R85); `wire` is the wire that has so failed repeatedly. A wire that
waits for its repair wire needs no other; a fifth one is reported. The repeat takes no time (DESIGN CHOICE, log 109). -/
def State.d2dFail (s : State) (d : Die) (wire : Option Nat) : State :=
  if s.domOn (arrDomain d) then
    let r : Reg := match d with
      | .L => .scnD2dL
      | .R => .scnD2dR
    let s1 := (s.count r 16 16).pmc 0x29
    let waiting := match d with
      | .L => s.scan.repairL
      | .R => s.scan.repairR
    match wire with
    | none => s1
    | some w =>
      if waiting.contains w then s1
      else if 4 ≤ field (s1.rd r) 0 3 + waiting.length then s1.report 0x5A (dieIx d)
      else s1.onScan fun c => match d with
        | .L => { c with repairL := c.repairL ++ [w] }
        | .R => { c with repairR := c.repairR ++ [w] }
  else s

/-! ### Synchronisation -/

/-- Ticks of a cycle. -/
def Timing.cycleTicks (t : Timing) : Nat := 8 * t.len

/-- e normalised to the range of R101. -/
def normPhase (e : Int) (len : Nat) : Int := (e + (4 * len : Nat)) % (8 * len : Nat) - (4 * len : Nat)

/-- The own cycle boundary that is nearest to the present instant (R101): the last one or the next. -/
def State.nearBoundary (s : State) : Nat :=
  if s.boundaryAt - s.now < s.now - s.scan.cycleStart then s.boundaryAt else s.scan.cycleStart

/-- The phase error of an edge at the present instant (R101); parts of a tick are dropped downward. -/
def State.phaseError (s : State) : Int :=
  normPhase (((s.nearBoundary : Int) - s.now) / tickLen - (s.fld .scnSyncCtrl 0 6 : Nat)) s.scan.cur.len

/-- Δ of R102. -/
def deltaOf (e : Int) : Int := clampInt (-e) (-64) 64

/-- The spacing of two edges lies within 1 % of the own cycle length (R103). -/
def State.goodSpacing (s : State) (last : Nat) : Bool :=
  let len := s.scan.cur.cycleTicks * tickLen
  decide (100 * (((s.now - last : Nat) : Int) - len).natAbs ≤ len)

/-- The line-7 blanking runs. -/
def State.inLastBlanking (s : State) : Bool := decide (s.scan.slot = 7) && decide (s.decisionAt ≤ s.now)

/-- Δ of R102 becomes `d`: for the next line-7 blanking that begins (DESIGN CHOICE, log 71). -/
def State.setDelta (s : State) (d : Int) : State :=
  s.onScan fun c => if s.inLastBlanking then { c with deltaDue := some d } else { c with delta := d, deltaDue := none }

/-- The follower's synchronisation state. -/
def State.setSync (s : State) (x : SyncState) : State :=
  (s.setDelta 0).onScan fun c => { c with sync := x, badPhase := 0, stretchDue := none, stretched := false }

/-- The follower measures e and enters or stays in ACQUIRE: the next own cycle is stretched (R103). -/
def State.acquire (s : State) (e : Int) : State :=
  (s.setSync .acquire).onScan fun c => { c with stretchDue := some e }

/-- Edges with another spacing, four in a row (R103). -/
def State.mismatch (s : State) : State :=
  (((s.flag .scnEvent 1).count .scnSyncCnt 16 16).setSync .freeRun).onScan fun c => { c with badSpacing := 0 }

/-- An edge of SYNCIN in the follower role outside a stretched cycle (R101 to R103). The first one after a stretched
cycle is not judged for its spacing (DESIGN CHOICE, log 69). -/
def State.followEdge (s : State) : State :=
  let e := s.phaseError
  let judged := s.scan.lastEdge.isSome && !s.scan.stretched
  let good := match s.scan.lastEdge with
    | some t => s.goodSpacing t
    | none => true
  let run := if !judged then s.scan.badSpacing else if good then 0 else s.scan.badSpacing + 1
  let s1 := (s.wr .scnSyncErr (word (bitsOf 32 e))).onScan fun c => { c with lastEdge := some s.now, badSpacing := run }
  if judged && !good && decide (run = 4) then s1.mismatch
  else
    match s1.scan.sync with
    | .freeRun => if judged && good then s1.acquire e else s1
    | .acquire =>
      if s1.scan.stretched then
        (if e.natAbs ≤ 250 then (s1.setSync .locked).setDelta (deltaOf e) else s1.acquire e)
      else if s1.scan.stretchDue.isSome then s1.onScan fun c => { c with stretchDue := some e }
      else s1
    | .locked =>
      if e.natAbs ≤ 250 then (s1.setDelta (deltaOf e)).onScan fun c => { c with badPhase := 0 }
      else if s1.scan.badPhase = 0 then (s1.setDelta (deltaOf e)).onScan fun c => { c with badPhase := 1 }
      else s1.acquire e

/-- A rising edge of SYNCIN at the present instant (R100, R101): the follower uses it, and a group may start 60 ns later
(R440). -/
def State.syncEdge (s : State) : State :=
  State.groupSync
    (if s.scan.on && decide (s.scan.role = 2) && s.scan.stretching.isNone then s.followEdge else s)

/-- No edge for two own cycle lengths (R103, R41). -/
def State.syncLost (s : State) : State :=
  match s.scan.lastEdge with
  | none => s
  | some t =>
    if s.scan.on && decide (s.scan.role = 2) && decide (s.scan.sync ≠ .freeRun) && s.scan.stretching.isNone then
      let s1 := s.advance (t + 2 * s.scan.cur.cycleTicks * tickLen)
      (((s1.flag .scnEvent 0).count .scnSyncCnt 0 16).report 0x5B).setSync .freeRun
    else s

/-- SYNCOUT returns low 250 ticks after the boundary (R99). -/
def State.syncoutEnd (s : State) : State :=
  if s.scan.syncout then
    (s.advance (s.scan.cycleStart + 250 * tickLen)).onScan fun c => { c with syncout := false }
  else s

/-! ### CAMSYNC -/

/-- The running cycle gives a pulse and has not given it (R106). -/
def State.camDue (s : State) : Bool :=
  s.scan.on && s.scan.cam.isSome && bit (s.rd .scnCamsyncCtrl) 0
    && decide (s.scan.cycle.toNat % (s.fld .scnCamsyncCtrl 4 4 + 1) = 0)

/-- Instant of the CAMSYNC pulse whose cycle took the offset `o`, and whether the offset is treated as 0 (R106, R107): an
edge that makes the running cycle no longer than the offset has the pulse given at once (DESIGN CHOICE, log 85). -/
def State.camInstant (s : State) (o : Nat × Bool) : Nat × Bool :=
  let t := s.scan.cycleStart + o.1 * tickLen
  if s.boundaryAt ≤ t then (max s.now s.scan.cycleStart, true) else (t, o.2)

/-- The CAMSYNC pulse of the running cycle (R106, R107). In the first cycle after an array switch-on it is measured from
the start of scanning (DESIGN CHOICE, log 72). A cycle that gives no pulse sets no CAMSYNC_CLAMP (DESIGN CHOICE,
log 85). -/
def State.camPulse (s : State) : State :=
  match s.scan.cam with
  | none => s
  | some o =>
    let (t, clamped) := s.camInstant o
    if s.camDue ∧ s.now ≤ t then
      let s1 := (s.advance t).onScan fun c =>
        { c with cam := none, camEnd := t + 16 * s.fld .scnCamsyncCtrl 8 8 * tickLen }
      if clamped then s1.flag .scnEvent 2 else s1
    else s

/-- Level of the CAMSYNC land (R106). A pulse in progress runs to its end when the array domains switch off, and what is
left of it shows again when EN returns to 1 before its end (DESIGN CHOICE, log 92). -/
def State.camsync (s : State) : Bool :=
  let pulse := bit (s.rd .scnCamsyncCtrl) 0 && decide (s.now < s.scan.camEnd)
  s.land "CAMSYNC" (pulse != bit (s.rd .scnCamsyncCtrl) 1)

/-! ### Status -/

def syncCode : SyncState → Nat
  | .freeRun => 0
  | .acquire => 1
  | .locked => 2

/-- SCN_STATUS (R111); while no cycle is driven its fields keep what they held (R30). -/
def State.scnStatus (s : State) : Word :=
  let c := s.scan
  word (c.cur.mode + 4 * boolNat c.replay + 8 * boolNat c.abuf
    + 16 * boolNat (c.pendRun.isSome || c.pendHold.isSome || c.pendBlank.isSome) + 32 * boolNat c.flipPend + 64 * c.role
    + 256 * syncCode c.sync + 1024 * c.cur.blank)

/-- A write to SCN_FREC_SEL captures a record for the writing port (R58). -/
def State.frecSelect (s : State) (p : Port) (v : Word) : State :=
  let r := s.scan.flips[field v 0 4]?
  let s1 := s.wrp p .scnFrecSel v
  match p with
  | .A => { s1 with frecA := r }
  | .B => { s1 with frecB := r }

def State.frec (s : State) : Port → Option FlipRecord
  | .A => s.frecA
  | .B => s.frecB

end Sys2Proof.Machine
end

