-- ==== Sys2Proof/Machine/SafetyIo.lean ====
section
/-! DEFINITION. The guardian's inputs, tests and watch (R482 to R498): dual-contact inputs, overloads, off-pulse
tests, heartbeat and FAULT_ALIVE. -/

namespace Sys2Proof.Machine

/-! ### Dual-contact inputs -/

def State.pair (s : State) (b : Bool) : Pair := if b then s.guard.sib else s.guard.sia

def State.setPair (s : State) (b : Bool) (x : Pair) : State :=
  s.onGuard fun g => if b then { g with sib := x } else { g with sia := x }

/-- Discrepancy time of a pair in time units (R483). -/
def State.discTime (s : State) (b : Bool) : Nat := s.fld .safInCfg (if b then 16 else 0) 10 * msec

/-- A pair after one channel has been accepted at a level (R483): `now` and `len` start its timer. The rows of CLOSING
and OPENING speak of the channel that began it and of the other one, whatever level that has had before
(DEDUCED, log 66). -/
def Pair.channel (x : Pair) (second level : Bool) (now len : Nat) : Pair :=
  let y := if second then { x with c2 := level } else { x with c1 := level }
  let began := decide (second = x.first)
  match x.state with
  | .opened => if level then { y with state := .closing, first := second, timer := some (now, len) } else y
  | .closing =>
    if began && !level then { y with state := .opened, timer := none }
    else if !began && level then { y with state := .closed, timer := none }
    else y
  | .closed => if level then y else { y with state := .opening, first := second, timer := some (now, len) }
  | .opening => if !began && !level then { y with state := .opened, timer := none } else y
  | .discrepancy => if !y.c1 && !y.c2 then { y with state := .opened } else y

/-- A pair after the changes of its two channels in one CK_AON cycle (R483, R632): pairs of changes that the
table names at once, else every opening first, then every closing. -/
def Pair.accept (x : Pair) (n1 n2 : Option Bool) (now len : Nat) : Pair :=
  let one (y : Pair) (second : Bool) (n : Option Bool) (level : Bool) : Pair :=
    if n = some level then y.channel second level now len else y
  match x.state, n1, n2 with
  | .opened, some true, some true => { x with c1 := true, c2 := true, state := .closed, timer := none }
  | .closed, some false, some false => { x with c1 := false, c2 := false, state := .opened, timer := none }
  | _, _, _ => one (one (one (one x false n1 false) true n2 false) false n1 true) true n2 true

/-- The accepted change of channel `k` of a list, if it is one; a forced channel reads open (R517). -/
def State.changeOf (s : State) (l : List (Nat × Bool)) (k : Nat) (now : Bool) : Option Bool :=
  match l.find? fun e => e.1 == k with
  | some (_, v) => if v = now ∨ (v ∧ s.injOn k) then none else some v
  | none => none

/-- The guardian follows a pair (R483, R485, R498). -/
def State.followPair (s : State) (b : Bool) (x : Pair) : State :=
  let was := (s.pair b).isClosed
  let s1 := s.setPair b x
  if was = x.isClosed then s1
  else
    let s2 := s1.flag .safEvent (if b then 1 else 0)
    if was then s2.grec (if b then 2 else 1) else s2

/-- Channel levels accepted in one CK_AON cycle (R482 to R485, R632): channels 0 to 3 are SIA1, SIA2, SIB1 and
SIB2. Below the lockout threshold of VIN the AON domain is off (R454). -/
def State.inputs (s : State) (l : List (Nat × Bool)) : State :=
  if !s.power.vin then s
  else
  let one (t : State) (b : Bool) : State :=
    let x := t.pair b
    let k := if b then 2 else 0
    t.followPair b (x.accept (t.changeOf l k x.c1) (t.changeOf l (k + 1) x.c2) t.now (t.discTime b))
  ((one (one s false) true)).guardOutputs

/-- The control die is off, or held in reset until step 4 of R476: a discrepancy waits for the next start (R484). -/
def State.asleepNow (s : State) : Bool :=
  match s.power.state, s.power.stage with
  | .sleep, _ => true
  | .off, _ => true
  | _, .waiting => true
  | _, .step _ _ => true
  | _, .retry => true
  | _, _ => false

/-- The discrepancy time of a pair expires (R483 to R485). -/
def State.discrepancy (s : State) (b : Bool) : State :=
  let x := s.pair b
  match x.timer with
  | none => s
  | some (t, n) =>
    let s1 := (((s.advance (t + n)).setPair b { x with state := .discrepancy, timer := none }).flag .safEvent 2)
    let src := if b then 0x71 else 0x70
    if s1.asleepNow then s1.onGuard fun g => { g with sleepDisc := g.sleepDisc ++ [src] } else s1.report src

/-! ### Outputs -/

def State.output (s : State) (po2 : Bool) : Output := if po2 then s.guard.po2 else s.guard.po1

def State.onOutput (s : State) (po2 : Bool) (f : Output → Output) : State :=
  s.onGuard fun g => if po2 then { g with po2 := f g.po2 } else { g with po1 := f g.po1 }

/-- The off-demand of PO1 falls due (R486, R459, R468) (DEDUCED, log 34). -/
def State.offDemandDue (s : State) : State :=
  match s.guard.po1.offDemand with
  | none => s
  | some (t, n) => ((s.advance (t + n)).po1Off.guardOutputs).standbyRail

/-- An output that is watched exceeds its limit (R488). -/
def State.overload (s : State) (po2 : Bool) : State :=
  let o := s.output po2
  if o.cmd && !o.pulse then
    let s1 := (if po2 then s.po2Off else s.po1Off).onOutput po2 fun x => { x with ovl := true }
    ((((s1.flag .safEvent 6).grec (if po2 then 5 else 4)).report (if po2 then 0x75 else 0x74)).guardOutputs).standbyRail
  else s

/-! ### Off-pulse tests -/

/-- SAF_TEST_CFG.WIDTH in time units. -/
def State.pulseWidth (s : State) : Nat := s.fld .safTestCfg 0 9 * usec

/-- The off-pulse of an output falls due (R489, R491): it begins where the test is enabled and no off-demand falls due in
the same CK_AON cycle (DEDUCED, log 31). -/
def State.pulseStart (s : State) (po2 : Bool) : State :=
  let o := s.output po2
  if !o.cmd || o.testing then s
  else
    let s1 := s.advance (s.guard.pulseAt po2 s.now)
    let demanded := match o.offDemand with
      | some (u, m) => decide ((u + m) / aonCycle ≤ s1.now / aonCycle)
      | none => false
    if bit (s1.rd .safTestCfg) (if po2 then 25 else 24) && !demanded then
      let w := s1.pulseWidth
      s1.onOutput po2 fun x =>
        { x with pulse := true, rb := false, began := s1.now, width := w, discard := false, taken := false
                 verify := false }
    else s1

/-- A reading of a test fails (R490). -/
def State.testFails (s : State) (po2 : Bool) : State :=
  ((s.count .safTestCnt (if po2 then 8 else 0) 8).flag .safEvent 3).report (if po2 then 0x73 else 0x72)

/-- The result of a test is discarded (R491). -/
def State.testDiscarded (s : State) (po2 : Bool) : State :=
  ((s.count .safTestCnt 16 16).flag .safEvent 4).onOutput po2 fun x => { x with discard := false, verify := false }

/-- The first reading of a pulse (R490): the readback shows it (R521). -/
def State.pulseLow (s : State) (po2 isLow : Bool) : State :=
  let o := s.output po2
  if o.pulse && !o.taken then
    let s1 := (s.advance (o.began + o.width - 10 * usec)).onOutput po2 fun x => { x with taken := true, rb := !isLow }
    if isLow || o.discard then s1 else s1.testFails po2
  else s

/-- The programmed end of a pulse (R491). -/
def State.pulseEnd (s : State) (po2 : Bool) : State :=
  let o := s.output po2
  if o.pulse then
    let s1 := (s.advance (o.began + o.width)).onOutput po2 fun x =>
      { x with pulse := false, rb := x.cmd, verify := x.cmd && !x.discard }
    if o.discard then s1.testDiscarded po2 else s1
  else s

/-- The second reading of a test (R490): the readback shows it (R521). An off-command after the pulse takes nothing from
the test: R491 speaks of one during the pulse. -/
def State.pulseHigh (s : State) (po2 isHigh : Bool) : State :=
  let o := s.output po2
  if o.verify then
    let s1 := (s.advance (o.began + o.width + 50 * usec)).onOutput po2 fun x => { x with verify := false, rb := isHigh }
    if isHigh then s1 else s1.testFails po2
  else s

/-! ### Heartbeat -/

/-- SAF_HB_CFG.PERIOD in time units (R493) (DEDUCED, log 60). -/
def State.hbPeriod (s : State) : Nat := s.fld .safHbCfg 0 5 * (msec / 4)

/-- The control die sends heartbeats (R493, R479, R503). -/
def State.beating (s : State) : Bool :=
  s.power.cpuRun && !s.power.cpuHalt && s.power.refClock && s.power.pll && !s.asleepNow

/-- The control die sends a beat (R493) (DEDUCED, log 60). -/
def State.beatSend (s : State) : State :=
  match s.power.hbSent with
  | none => s
  | some (t, n) =>
    if s.beating then
      let s1 := s.advance (t + n)
      s1.onPower fun w => { w with hbCount := w.hbCount + 1, hbSent := some (s1.now, s1.hbPeriod) }
    else s

/-- A miss (R493, R494): the heartbeat action is taken, or goes on; either way the restart follows 100 ms after it
(DEDUCED, log 40). -/
def State.hbMiss (s : State) : State :=
  let restart := bit (s.rd .safHbCfg) 12 && !s.guard.haltTold
  let s1 := (s.flag .safEvent 5).onGuard fun g =>
    { g with hbTimer := none, badBeats := 0, goodBeats := 0
             restartAt := g.restartAt.or (if restart then some (s.now + 100 * msec) else none) }
  if s.guard.action then s1
  else ((s1.onGuard fun g => { g with action := true, hbReport := true }).grec 3).guardOutputs

/-- 1.5 periods have passed since the last valid beat (R493). -/
def State.hbTimeout (s : State) : State :=
  match s.guard.hbTimer with
  | none => s
  | some (t, n) => if s.guard.armed then (s.advance (t + n)).hbMiss else s

/-- A valid beat reaches the guardian (R493 to R495) (DEDUCED, log 60). -/
def State.beatGood (s : State) (b : Byte) : State :=
  let s1 := s.onGuard fun g =>
    { g with armed := true, lastBeat := b, badBeats := 0, goodBeats := min 15 (g.goodBeats + 1)
             hbTimer := some (s.now, 3 * s.hbPeriod / 2) }
  if s.guard.action ∧ s.fld .safHbCfg 8 4 ≤ s.guard.goodBeats + 1 then
    let s2 := s1.onGuard fun g => { g with action := false, hbReport := false }
    (if s.guard.hbReport then s2.report 0x76 else s2).guardOutputs
  else s1.guardOutputs

/-- A beat reaches the guardian (R493); SAF_INJ can block it (R517). -/
def State.beat (s : State) (b c : Byte) : State :=
  if s.injOn 4 || !s.power.vin then s
  else if c = ~~~b ∧ (s.guard.armed = false ∨ b = s.guard.lastBeat + 1) then s.beatGood b
  else if s.guard.armed then
    let s1 := s.onGuard fun g => { g with badBeats := g.badBeats + 1, goodBeats := 0 }
    if s.guard.badBeats = 0 then s1 else s1.hbMiss
  else s

/-! ### FAULT_ALIVE and the other checks -/

/-- The divider of FAULT_ALIVE runs out (R496): the wave toggles, or stops low. -/
def State.faEdge (s : State) : State :=
  match s.guard.faTimer with
  | none => s
  | some (t, n) =>
    let s1 := s.advance (t + n)
    if s.faRuns then
      s1.onGuard fun g => { g with faLevel := !g.faLevel, faTimer := some (s1.now, s1.faHalf), faEdgeAt := some s1.now }
    else
      s1.onGuard fun g =>
        { g with faLevel := false, faTimer := none, faEdgeAt := if g.faLevel then some s1.now else g.faEdgeAt }

/-- The comparison of the FAULT_ALIVE land, 10 µs after an edge (R497). -/
def State.faCompare (s : State) (differs : Bool) : State :=
  match s.guard.faEdgeAt with
  | none => s
  | some t =>
    let s1 := (s.advance (t + 10 * usec)).onGuard fun g => { g with faEdgeAt := none }
    if s.guard.faLatched then s1
    else if !differs then s1.onGuard fun g => { g with faDiffs := 0 }
    else if s.guard.faDiffs = 0 then s1.onGuard fun g => { g with faDiffs := 1 }
    else (((s1.onGuard fun g => { g with faLatched := true, faDiffs := 0 }).grec 6).flag .safEvent 7).report 0x77

/-- The state that a backplane die returns is compared with its kill line (R503). -/
def State.killCompare (s : State) (d : Die) (differs : Bool) : State :=
  let s1 := s.onFaults fun f => match d with
    | .L => { f with killDiffL := differs }
    | .R => { f with killDiffR := differs }
  if differs then s1.report 0x78 (dieIx d) else s1

/-- CK_AON is measured against CK_FAB (R503). -/
def State.aonCheck (s : State) (deviates : Bool) : State :=
  let s1 := s.onFaults fun f => { f with aonOff := deviates }
  if deviates then s1.report 0x13 else s1

/-- The control processor halts (R503, R507, R614): it sends no beat, and the guardian is told. -/
def State.cpuHalts (s : State) : State :=
  (s.onPower fun w => { w with cpuHalt := true, cpuRun := false }).onGuard fun g => { g with haltTold := true }

/-- The reference oscillator or the lock of the root PLL is lost (R479) (DEDUCED, log 63). -/
def State.clockLost (s : State) (pll : Bool) : State :=
  if s.asleepNow then s
  else if pll then (s.onPower fun w => { w with pll := false }).report 0x11
  else (s.onPower fun w => { w with refClock := false }).report 0x10

/-- A write of SAF_INJ in FACTORY (R517): a field set to 1 acts from the next CK_AON cycle on, one set to 0 no longer. -/
def State.safInject (s : State) (v : Word) : State :=
  let new := BitVec.ofNat 5 (field v 0 5)
  (s.wr .safInj v).onGuard fun g =>
    { g with inj := new, injAt := s.now / aonCycle
             injWas := (if s.now / aonCycle ≤ g.injAt then g.injWas else g.inj) &&& new }

end Sys2Proof.Machine
end

