-- ==== Sys2Proof/Machine/Reactions.lean ====
section
/-! DEFINITION. The fault collector (R501 to R519): grading, order, log, reactions and clears, and how a command
ends (`finish`). -/

namespace Sys2Proof.Machine

/-! ### Classes -/

/-- Floor class of a source (R504). -/
def floorOf (k : Nat) : Nat :=
  if k = 0x12 ∨ k = 0x20 then 4
  else if k = 0x59 ∨ k = 0x72 ∨ k = 0x76 ∨ k = 0x78 then 3
  else 0

/-- Source numbers that R502 lists as not used. -/
def unusedSource (k : Nat) : Bool :=
  decide (0x0B ≤ k ∧ k ≤ 0x0F) || decide (0x15 ≤ k ∧ k ≤ 0x1F) || decide (0x2C ≤ k ∧ k ≤ 0x2F)
    || decide (0x35 ≤ k ∧ k ≤ 0x37) || decide (0x3C ≤ k ∧ k ≤ 0x3F) || decide (0x46 ≤ k ∧ k ≤ 0x4F)
    || decide (0x5C ≤ k ∧ k ≤ 0x5F) || decide (k = 0x65) || decide (0x6E ≤ k ∧ k ≤ 0x6F) || decide (0x79 ≤ k)

/-- Minor and severe class of a source (R504, R505). -/
def State.classes (s : State) (k : Nat) : Nat × Nat :=
  if s.boot.plate.isNone then (floorOf k, floorOf k) else (s.fld .fltMap 0 3 k, s.fld .fltMap 4 3 k)

/-! ### Grading -/

/-- A graded event (R505, R506): class, whether the severe class applied, whether it opened a window, and the
window count after it. -/
structure Graded where
  source : Nat
  detail : Nat
  cls : Nat
  severe : Bool
  opened : Bool
  count : Nat
deriving DecidableEq, Repr

/-- The open window of a source at time base `t`: start and count (R505). -/
def State.window (s : State) (k t : Nat) : Option (Nat × Nat) :=
  match s.faults.windows.find? fun e => e.1 == k with
  | some (_, st, c) => if s.fld .fltMap 16 16 k * 156250 ≤ t - st then none else some (st, c)
  | none => none

/-- An event of source `k` is graded (R505). -/
def State.grade (s : State) (r : FaultReport) : Graded × State :=
  let k := r.source
  let t := s.timeBase
  let w := s.window k t
  let start := (w.map (·.1)).getD t
  let c := (w.map (·.2)).getD 0 + 1
  let severe := decide (s.fld .fltMap 8 8 k ≤ c)
  let rest := s.faults.windows.filter fun e => e.1 != k
  let s1 := (s.onFaults fun f =>
    { f with windows := if severe then rest else rest ++ [(k, start, c)] }).count .fltCnt 0 16 1 k
  ({ source := k, detail := r.detail, cls := if severe then (s.classes k).2 else (s.classes k).1, severe := severe
     opened := w.isNone, count := if severe then 0 else c }, s1)

/-- Every event of a cycle is graded, in the order of the list. -/
def gradeAll : List FaultReport → State → List Graded × State
  | [], s => ([], s)
  | r :: t, s =>
    let (g, s1) := s.grade r
    let (l, s2) := gradeAll t s1
    (g :: l, s2)

/-! ### Order -/

/-- Insertion by a number. -/
def insertBy {α : Type} (f : α → Nat) (x : α) : List α → List α
  | [] => [x]
  | y :: t => if f x ≤ f y then x :: y :: t else y :: insertBy f x t

def sortBy {α : Type} (f : α → Nat) : List α → List α
  | [] => []
  | x :: t => insertBy f x (sortBy f t)

/-- Reports of one cycle by source and detail, equal ones once (R501, R511). -/
def orderReports (l : List FaultReport) : List FaultReport :=
  let once := l.foldl (fun a r => if a.contains r then a else a ++ [r]) []
  sortBy (fun r => r.source * 65536 + r.detail % 65536) once

/-- Graded events in the order of R50 and R511. -/
def orderGraded (l : List Graded) : List Graded :=
  sortBy (fun g => (7 - g.cls) * 2 ^ 24 + g.source * 65536 + g.detail % 65536) l

/-! ### Log -/

/-- The word of FLT_FIRST and FLT_LAST (R519). -/
def eventWord (g : Graded) (inj : Bool) (coinc : Nat) : Word :=
  word (g.source + 128 * boolNat g.severe + 256 * g.cls + 2048 * boolNat inj + 65536 * min 127 coinc + 2 ^ 31)

/-- The record of an event (R513). -/
def State.logRecord (s : State) (g : Graded) (inj coinc first : Bool) (seq : Nat) : LogRecord :=
  let t := s.timeBase
  let ws : List Word :=
    [word seq, word t, word (t / 2 ^ 32),
     word (g.source + 128 * boolNat g.severe + 256 * g.cls + 2048 * boolNat coinc + 4096 * boolNat inj
       + 8192 * boolNat first + 65536 * powerCode s.power.state + 2 ^ 24 * g.count),
     word (g.detail % 65536 + 65536 * min 65535 s.boot.starts), word s.scan.flipSeq, s.rd .cmpCommitCnt]
  ws ++ [crc32c (bytesOfWords ws)]

/-- An event enters the log, or is dropped (R514) (DEDUCED, log 40). -/
def State.log (s : State) (g : Graded) (inj coinc first : Bool) : State :=
  if 64 ≤ s.faults.buffer.length then (s.count .fltLogLost 0 32).flag .fltEvent 2
  else
    let seq := (s.faults.logHead + 1) % 2 ^ 32
    ((s.onFaults fun f =>
      { f with logHead := seq, buffer := f.buffer ++ [s.logRecord g inj coinc first seq] }).flag .fltEvent 0).eventAll
      0x01 (g.source + 256 * g.cls)

/-- An event is recorded: FLT_FIRST, FLT_LAST, the flags and the log (R506, R512). -/
def State.record (s : State) (g : Graded) (inj : Bool) (n : Nat) (later : Bool) : State :=
  let w := eventWord g inj (n - 1)
  let t := s.timeBase
  let first := decide (1 ≤ g.cls) && !bit (s.rd .fltFirst) 31
  let s1 := if first then
      ((s.wr .fltFirst w).wr .fltFirstTimeLo (word t)).wr .fltFirstTimeHi (word (t / 2 ^ 32))
    else s
  let s2 := s1.wr .fltLast w
  let s3 := if g.severe then s2.flag .fltEvent 1 else s2
  if g.opened || g.severe then s3.log g inj later first else s3

/-- Every event of a cycle is recorded in order; `later` says that one came before. -/
def recordAll (inj : Bool) (n : Nat) : Bool → List Graded → State → State
  | _, [], s => s
  | later, g :: t, s => recordAll inj n true t (s.record g inj n later)

/-! ### Reactions -/

/-- Region converter G is retired (R448, R416): its calibration stops, and its correction C is held. -/
def State.retireRegion (s : State) (g : Nat) : State :=
  let s1 := (s.retireConv g).calStop g
  if (s.region g).fallback then s1.report 0x63 g else s1

/-- The temperature of region G is held from now on (R118); with source 0x6C its converter stays in service (R448)
(DEDUCED, log 28). -/
def State.holdTemp (s : State) (g : Nat) : State :=
  if g < 16 then s.onConv g fun c => { c with tempBad := true, tempGood := 0 } else s

/-- The unit of R509 is retired; the calibration of a region whose flux monitor is retired stops too (R63); none where
the source has no such unit (DEDUCED, log 28). -/
def State.retireUnit (s : State) (source detail : Nat) : Option State :=
  if source = 0x57 then
    some (s.onDiag fun d =>
      { d with retiredComp := (d.badComp.filter fun n => regionOfColumn n == detail).foldl
                 (fun l n => addNat n l) d.retiredComp })
  else if source = 0x60 ∨ source = 0x64 ∨ source = 0x66 then some (s.calStop detail)
  else if source = 0x63 then some ((s.onRegion detail fun r => { r with monitorRetired := true }).calStop detail)
  else if source = 0x68 ∨ source = 0x6A then some (s.retireRegion (detail % 16))
  else if source = 0x6C then some (s.holdTemp detail)
  else if source = 0x69 ∨ source = 0x6B then some (s.retireConv (16 + detail % 4))
  else none

/-- The reaction to one event (R507 to R509). -/
def State.react (s : State) (g : Graded) : State :=
  let s1 :=
    if g.cls = 0 then s
    else
      match s.retireUnit g.source g.detail with
      | some t => t
      | none => if g.cls = 1 then s.onFaults fun f => { f with degraded := true } else s
  match g.cls with
  | 2 => (s1.onFaults fun f => { f with fallback := true, fbBy := addNat g.source f.fbBy }).enterFallback !s1.faults.fallback
  | 3 => (s1.onFaults fun f => { f with dark := true, darkBy := addNat g.source f.darkBy }).guardOutputs
  | 4 => ((s1.onFaults fun f => { f with halt := true }).cpuHalts).guardOutputs
  | _ => s1

/-- The sources of a cycle show in FLT_COND (R501). -/
def State.flash (s : State) (l : List FaultReport) : State :=
  let bits := l.foldl (fun (a : BitVec 128) r => a ||| ((1 : BitVec 128) <<< r.source)) 0
  let now := s.now / fabCycle
  s.onFaults fun f =>
    { f with flash := if f.flashAt = now then f.flash ||| bits else bits, flashAt := now }

/-- The events of one CK_FAB cycle (R501, R505 to R512). -/
def State.arbitrate (s : State) (l : List FaultReport) (inj : Bool) : State :=
  let rs := orderReports (l.filter fun r => !unusedSource r.source)
  let (gs, s1) := gradeAll rs ((s.flash rs).pmc 0x40 rs.length)
  let ordered := orderGraded gs
  ordered.foldl (fun t g => t.react g) (recordAll inj ordered.length false ordered s1)

/-- Reports that the reactions to a cycle's events make belong to the next CK_FAB cycle (R501; DEDUCED, log 98). -/
def State.laterCycle (s : State) : State :=
  if s.faults.reports = [] then s else s.advance ((s.now / fabCycle + 1) * fabCycle)

/-- No report and no injected event waits for the fault arbiter. -/
abbrev Faults.quiet (f : Faults) : Prop := f.reports = [] ∧ f.injected = none

/-- The fault arbiter takes the events of the present CK_FAB cycle (R501, R516). -/
def State.takeReports (s : State) : State :=
  let t := s.onFaults fun f => { f with reports := [], injected := none }
  match s.faults.reports, s.faults.injected with
  | [], none => s
  | [], some r => t.arbitrate [r] true
  | l, _ => t.arbitrate l false

/-- The fault arbiter takes the events of a command, then, each in a later cycle, the reports that its reactions make
(R501). `fuel` such cycles at most: no reaction chain is longer than a few. -/
def settleLoop : Nat → State → State
  | 0, s => s.onFaults fun f => { f with reports := [], injected := none }
  | fuel + 1, s => if s.faults.quiet then s else settleLoop fuel s.takeReports.laterCycle

def State.settle (s : State) : State := settleLoop 16 s

/-- How every command ends: the fault arbiter takes its reports, and R499 holds. -/
def finish (s : State) : Host.Outcome State Fault Refusal := .next s.settle.darken

/-! ### Condition bits -/

/-- The lasting state that a source's raising rule describes holds (R501) (DEDUCED, log 41). -/
def State.lasting (s : State) (k : Nat) : Bool :=
  match k with
  | 0x00 => decide (10 ≤ s.adc.vinLow)
  | 0x01 => decide (10 ≤ s.adc.vinHigh)
  | 0x05 => decide (10 ≤ s.adc.rangeL)
  | 0x06 => decide (10 ≤ s.adc.rangeR)
  | 0x07 => decide (3 ≤ s.power.hrLowL) || decide (3 ≤ s.power.hrLowR)
  | 0x08 => decide (3 ≤ s.adc.tempHigh)
  | 0x10 => !s.power.refClock
  | 0x11 => !s.power.pll
  | 0x13 => s.faults.aonOff
  | 0x38 => s.portA.lost
  | 0x39 => s.portB.lost
  | 0x56 => (List.range 16).any fun g => decide (s.maskMax < s.maskedIn g)
  | 0x58 => !s.scan.wire0 || !s.scan.wire1
  | 0x59 => !s.scan.scanLock
  | 0x62 => s.cal.source.any fun x => decide (x = .invalid)
  | 0x6C => s.adc.convs.any fun c => c.tempBad
  | 0x70 => decide (s.guard.sia.state = .discrepancy)
  | 0x71 => decide (s.guard.sib.state = .discrepancy)
  | 0x78 => s.faults.killDiffL || s.faults.killDiffR
  | _ => false

/-- Condition bit of a source (R501) (DEDUCED, log 41). -/
def State.cond (s : State) (k : Nat) : Bool :=
  s.lasting k || (decide (s.faults.flashAt = s.now / fabCycle) && s.faults.flash.getLsbD k)

/-- FLT_CONDk (R518) (DEDUCED, log 41). -/
def State.condWord (s : State) (k : Nat) : Word :=
  word (packBits ((List.range 32).map fun i => s.cond (32 * k + i)))

/-- FLT_CNTk (R519). -/
def State.fltCnt (s : State) (k : Nat) : Word :=
  let total := s.fld .fltCnt 0 16 k
  match s.window k s.timeBase with
  | some (_, c) => word (total + 65536 * min 255 c + 2 ^ 31)
  | none => word total

/-! ### Clears, injection and the log's readers -/

/-- A write to FLT_CLEAR (R508) (DEDUCED, log 41). -/
def State.fltClear (s : State) (v : Word) : Status × State :=
  let fb := bit v 0
  let dk := bit v 1
  if s.faults.halt || (fb && s.faults.fbBy.any s.cond) || (dk && s.faults.darkBy.any s.cond) then (.state, s)
  else
    let s1 := if fb then s.onFaults fun f => { f with fallback := false, fbBy := [] } else s
    let s2 := if dk then
        ((s1.onFaults fun f => { f with dark := false, darkBy := [] }).onGuard fun g =>
          { g with po1 := { g.po1 with ovl := false }, po2 := { g.po2 with ovl := false } }).guardOutputs
      else s1
    (.ok, if bit v 2 then ((s2.wr .fltFirst 0).wr .fltFirstTimeLo 0).wr .fltFirstTimeHi 0 else s2)

/-- A write to FLT_INJ (R516): `real` are the real events of its cycle. -/
def State.inject (s : State) (v : Word) (real : List FaultReport) : Status × State :=
  let k := field v 0 7
  if s.boot.otp.lc ≠ 1 then (.lifecycle, s)
  else if unusedSource k then (.addrRange, s)
  else if real = [] then
    (.ok, (s.count .fltInjCnt 0 16).onFaults fun f => { f with injected := some { source := k, detail := field v 16 16 } })
  else
    (.ok, ((s.count .fltInjCnt 16 16).flag .fltEvent 3).onFaults fun f => { f with reports := f.reports ++ real })

/-- A record of the log (R515): in the buffer or in the ring. -/
def State.logFind (s : State) (seq : Nat) : Option LogRecord :=
  (s.faults.buffer ++ s.faults.ring).find? fun r => r.getD 0 0 == word seq

/-- The record stands in flash with an uncorrectable error (R524). -/
def State.logSpoilt (s : State) (seq : Nat) : Bool :=
  s.faults.logBad.contains seq && !s.faults.buffer.any fun r => r.getD 0 0 == word seq

/-- A record is captured for a port (R515, R623). -/
def State.logCapture (s : State) (p : Port) (v : Word) (r : LogRecord) : State :=
  (List.range 8).foldl (fun t i => t.wrp p .fltLogData (r.getD i 0) i) (s.wrp p .fltLogSel v)

/-- A write to FLT_LOG_SEL (R515); a record that cannot be read gives words of 0 with CRC_FAIL (R524). -/
def State.logSelect (s : State) (p : Port) (v : Word) : Status × State :=
  match s.logFind v.toNat with
  | some r =>
    if s.logSpoilt v.toNat then (.crcFail, (s.logCapture p v []).report 0x2A) else (.ok, s.logCapture p v r)
  | none => (.addrRange, s)

/-- The ring of the log takes a record (R513): with the first record of a 4 KiB sector, of 128 records, the device erases the
sector after it, before the head can enter that one; so no more than 32,640 records stand in flash (DEDUCED, log 99). -/
def Faults.toRing (f : Faults) (r : LogRecord) : Faults :=
  { f with ring := r :: (if f.ringPos % 128 = 0 then f.ring.take 32512 else f.ring)
           ringPos := (f.ringPos + 1) % 32768 }

/-- The oldest buffered record is in flash (R513, R514); an entry to SLEEP may go on. -/
def State.logWritten (s : State) : State :=
  match s.faults.buffer with
  | [] => s
  | r :: t => (s.onFaults fun f => { f.toRing r with buffer := t }).sleepProceed

/-- A window elapses with no event (R505). -/
def State.windowElapse (s : State) (k : Nat) : State :=
  match s.faults.windows.find? fun e => e.1 == k with
  | some (_, st, _) =>
    let s1 := s.advance (s.tbStart + (st + s.fld .fltMap 16 16 k * 156250) * fabCycle)
    s1.onFaults fun f => { f with windows := f.windows.filter fun e => e.1 != k }
  | none => s

/-! ### Memory errors -/

/-- The running pass reads the aligned 8-byte word at address `w` of layer memory (R503, source 0x22). -/
def State.passReadsLayer (s : State) (w : Nat) : Bool :=
  match s.comp.run with
  | some r => (List.range 7).any fun n => { s with ecc := [w] }.layerUe r.frame n
  | none => false

/-- The running pass composes the fallback pattern, which lies in bank `b` of the cellar with address `a` (R503, source
0x24). -/
def State.passReadsBank (s : State) (b a : Nat) : Bool :=
  match s.comp.run with
  | some r => r.frame.pattern && decide (bankBase b ≤ a) && decide (a < bankBase b + 0x10000)
  | none => false

/-- A memory error that a pass, the scan-out or the control processor meets (R503) (DEDUCED, log 59). -/
def State.memoryEcc (s : State) (place : EccPlace) (corrected : Bool) : State :=
  let s := if corrected then s.pmc 0x41 else s
  match place with
  | .cpuSram => if corrected then s.report 0x21 else (s.report 0x20).cpuHalts
  | .layerMem a =>
    if corrected then s.report 0x23
    else
      let s1 := { s with ecc := addNat (a / 8 * 8) s.ecc }.report 0x22
      if s.passReadsLayer (a / 8 * 8) then s1.dropRun else s1
  | .cellar a =>
    if corrected then s.report 0x25
    else
      let s1 := { s with ecc := addNat (a / 8 * 8) s.ecc }.report 0x24
      match s1.boot.plate with
      | some pl =>
        let s2 := if s.passReadsBank pl.fbBank a then s1.dropRun else s1
        if bankBase pl.fbBank ≤ a ∧ a < bankBase pl.fbBank + 0x10000 then
          s2.onComp fun c => { c with fbReload := true }
        else s2
      | none => s1
  | .tileStore b i =>
    if corrected then s.report 0x27
    else (s.onScan fun c =>
      let put (x : Buffer) : Buffer := { x with words := x.words.filter (fun e => e.1 != i) ++ [(i, maskWord)] }
      if b then { c with buf1 := put c.buf1 } else { c with buf0 := put c.buf0 }).report 0x26
  | .pipeRam => if corrected then s else (s.report 0x28).dropRun
  | .queue p => if corrected then s else ((s.abandon p).clearPort p).report 0x29
  | .flash a => if corrected then s.report 0x2B else (s.flashFails a).report 0x2A
  | .logRecord q =>
    if corrected then s.report 0x2B
    else (s.onFaults fun f => { f with logBad := addNat q f.logBad }).report 0x2A
  | .storeroom g => if corrected then s.count .calEccCnt 0 32 else s.storeEcc g

end Sys2Proof.Machine
end

