-- ==== Sys2Proof/Machine/Boot.lean ====
section
/-! DEFINITION. Start, wake, images, plate, updates, life-cycle, self-test and customer area (R453, R464, R473 to R478,
R522 to R554, R592, R601). -/

namespace Sys2Proof.Machine

/-! ### Images -/

/-- Header fields of an image, from its bytes (R525). -/
structure ImageHeader where
  type : Nat
  length : Nat
  version : Word
  secver : Nat
  keyslot : Nat
  part : Word
  minfw : Word
  setver : Nat
deriving DecidableEq, Repr

/-- A little-endian number of `n` bytes of the flash. -/
def State.flashNat (s : State) (a n : Nat) : Nat := leNat (s.flashBytes a n)

/-- The header of the image in slot `k`. -/
def State.header (s : State) (k : Nat) : ImageHeader :=
  let b := imageBase k
  { type := s.flashNat b 4, length := s.flashNat (b + 4) 4, version := word (s.flashNat (b + 8) 4)
    secver := s.flashNat (b + 0xC) 2, keyslot := s.flashNat (b + 0xE) 2, part := word (s.flashNat (b + 0x10) 4)
    minfw := word (s.flashNat (b + 0x14) 4), setver := s.flashNat (b + 0x18) 4 }

/-- TYPE, LENGTH and PART agree with slot `k` (R527). -/
def ImageHeader.fits (h : ImageHeader) (k : Nat) : Bool :=
  decide (h.type = if k < 2 then 1 else 2) && decide (0x100 ≤ h.length) && decide (h.length ≤ imageRoom k)
    && decide (h.part = 0x46581048)

/-- The public key of a key slot, where it is programmed and not revoked (R526). -/
def Otp.key (o : Otp) (i : Nat) : Option (Nat × Nat) := if o.revoked.getLsbD i then none else o.keys.getD i none

/-- The signature of the image in slot `k` verifies with its key (R525, R527) (PRESUMED, log 19). -/
def State.signed (s : State) (k : Nat) (h : ImageHeader) : Bool :=
  let b := imageBase k
  let mine := if k < 2 then decide (h.keyslot < 2) else decide (2 ≤ h.keyslot) && decide (h.keyslot < 4)
  match s.boot.otp.key h.keyslot with
  | some (x, y) =>
    mine && ecdsaVerify x y (sha256 (s.flashBytes b 0x40 ++ s.flashBytes (b + 0x80) (h.length - 0x80)))
      (beNat (s.flashBytes (b + 0x40) 32)) (beNat (s.flashBytes (b + 0x60) 32))
  | none => false

/-- KEYSLOT, SIG and SECVER pass (R527). -/
def State.authentic (s : State) (k : Nat) (h : ImageHeader) : Bool :=
  s.signed k h && decide ((if k < 2 then s.boot.otp.fwsec else s.boot.otp.plsec) ≤ h.secver)

/-- The image in slot `k` cannot be read without an uncorrectable error (R524): its verification fails. -/
def State.imageSpoilt (s : State) (k : Nat) : Bool := s.flashSpoilt (imageBase k) (s.header k).length

/-- The image in slot `k` is valid for it (R527, R524). -/
def State.imageValid (s : State) (k : Nat) : Bool :=
  let h := s.header k
  h.fits k && !s.imageSpoilt k && s.authentic k h

/-! ### Image slots -/

def State.image (s : State) (k : Nat) : ImageSlot := s.boot.slots.getD k {}

def State.onImage (s : State) (k : Nat) (f : ImageSlot → ImageSlot) : State :=
  s.onBoot fun b => { b with slots := modifyAt f k b.slots }

/-- The two slots of a target (false firmware, true plate). -/
def targetSlots (t : Bool) : List Nat := if t then [2, 3] else [0, 1]

/-- Phase B is complete (R530): the one-time-programmable memory and the boot record have been read. -/
def State.recordRead (s : State) : Bool :=
  match s.power.stage with
  | .phase .a => false
  | .phase .b => false
  | .phase _ => true
  | .recovery => true
  | .complete => true
  | _ => false

/-- The slot of a target in a role; none before the boot record has been read. -/
def State.inRole (s : State) (t : Bool) (r : ImageRole) : Option Nat :=
  if s.recordRead then (targetSlots t).find? fun k => decide ((s.image k).role = r) else none

/-- The ACTIVE slot of a target; slot A where the boot record names none (DEDUCED, log 46). -/
def State.activeSlot (s : State) (t : Bool) : Nat := (s.inRole t .active).getD (if t then 2 else 0)

/-- The other slot of the same target. -/
def otherSlot (k : Nat) : Nat := if k % 2 = 0 then k + 1 else k - 1

/-- A TRIAL slot at a start is rolled back (R542). -/
def State.rollBack (s : State) (t : Bool) : State :=
  match s.inRole t .trial with
  | some k => (s.onImage k fun x => { x with role := .none }).writeRecord.flag .botEvent 0
  | none => s

/-- A PENDING image that fails at a start (R542). -/
def State.pendingFails (s : State) (k : Nat) : State :=
  (s.onImage k fun x => { x with state := .invalid, role := .none }).writeRecord.flag .botEvent 0

/-- A PENDING image that a start runs becomes TRIAL (R542): the boot record is written before it runs. -/
def State.toTrial (s : State) (k : Nat) : State := (s.onImage k fun x => { x with role := .trial }).writeRecord

/-! ### Firmware -/

/-- Firmware slot `k` is the one started. -/
def State.runFirmware (s : State) (k : Nat) : State :=
  let h := s.header k
  s.onBoot fun b => { b with fwSlot := k, fwTrial := decide ((s.image k).role = .trial), fwVersion := h.version
                             fwSetver := h.setver, recovery := false }

/-- Neither firmware is valid (R532): `first` failed first. -/
def State.enterRecovery (s : State) (first : Nat) : State :=
  (s.onBoot fun b => { b with recovery := true, failedFirst := first }).onPower fun w => { w with stage := .recovery }

/-- The ACTIVE firmware, else the other slot, else recovery (R530, R532); `readable` says that the first image read
is free of an uncorrectable error (R524), and `failed` names a slot that has already failed
(DEDUCED, log 47). -/
def State.startActive (s : State) (readable : Bool) (failed : Option Nat) : State × Bool :=
  let a := s.activeSlot false
  let o := otherSlot a
  if readable && s.imageValid a then (s.runFirmware a, true)
  else if failed ≠ some o ∧ s.imageValid o then ((s.runFirmware o).flag .botEvent 4, true)
  else (s.enterRecovery (failed.getD a), false)

/-- Phase C (R530, R542): the new state, and whether a firmware is to be started. Whatever comes of it, a start ends every
TRIAL, that of a plate too. -/
def State.chooseFirmware (s : State) (readable : Bool) : State × Bool :=
  let s1 := (s.rollBack false).rollBack true
  match s1.inRole false .pending with
  | some k =>
    if readable && s1.imageValid k then
      ((s1.toTrial k).runFirmware k, true)
    else (s1.pendingFails k).startActive true (some k)
  | none => s1.startActive readable none

/-! ### Plate -/

/-- A word of FLT_MAPk that R505 and R518 allow. -/
def mapWordOk (w : Word) : Bool :=
  decide (field w 0 3 ≤ 4) && !bit w 3 && decide (field w 4 3 ≤ 4) && !bit w 7 && decide (1 ≤ field w 8 8)
    && decide (1 ≤ field w 16 16)

/-- The reset value of FLT_MAPk. -/
def mapReset : Word := 0x00010100

/-- The entry of source `k` in the reaction matrix of a plate. -/
def plateMap (pl : Plate) (k : Nat) : Word := tabGet mapReset pl.fltMap k

/-- The RWL registers, in the order of BOT_PLATE_LOCK (R553). -/
def rwlRegs : List Reg :=
  [.scnIfs, .scnDiagCfg, .scnDiagVth, .scnDiagLim, .calCfg, .safInCfg, .safPoCfg, .safTestCfg, .safFaCfg, .safHbCfg]

/-- The value that a plate gives an RWL register. -/
def plateRwl (pl : Plate) (r : Reg) : Word := tabGet r.row.reset pl.rwl (r.addr 0 0)

/-- No number of a list stands in it twice. -/
def distinct : List Nat → Bool
  | [] => true
  | x :: t => !t.contains x && distinct t

/-- Every field of the plate lies in its range (R534, code 0x5). -/
def plateRangeOk (pl : Plate) : Bool :=
  let present := List.range pl.nlayers
  let scalers := (present.map fun n => pl.szr.getD n 7).filter (· != 7)
  let entryOk (w : Word) : Bool := decide (w.toNat < 2 ^ 17)
  decide (1 ≤ pl.nlayers) && decide (pl.nlayers ≤ 6)
    && pl.ops.all (decide <| · ≤ 4) && pl.fmt.all (decide <| · ≤ 3) && pl.pal.all (decide <| · ≤ 7)
    && pl.szr.all (fun j => decide (j ≤ 3) || decide (j = 7)) && distinct scalers
    && present.all (fun n => decide (pl.pal.getD n 0 ≠ pl.sealPal))
    && decide (pl.sealPal ≤ 7) && decide (pl.fbBank ≤ 7)
    && decide (pl.palettes.length ≤ 8) && pl.palettes.all (fun t => t.all fun e => decide (e.1 < 256) && entryOk e.2)
    && decide (pl.slots.length ≤ 64)
    && pl.slots.all (fun x => decide (x.1 ≤ 2047) && decide (1 ≤ x.2.1) && decide (x.2.1 ≤ 2048))
    && pl.modes.getLsbD 0 && decide (pl.syncRole ≤ 3)
    && pl.fltMap.all (fun e => decide (e.1 < 128) && mapWordOk e.2 && (!unusedSource e.1 || decide (e.2 = mapReset)))
    && decide (pl.vf0L ≤ 8191) && decide (pl.rsL ≤ 65535) && decide (pl.vf0R ≤ 8191) && decide (pl.rsR ≤ 65535)
    && rwlRegs.all (fun r => r.legal (plateRwl pl r) && decide (r.kept (plateRwl pl r) = plateRwl pl r))
    && (List.range 16).all (fun i =>
      decide ((tabGet 0 pl.pattern (0x8000 + 4 * i + 2)).toNat ≤ 1) && decide (tabGet 0 pl.pattern (0x8000 + 4 * i + 3) = 0))

/-- A run of pages meets another run of a list. -/
def meetsRun (x : Nat × Nat × Bool) (l : List (Nat × Nat × Bool)) : Bool :=
  l.any fun y => decide (x.1 < y.1 + y.2.1) && decide (y.1 < x.1 + x.2.1)

/-- No two slots overlap, and none reaches past page 2,047 (R534, code 0x6). -/
def slotsOk : List (Nat × Nat × Bool) → Bool
  | [] => true
  | x :: t => decide (x.1 + x.2.1 ≤ 2048) && !meetsRun x t && slotsOk t

/-- No source is mapped below its floor (R504; code 0x7). -/
def plateFloorsOk (pl : Plate) : Bool :=
  (List.range 128).all fun k =>
    decide (floorOf k ≤ field (plateMap pl k) 0 3) && decide (floorOf k ≤ field (plateMap pl k) 4 3)

/-- The fallback pattern agrees with its CRC-32C (R191; code 0x8). -/
def platePatternOk (pl : Plate) : Bool :=
  let b (i : Nat) : Byte := tabGet 0 pl.pattern i
  crc32c ((List.range 0x8040).map b) == wordOf (b 0x8040) (b 0x8041) (b 0x8042) (b 0x8043)

/-- Every budget lies between 1 and its bound (code 0x9). -/
def plateBudgetsOk (pl : Plate) : Bool :=
  let ok (hi n : Nat) : Bool := decide (1 ≤ n) && decide (n ≤ hi)
  ok 10000 pl.budPkg && ok 5000 pl.budDieL && ok 5000 pl.budDieR
    && (List.range 16).all fun g => ok 1400 (pl.budReg.getD g 0)

/-- The reason of R534 that a plate's own fields give, 0 for none. -/
def plateFieldReason (pl : Plate) : Nat :=
  if !plateRangeOk pl then 5
  else if !slotsOk pl.slots then 6
  else if !plateFloorsOk pl then 7
  else if !platePatternOk pl then 8
  else if !plateBudgetsOk pl then 9
  else 0

/-- The fields in the body of the image in slot `k` (log 8). -/
def State.plateIn (s : State) (k : Nat) : Plate :=
  Config.plateFields (s.flashBytes (imageBase k + 0x80) ((s.header k).length - 0x80))

/-- The reason of R534 for slot `k`, 0 where it holds a valid plate; an uncorrectable error in the read makes the image
fail its verification (R524) (DESIGN CHOICE, log 8; DEDUCED, log 47). -/
def State.plateReason (s : State) (k : Nat) (readable : Bool) : Nat :=
  let h := s.header k
  if (s.image k).state = .empty then 1
  else if !h.fits k then 2
  else if !readable || s.imageSpoilt k || !s.authentic k h then 3
  else if s.boot.fwVersion.toNat < h.minfw.toNat then 4
  else plateFieldReason (s.plateIn k)

/-- The sync role in effect (R98): with STRAP the SYNCROLE land selects it. -/
def State.syncRoleOf (s : State) (pl : Plate) : Nat :=
  if pl.syncRole = 3 then (if bit (s.rd .glbStrap) 2 then 2 else 1) else pl.syncRole

/-- Values are written to the registers of one row, from index `k` upward. -/
def State.wrList (s : State) (r : Reg) : Nat → List Word → State
  | _, [] => s
  | k, v :: t => (s.wr r v k).wrList r (k + 1) t

/-- As `wrList`, by hardware (R22). -/
def State.hwWrList (s : State) (r : Reg) : Nat → List Word → State
  | _, [] => s
  | k, v :: t => (s.hwWr r v k).hwWrList r (k + 1) t

/-- Two 16-bit fields in a word. -/
def pairWord (lo hi : Nat) : Word := word (lo % 65536 + 65536 * hi)

/-- A valid plate is loaded (R535). -/
def State.loadPlate (s : State) (pl : Plate) : State :=
  let s1 := s.onBoot fun b => { b with plate := some pl }
  let s2 := rwlRegs.foldl (fun t r => t.wr r (plateRwl pl r)) s1
  let s3 := s2.wrList .fltMap 0 ((List.range 128).map (plateMap pl))
  let s4 := ((s3.wr .drvBudgetPkg (word pl.budPkg)).wr .drvBudgetDie (pairWord pl.budDieL pl.budDieR)).wrList
    .drvBudgetReg 0 ((List.range 8).map fun i => pairWord (pl.budReg.getD (2 * i) 0) (pl.budReg.getD (2 * i + 1) 0))
  let s5 := s4.onComp fun c =>
    { c with pals := (List.range 8).map fun q => pl.palettes.getD q []
             slots := (List.range 64).map fun k => if k < pl.slots.length then { mode := .free } else {} }
  let s6 := s5.onScan fun c => { c with role := s.syncRoleOf pl }
  ((s6.reloadPattern pl).setNpc).takeTestCfg.guardOutputs

/-- A load of slot `k` is refused with a reason of R534 (BOT_PLATE_STAT). -/
def State.plateRefused (s : State) (k reason : Nat) : State :=
  (s.setFld .botPlateStat 4 4 reason).setFld .botPlateStat 8 1 (k % 2)

/-- The plate of slot `k` runs. -/
def State.runPlate (s : State) (k : Nat) : State :=
  (s.loadPlate (s.plateIn k)).onBoot fun b =>
    { b with plSlot := k, plTrial := decide ((s.image k).role = .trial) }

/-- The ACTIVE plate is loaded, if it passes (R530, R535). -/
def State.startPlate (s : State) (readable : Bool) : State :=
  let a := s.activeSlot true
  let why := s.plateReason a readable
  if why = 0 then s.runPlate a else s.plateRefused a why

/-- Phase F (R530, R542). -/
def State.choosePlate (s : State) (readable : Bool) : State :=
  match s.inRole true .pending with
  | some k =>
    let why := s.plateReason k readable
    if why = 0 then (s.toTrial k).runPlate k
    else ((s.pendingFails k).plateRefused k why).startPlate true
  | none => s.startPlate readable

/-! ### Settings at a start -/

/-- Phase E (R545, R546): the copy in use, and its migration; `passed` says that the migrated copy passes its check. One that
fails it has overwritten what the other copy held. -/
def State.readSettings (s : State) (passed : Bool) : State :=
  match s.chooseCopy with
  | none => s.onBoot fun b => { b with defaults := true, copyUsed := false, migrated := false }
  | some c =>
    let s1 := s.onBoot fun b => { b with defaults := false, copyUsed := c, migrated := false }
    let old := s1.settings
    if s.boot.fwSetver ≤ old.setver then s1
    else
      let new := some { old with setver := s.boot.fwSetver, seq := old.seq + 1, version := s.boot.fwVersion, intact := passed }
      let s2 := s1.onBoot fun b => if c then { b with copyA := new } else { b with copyB := new }
      if passed then s2.onBoot fun b => { b with copyUsed := !c, migrated := true } else s2.flag .botEvent 2

/-! ### Resets -/

/-- The control die stops (R456, R510, R528, R529): what it runs ends, and the reactions clear. A restart that the guardian
has still to make is made with it (DEDUCED, log 40). -/
def State.controlDown (s : State) : State :=
  let s1 := (s.cutCopy.arraysOff.phyOff .A).phyOff .B
  let s2 := s1.onPower fun w =>
    { w with trans := none, stage := .waiting, doms := 0, rising := 0, cpuRun := false, cpuHalt := false, hbSent := none
             refClock := false, pll := false
             banks := w.banks.map fun b => if b = .on then .off else b }
  let s3 := s2.onBoot fun b =>
    { b with sessionFw := none, sessionPl := none, jobs := [], cust := none, bist := none }
  let s4 := s3.onFaults fun f => { logHead := f.logHead, ring := f.ring, ringPos := f.ringPos, logBad := f.logBad }
  (s4.onGuard fun g =>
    { g with armed := false, hbTimer := none, badBeats := 0, goodBeats := 0, haltTold := false, faLatched := false
             restartAt := none, faDiffs := 0, po1 := { g.po1 with ovl := false }, po2 := { g.po2 with ovl := false } }).guardOutputs

/-- The guardian begins step 1 once VIO and VPHY are good and RESET_N is high (R592, R601): AVSBus reads its Version once
and rail 0 is switched on (R466, R476; DEDUCED, log 95). -/
def State.proceedStart (s : State) : State :=
  let w := s.power
  if w.stage = .waiting ∧ w.vin ∧ w.vio ∧ w.vphy ∧ w.resetN then
    ((s.onPower fun w => { w with stage := .step 1 0, stepAt := s.now }).avsFrame 0 .version none).railUp
  else s

/-- A start with a cause of R528 waits for its first step. -/
def State.holdStart (s : State) (cause : Nat) : State :=
  let x : PowerState := match s.power.state with
    | .sleep => .sleep
    | .off => .off
    | _ => .standby
  let s1 := s.controlDown.onPower fun w =>
    { w with state := x, wake := decide (cause = 7), restarted := decide (cause = 3) }
  s1.wr .botResetCause (word cause)

/-- A start begins (R528, R530) (DEDUCED, log 48). -/
def State.beginStart (s : State) (cause : Nat) : State := (s.holdStart cause).proceedStart

/-- Keys of the register file in the AON domain that a start keeps (R529, R625): BOT_RESET_CAUSE and the strap levels
are written before the register reset, and the refusal records outlive a wake only (R462) (DEDUCED, log 48). -/
def aonKey (wake : Bool) (k : Nat) : Bool :=
  decide (k = 0x00000C) || (decide (0x0D0000 ≤ k) && decide (k < 0x0E0000)) || decide (k = 0x0C0010)
    || decide (k = 0x0C0014) || decide (k = 0x0C0018) || decide (k = 0x0C001C)
    || (wake && (decide (k = 0x0C0020) || (decide (0x0C0100 ≤ k) && decide (k < 0x0C0140)))) || decide (k = 0x110008)
    || decide (k = 0x110184) || (decide (0x110190 ≤ k) && decide (k < 0x1101B0))

/-- Cellar addresses that a wake keeps (R465). -/
def retainedAt (retain : BitVec 8) (a : Nat) : Bool :=
  decide (cellarBase ≤ a) && decide (a < cellarBase + cellarSize) && retain.getLsbD ((a - cellarBase) / 0x10000)

/-- A port after the register reset. What it has sent stays on record. -/
def PortState.fresh (x : PortState) (now : Nat) : PortState :=
  { wire := x.wire, tx := x.tx.halt now, busNack := x.busNack, silent := some (now, 1000000000) }

/-- Step 4 of R476 (R464, R529, R612): the registers take their reset values, the memories read 0 but for retained
cellar banks, the time base starts, and the management bus takes over (DEDUCED, log 48). -/
def State.registerReset (s : State) : State :=
  let w := s.power
  let r := State.reset
  let keep (a : Nat) : Bool := w.wake && retainedAt w.retain a
  let (n0, s1) := s.draw
  let (n1, s2) := s1.draw
  { r with
    now := s.now, tbStart := s.now, free := s2.free, pending := s.pending
    regs := tabFilter (aonKey w.wake) s.regs
    mem := tabFilter keep s.mem
    ecc := s.ecc.filter keep
    portA := s.portA.fresh s.now
    portB := s.portB.fresh s.now
    linkA := { r.linkA with sent := s.linkA.sent }
    linkB := { r.linkB with sent := s.linkB.sent }
    tap := s.tap
    cal := { r.cal with save := (s.now, r.cal.save.2) }
    adc := { r.adc with urgentAt := List.replicate 24 s.now }
    faults := { r.faults with logHead := s.faults.logHead, ring := s.faults.ring, ringPos := s.faults.ringPos, logBad := s.faults.logBad }
    guard := { s.guard with sleepDisc := [], inj := if s.boot.otp.lc = 1 then s.guard.inj else 0 }
    power := { r.power with
      state := .standby, stage := .phase .a, wake := w.wake, doms := 0x01, rising := 0x0E
      rails := [{ on := true, acked := s.vcoreTarget }, {}, {}, {}]
      avs := w.avs, vin := w.vin, vio := w.vio, vphy := w.vphy, resetN := w.resetN, wakeFailed := w.wakeFailed
      hrTimL := (s.now, r.power.hrTimL.2), hrTimR := (s.now, r.power.hrTimR.2)
      retain := w.retain, wakeCfg := w.wakeCfg, restarted := w.restarted, straps := w.straps
      banks := if w.wake then w.banks else r.power.banks }
    boot := { r.boot with
      otp := s.boot.otp, flash := s.boot.flash, slots := s.boot.slots, copyA := s.boot.copyA, copyB := s.boot.copyB
      recA := s.boot.recA, recB := s.boot.recB, flashBad := s.boot.flashBad, nonce := n1 ++ n0 }
    answer := s.answer }

/-- Sources that a start reports (R484, R495, R503) (DEDUCED, log 49, 60, 61). -/
def State.startReports (s old : State) : State :=
  let s1 := old.guard.sleepDisc.foldl (fun t k => t.report k) s
  let s2 := if old.guard.hbReport then (s1.onGuard fun g => { g with hbReport := false }).report 0x76 else s1
  if old.power.restarted then s2.report 0x14 else s2

/-- Step 4 of R476 is complete (DESIGN CHOICE, log 3; DEDUCED, log 57, 63). -/
def State.controlUp (s : State) : State :=
  let s1 := s.registerReset.wr .glbStrap (s.power.straps.zeroExtend 32)
  let s2 := if s.boot.otp.lc = 1 then s1 else s1.wr .safInj 0
  s2.startReports s

/-! ### Supplies and pins -/

/-- VIN rises above the lockout threshold (R456): the AON domain starts with both pairs OPEN (R484), and the counter of
the off-pulse tests with it (DEDUCED, log 48). -/
def State.vinRise (s : State) : State :=
  if s.power.vin then s
  else
    let p := s.testPeriod
    let s1 := (s.onPower fun w => { w with vin := true, wakeFailed := false }).onGuard fun g =>
      { g with sia := {}, sib := {}, testAt := s.now, testLen := p, testNext := p }
    s1.beginStart (if s1.power.resetN then 1 else 2)

/-- VIN falls below the lockout threshold (R456): OFF. The guardian loses its state, and so do the AON registers
(DEDUCED, log 48). -/
def State.vinFall (s : State) : State :=
  if s.power.vin then
    let s1 := s.controlDown
    let s2 := s1.onPower fun w =>
      { w with state := .off, stage := .idle, vin := false, wake := false, restarted := false
               rails := [{}, {}, {}, {}], banks := List.replicate 8 .off }
    { s2 with guard := {}, regs := tabFilter (fun k => decide (k = 0x00000C)) s2.regs, mem := [], ecc := [] }
  else s

/-- PO1 is off while the reset is held (R601): without the LAG of an off-demand. -/
def State.po1Held (s : State) : State := if s.guard.po1.cmd then s.po1Off.guardOutputs else s

/-- The reset of R592 and R601 begins: cause 0x2 at the next start. A start that waits for its first steps after VIN has
risen is no longer OFF (R453). -/
def State.resetHeld (s : State) : State := if s.power.vin then (s.holdStart 2).po1Held else s

/-- RESET_N has been low for 2.2 us, or is released (R601). -/
def State.resetPin (s : State) (low : Bool) : State :=
  if low then (if s.power.resetN then (s.onPower fun w => { w with resetN := false }).resetHeld else s)
  else if s.power.resetN then s
  else (s.onPower fun w => { w with resetN := true }).proceedStart

/-- VIO or VPHY is good, or is not (R592). -/
def State.setSupply (s : State) (r : Supply) (good : Bool) : State :=
  s.onPower fun w => match r with
    | .vio => { w with vio := good }
    | .vphy => { w with vphy := good }

def State.supplyGood (s : State) : Supply → Bool
  | .vio => s.power.vio
  | .vphy => s.power.vphy

def State.supplyLost (s : State) (r : Supply) : State :=
  if s.supplyGood r then (s.setSupply r false).resetHeld else s

def State.supplyBack (s : State) (r : Supply) : State :=
  if s.supplyGood r then s else (s.setSupply r true).proceedStart

/-- A start of R530 begins with a cause of R528. -/
def State.startWith (s : State) (cause : Nat) : State :=
  if cause = 1 then s.vinRise
  else if cause = 7 then (if s.power.state = .sleep ∧ s.power.stage = .idle then s.beginStart 7 else s)
  else if 2 ≤ cause ∧ cause ≤ 8 ∧ s.power.vin then s.beginStart cause
  else s

/-! ### Wake -/

/-- A wake source that became active while a wake runs is recorded (R478). -/
def State.wakeAlso (s : State) (code : Nat) : State := s.setFld .pwrWakeStat (8 + code - 1) 1 1

/-- A wake has passed step 4 and its start sequence still runs (R476, step 5). -/
def State.wakeRuns (s : State) : Bool :=
  s.power.wake && match s.power.stage with
    | .phase _ => true
    | _ => false

/-- A wake source with a code of R481 becomes active (R457, R461, R473, R478) (DEDUCED, log 39, 49, 63). -/
def State.wakeSource (s : State) (code : Nat) : State :=
  match s.power.state, s.power.stage with
  | .sleep, .idle =>
    let s1 := (s.beginStart 7).setFld .pwrWakeStat 0 3 code
    ((s1.setFld .pwrWakeStat 8 4 0).setFld .pwrWakeStat 16 8 0).count .pwrWakeCnt 0 16
  | .sleep, st =>
    let old := s.fld .pwrWakeStat 0 3
    if !s.power.wake then s
    else if st = .step 1 0 ∧ s.power.stepAt / aonCycle = s.now / aonCycle ∧ code < old then
      (s.setFld .pwrWakeStat 0 3 code).wakeAlso old
    else s.wakeAlso code
  | _, _ =>
    if s.wakeRuns then s.wakeAlso code
    else
    match s.power.trans with
    | some t => if t.target = .sleep ∧ 2 ≤ t.step then s.abortSleep t 6 else s
    | none => s

/-- The wake settings in force: those latched at SLEEP entry step 4, before it those of the register (R481). -/
def State.wakeNow (s : State) : Word :=
  if s.power.state = .sleep ∨ s.wakeRuns then s.power.wakeCfg else s.rd .pwrWakeCfg

/-- The guardian listens for wake sources: in SLEEP, in an entry to it and while a wake runs (R463, R473, R478). -/
def State.wakeListens (s : State) : Bool := decide (s.power.state = .sleep) || s.power.trans.isSome || s.wakeRuns

/-- The 7-bit address of the device on a management bus (R280). -/
def State.busAddress (s : State) : Nat := 0x5C + field (s.rd .glbStrap) 0 2

/-- The address matcher of a port sees the first byte after a START (R473): the device's address starts a wake, and
with W it holds SCL; any other is ignored (DEDUCED, log 63). -/
def State.nativeWake (s : State) (p : Port) (target : Nat) (write : Bool) : State :=
  if decide (target = s.busAddress) && bit s.wakeNow (portIx p) && s.wakeListens then
    let s1 := s.wakeSource (1 + portIx p)
    if write ∧ s.power.state = .sleep then s1.onPort p fun x => { x with sclHeld := true, sclSince := s.now } else s1
  else s

/-- The squelch of lane 0, open or closed, in the periods that count: an opening or closing of less than 0.1 µs is
ignored (R475). Newest first. -/
def squelchPeriods : List (Bool × Nat) → List (Bool × Nat) → List (Bool × Nat)
  | [], acc => acc
  | (b, n) :: t, (c, m) :: acc =>
    squelchPeriods t (if n < usec / 10 ∨ b = c then (c, m + n) :: acc else (b, n) :: (c, m) :: acc)
  | (b, n) :: t, [] => squelchPeriods t (if n < usec / 10 then [] else [(b, n)])

/-- Bursts of the wake pattern seen so far, oldest period first: an idle of more than 20 µs restarts the count (R475);
an opening of less than 5 µs is no burst and leaves it (DEDUCED, log 83). -/
def burstsSeen : List (Bool × Nat) → Nat → Nat
  | [], n => n
  | (true, d) :: t, n => burstsSeen t (if 5 * usec ≤ d then n + 1 else n)
  | (false, d) :: t, n => if 3 ≤ n then n else burstsSeen t (if 20 * usec < d then 0 else n)

/-- What the squelch has shown wakes the device in a mode of PWR_WAKE_CFG (R475). -/
def squelchWakes (mode : Nat) (squelch : List (Bool × Nat)) : Bool :=
  let l := (squelchPeriods squelch []).reverse
  match mode with
  | 1 => l.any fun x => x.1 && decide (2 * usec ≤ x.2)
  | 2 => decide (3 ≤ burstsSeen l 0)
  | _ => false

/-- The lane-0 squelch detector of a port has been open and closed for these times, up to now (R475). -/
def State.laneWake (s : State) (p : Port) (squelch : List (Bool × Nat)) : State :=
  let mode := field s.wakeNow (4 + 2 * portIx p) 2
  if squelchWakes mode squelch ∧ s.wakeListens then s.wakeSource (3 + portIx p)
  else s

/-- 4 ms have passed since the guardian began to hold SCL (R474). -/
def State.sclRelease (s : State) (p : Port) : State :=
  if (s.port p).sclHeld then (s.advance ((s.port p).sclSince + 4 * msec)).sclGiveUp p else s

/-- A step of R476 reports completion. -/
def State.stepDone (s : State) : State :=
  match s.power.stage with
  | .step n _ =>
    if n < 4 then s.stepNext n else s.controlUp
  | _ => s

/-- One second has passed since a failed start (R530). -/
def State.startRetry (s : State) : State :=
  match s.power.stage with
  | .retry => ((s.advance (s.power.stepAt + 1000 * msec)).onPower fun w => { w with stage := .waiting }).proceedStart
  | _ => s

/-! ### Phases -/

def State.toPhase (s : State) (x : Phase) : State := s.onPower fun w => { w with stage := .phase x }

/-- The roles of a boot record are those of the slots. -/
def State.takeRoles (s : State) (roles : List ImageRole) : State :=
  s.onBoot fun b => { b with slots := b.slots.mapIdx fun k x => { x with role := roles.getD k .none } }

/-- Phase B (R530): the newer valid copy of the boot record gives the roles and the starts, which it counts; `passed` says
that the copies could be read. Without a valid copy firmware A and plate A are active and nothing is pending, and the
manual gives no count of starts (DESIGN CHOICE, log 3; DEDUCED, log 47, 96). -/
def State.readRecord (s : State) (passed : Bool) : State :=
  match s.newestRecord, passed with
  | some (_, r), true =>
    ((s.takeRoles r.roles).onBoot fun b => { b with starts := min (r.starts + 1) (2 ^ 32 - 1) }).writeRecord
  | _, _ =>
    let (n, s1) := s.draw
    ((s1.takeRoles [.active, .none, .active, .none]).onBoot fun b =>
      { b with recA := none, recB := none, starts := n.toNat }).writeRecord

/-- Phase H (R530, R477): the start is complete (DEDUCED, log 49). -/
def State.startComplete (s : State) : State :=
  let s1 := s.restoreDiag.onPower fun w => { w with stage := .complete }
  let s2 := s1.eventAll 0x06 2
  if s.power.wakeFailed then
    ((s2.onPower fun w => { w with wakeFailed := false }).flag .pwrEvent 6).report 0x09
  else s2

/-- A phase of R530 completes (DEDUCED, log 47). -/
def State.phaseDone (s : State) (passed : Bool) : State :=
  match s.power.stage with
  | .phase .a =>
    if passed then ((s.phyOn .A).phyOn .B).toPhase .b else s.onPower fun w => { w with stage := .dead }
  | .phase .b => (s.readRecord passed).toPhase .c
  | .phase .c => let (t, ok) := s.chooseFirmware passed; if ok then t.toPhase .d else t
  | .phase .d => (s.onPower fun w => { w with cpuRun := true, hbSent := some (s.now, s.hbPeriod) }).toPhase .e
  | .phase .e =>
    let s1 := ((s.domainOn .pipe true).domainOn .bulk true).domainOn .cellar true
    ((s1.readSettings passed).restoreTrims.restoreCoef).toPhase .f
  | .phase .f => ((s.choosePlate passed).onCal fun c => { c with loading := true }).toPhase .g
  | .phase .g => s.storeLoaded.toPhase .h
  | .phase .h => s.startComplete
  | _ => s

/-! ### Updates -/

/-- Words of the program buffer in use (R540) (DEDUCED, log 50). -/
def State.bufferUsed (s : State) : Nat :=
  let n (x : Option Session) : Nat := match x with
    | some u => u.buffer.length
    | none => 0
  n s.boot.sessionFw + n s.boot.sessionPl

/-- The inactive slot of a target (R532, R539): the one not started or not loaded. -/
def State.inactiveSlot (s : State) (t : Bool) : Nat :=
  if t then otherSlot (if s.boot.plate.isSome then s.boot.plSlot else s.activeSlot true)
  else if s.boot.recovery then s.boot.failedFirst
  else otherSlot s.boot.fwSlot

/-- The running image of a target is TRIAL. -/
def State.onTrial (s : State) (t : Bool) : Bool := if t then s.boot.plTrial else s.boot.fwTrial

/-- UPDATE_BEGIN (R539), once UPDATE is held. While the slot is WRITING, its VERSION and SECVER read 0, as those of a slot
without an image (R523; DESIGN CHOICE, log 117). -/
def State.updateBegin (s : State) (t : Bool) (size : Nat) : Status × State :=
  let k := s.inactiveSlot t
  if t && decide (s.boot.otp.lc = 3) then (.lifecycle, s)
  else if size < 0x100 ∨ size % 4 ≠ 0 ∨ imageRoom k < size then (.lenRange, s)
  else if s.power.cpuHalt || decide ((s.image k).role = .pending) || s.onTrial t || (t && s.boot.recovery) then
    (.state, s)
  else
    let s1 := (s.onImage k fun x => { x with state := .writing, version := 0, secver := 0 }).setSession t
      (some { size := size, words := [], buffer := [], erasing := true })
    (.ok, (s1.wr .botUpdStat (word (2 * boolNat t))).wr .botUpdWords 0)

/-- The erase of an inactive slot completes (R539): that of the firmware first (DEDUCED, log 50). -/
def State.eraseDone (s : State) : State :=
  let one (t : Bool) : Option State :=
    match s.session t with
    | some u =>
      if u.erasing then
        let k := s.inactiveSlot t
        some ((s.flashErase (imageBase k) (imageRoom k)).setSession t (some { u with erasing := false }))
      else none
    | none => none
  match one false with
  | some x => x
  | none => (one true).getD s

/-- The value that a session has recorded for word `i`. -/
def Session.at (u : Session) (i : Nat) : Option Word := (u.words.find? fun e => e.1 == i).map (·.2)

/-- UPDATE_BLOCK (R540): the number of words accepted is the length of the data (DEDUCED, log 50). -/
def State.updateBlock (s : State) (t : Bool) (off : Nat) (data : List Word) : Status × State :=
  match s.session t with
  | none => (if off % 4 = 0 then .state else .lenRange, s)
  | some u =>
    let ws := data.zipIdx.map fun (w, i) => (off / 4 + i, w)
    if off % 4 ≠ 0 ∨ u.size < off + 4 * data.length then (.lenRange, s)
    else if ws.any fun e => match u.at e.1 with
        | some v => decide (v ≠ e.2)
        | none => false then (.state, s)
    else if u.erasing || decide (16384 < s.bufferUsed + data.length) then (.busy, s)
    else
      let new := ws.filter fun e => (u.at e.1).isNone
      let n := u.words.length + new.length
      (.ok, (s.setSession t (some { u with words := u.words ++ new, buffer := u.buffer ++ new })).wr .botUpdWords
        (word n))

/-- Words of a buffer are programmed into slot `k`. -/
def State.programWords (s : State) (k : Nat) : List (Nat × Word) → State
  | [] => s
  | (i, w) :: t => (s.flashProgram (imageBase k + 4 * i) (bytesOfWord w)).programWords k t

/-- `n` words of a session are programmed; how many are left to program. -/
def State.drainSession (s : State) (t : Bool) (n : Nat) : State × Nat :=
  match s.session t with
  | none => (s, n)
  | some u =>
    let k := min n u.buffer.length
    ((s.programWords (s.inactiveSlot t) (u.buffer.take n)).setSession t (some { u with buffer := u.buffer.drop n }), n - k)

/-- Buffered words are programmed (R540), those of a firmware session first (DEDUCED, log 50). -/
def State.drain (s : State) (n : Nat) : State :=
  let (s1, left) := s.drainSession false n
  (s1.drainSession true left).1

/-- The slot shows the header that it holds, in state `st` (R523, R553, R554). -/
def State.showHeader (s : State) (k : Nat) (st : ImageState) : State :=
  s.onImage k fun x => { x with state := st, version := (s.header k).version, secver := (s.header k).secver }

/-- UPDATE_FINISH (R541): bytes that cannot be read back agree with no CRC (R524; DEDUCED, log 97). A slot that becomes
VALID or INVALID shows the header written to it. -/
def State.updateFinish (s : State) (t : Bool) (crc : Word) : Status × State :=
    match s.session t with
    | none => (.state, s)
    | some u =>
      let k := s.inactiveSlot t
      let invalid := (s.endSession t 5).showHeader k .invalid
      if 4 * u.words.length < u.size then (.state, s)
      else if u.buffer ≠ [] then (.busy, s)
      else if crc32c (s.flashBytes (imageBase k) u.size) ≠ crc ∨ s.flashSpoilt (imageBase k) u.size then
        (.crcFail, if s.flashSpoilt (imageBase k) u.size then invalid.report 0x2A else invalid)
      else if s.imageValid k then (.ok, (s.endSession t 4).showHeader k .valid)
      else (.authFail, invalid)

/-- BOT_UPD_STAT (R554). -/
def State.updStat (s : State) : Word :=
  let old := s.rd .botUpdStat
  let t := match s.boot.sessionFw, s.boot.sessionPl with
    | some _, none => false
    | none, some _ => true
    | _, _ => bit old 1
  let free := 256 * ((16384 - s.bufferUsed) / 4)
  match s.session t with
  | some u => word (1 + 2 * boolNat t + 4 * (if u.erasing then 1 else 2) + free)
  | none => word (2 * boolNat t + 4 * field old 2 3 + free)

/-- BOT_UPD_WORDS (R553). -/
def State.updWords (s : State) : Word :=
  match s.session (bit s.updStat 1) with
  | some u => word u.words.length
  | none => s.rd .botUpdWords

/-! ### Activation -/

/-- BOT_ACTIVATE for a slot, once UPDATE is held (R542): with NOW the boot record is written before the reset (DEDUCED,
log 46, 96). -/
def State.activate (s : State) (t b now : Bool) : Status × State :=
  let k := (if t then 2 else 0) + boolNat b
  let x := s.image k
  let go (y : State) : Status × State := (.ok, if now then y.beginStart 5 else y)
  let recorded (y : State) : Status × State := if now then go y.writeRecord else go (y.addJob .bootRecord)
  if s.power.cpuHalt || (now && decide (s.power.state ≠ .standby)) then (.state, s)
  else if k = s.activeSlot t then
    match s.inRole t .pending with
    | some q => recorded (s.onImage q fun y => { y with role := .none })
    | none => go s
  else if x.role = .pending then go s
  else if x.state = .valid ∧ x.role = .none then recorded (s.onImage k fun y => { y with role := .pending })
  else (.state, s)

/-- One target of BOT_CONFIRM (R542, R543). -/
def State.confirmOne (s : State) (t : Bool) : State :=
  match s.inRole t .trial with
  | none => s
  | some k =>
    let v := min 63 (s.image k).secver
    let s1 := (s.onImage (s.activeSlot t) fun x => { x with role := .none }).onImage k fun x => { x with role := .active }
    s1.onBoot fun b =>
      if t then { b with plTrial := false, otp := { b.otp with plsec := max b.otp.plsec v } }
      else { b with fwTrial := false, otp := { b.otp with fwsec := max b.otp.fwsec v } }

/-- BOT_CONFIRM, once UPDATE is held (R542) (DEDUCED, log 46). -/
def State.confirm (s : State) (v : Word) : Status × State :=
  let lacks (t : Bool) : Bool := (s.inRole t .trial).isNone
  if (bit v 0 && lacks false) || (bit v 1 && lacks true) then (.state, s)
  else
    let s1 := if bit v 0 then s.confirmOne false else s
    let s2 := if bit v 1 then s1.confirmOne true else s1
    (.ok, if bit v 0 || bit v 1 then s2.addJob .bootRecord else s2)

/-! ### Life-cycle and keys -/

/-- Bytes of the token registers (R549). -/
def State.tokenBytes (s : State) : List Byte := bytesOfWords ((List.range 16).map fun i => s.rd .botLcToken i)

/-- The message that a token signs (R549, R616). -/
def State.tokenMessage (s : State) (target : Nat) : List Byte :=
  let le8 (n : Nat) : List Byte := (List.range 8).map fun i => BitVec.ofNat 8 (n / 256 ^ i)
  le8 s.boot.otp.uid.toNat ++ le8 s.boot.nonce.toNat ++ [BitVec.ofNat 8 target]

/-- The token verifies with key slot 0 or 1 (R549) (PRESUMED, log 19). -/
def State.tokenOk (s : State) (target : Nat) : Bool :=
  let h := sha256 (s.tokenMessage target)
  let r := beNat (s.tokenBytes.take 32)
  let q := beNat (s.tokenBytes.drop 32)
  [0, 1].any fun i => match s.boot.otp.key i with
    | some (x, y) => ecdsaVerify x y h r q
    | none => false

/-- The nonce takes a new value (R549) (DESIGN CHOICE, log 3; DEDUCED, log 46). -/
def State.newNonce (s : State) : State :=
  let (n0, s1) := s.draw
  let (n1, s2) := s1.draw
  s2.onBoot fun b => { b with nonce := n1 ++ n0 }

/-- The flash areas that a transition wipes (R548) (DEDUCED, log 48). -/
def State.lifeWipe (s : State) (target : Nat) : State :=
  let s1 := s.onBoot fun b => { b with copyA := none, copyB := none, copyUsed := false }
  let s2 := if target = 3 then s1 else s1.onFaults fun f => { f with logHead := 0, buffer := [], ring := [], ringPos := 0, logBad := [] }
  let s3 := if target = 2 then s2 else s2.flashErase customerBase 0x400000
  if target = 3 then
    (((s3.flashErase (imageBase 2) 0x100000).onImage 2 fun _ => { role := .active }).onImage 3 fun _ => {}).writeRecord
  else s3

/-- A write of BOT_LC_REQ (R548, R549) (DEDUCED, log 46). -/
def State.lifeCycle (s : State) (target : Nat) : Status × State :=
  let n := s.newNonce
  if target ≠ s.boot.otp.lc + 1 then (.lifecycle, n)
  else if s.power.cpuHalt || decide (s.power.state ≠ .standby) || s.boot.sessionFw.isSome || s.boot.sessionPl.isSome then
    (.state, n)
  else if target = 3 && !s.tokenOk target then (.authFail, n)
  else (.ok, ((s.lifeWipe target).onBoot fun b => { b with otp := { b.otp with lc := target } }).beginStart 6)

/-- A number from registers of a row, low word first. -/
def State.wideReg (s : State) (r : Reg) (k : Nat) : Nat → Nat
  | 0 => 0
  | n + 1 => (s.rd r k).toNat + 2 ^ 32 * s.wideReg r (k + 1) n

/-- A write of BOT_KEY_CMD (R553). -/
def State.keyCommand (s : State) (v : Word) : Status × State :=
  let k := field v 0 2
  let o := s.boot.otp
  if o.lc ≠ 1 then (.lifecycle, s)
  else if k < 2 then (.state, s)
  else if bit v 8 then (.ok, s.onBoot fun b => { b with otp := { o with revoked := o.revoked ||| ((1 : BitVec 4) <<< k) } })
  else if (o.keys.getD k none).isSome then (.state, s)
  else
    let key := some (s.wideReg .botKeyData 0 8, s.wideReg .botKeyData 8 8)
    (.ok, s.onBoot fun b => { b with otp := { o with keys := modifyAt (fun _ => key) k o.keys } })

/-! ### Self-test -/

/-- A write of the flash is in progress (R550). -/
def State.flashBusy (s : State) : Bool :=
  !s.boot.jobs.isEmpty || s.updateWrites || !s.faults.buffer.isEmpty || decide (s.boot.cust = some .erase)
    || decide (s.boot.cust = some .program)

/-- A write of 1 to BOT_BIST_CTL.GO (R550). -/
def State.bistGo (s : State) (groups : Nat) : Status × State :=
  if s.power.cpuHalt || decide (s.power.state ≠ .standby) || decide (groups % 256 = 0) then (.state, s)
  else if s.boot.sessionFw.isSome || s.boot.sessionPl.isSome || s.flashBusy then (.busy, s)
  else
    let g := BitVec.ofNat 8 groups
    let s1 := (List.range 8).foldl (fun t k => t.wr .botBistSig 0 k) ((s.wr .botBistCtl (word (groups % 256))).wr .botBistRes 0)
    let s2 := s1.onBoot fun b => { b with bist := some g }
    let s3 := if g.getLsbD 3 then s2.phyOff .A else s2
    (.ok, if g.getLsbD 4 then s3.phyOff .B else s3)

/-- The golden signature of a group (R551) (DEDUCED, log 62). -/
def State.golden (s : State) (g : Nat) : Word := word (s.flashNat (goldenBase + 4 * g) 4)

/-- The factory-information partition agrees with its CRC-32C (R551) (DEDUCED, log 62). -/
def State.goldenOk (s : State) : Bool := crc32c (s.flashBytes goldenBase 0x10000) == s.boot.otp.goldenCrc

/-- The self-tests end (R550, R551): `sigs` holds a signature for each group (DEDUCED, log 62). -/
def State.bistDone (s : State) (sigs : List Word) : State :=
  match s.boot.bist with
  | none => s
  | some g =>
    let ok := s.goldenOk
    let ran := (List.range 8).filter fun k => g.getLsbD k
    let s1 := ran.foldl (fun t k => t.wr .botBistSig (sigs.getD k 0) k) s
    let failed := (List.range 8).map fun k => g.getLsbD k && (!ok || sigs.getD k 0 != s.golden k)
    (s1.wr .botBistRes (word (g.toNat + 256 * packBits failed))).beginStart 8

/-! ### Customer area -/

/-- A write of BOT_CUST_CMD (R552). -/
def State.custStart (s : State) (p : Port) (op : CustOp) : Status × State :=
  let a := (s.rd .botCustAddr).toNat
  let refused := if op = .read then none else s.gate p 2
  if a % 4096 ≠ 0 ∨ 0x400000 ≤ a then (.addrRange, s)
  else
    match refused with
    | some st => (st, s)
    | none =>
      if s.power.cpuHalt then (.state, s)
      else if s.boot.cust.isSome then (.busy, s)
      else (.ok, (s.onBoot fun b => { b with cust := some op, custAt := a }).wr .botCustStat 0)

/-- The words of the customer buffer. -/
def State.custBuffer (s : State) : List Word := (List.range 1024).map fun i => s.rd .botCustBuf i

/-- The customer operation in progress ends (R524, R552): what a read with an uncorrectable error put into the buffer reads
as 0 with CRC_FAIL (DEDUCED, log 62). -/
def State.custDone (s : State) (flashError : Bool) : State :=
  let a := customerBase + s.boot.custAt
  let flashError := flashError || (decide (s.boot.cust = some .read) && s.flashSpoilt a 4096)
  let close (t : State) (result : Nat) : State :=
    ((t.onBoot fun b => { b with cust := none }).setFld .botCustStat 1 3 result).sleepProceed
  match s.boot.cust with
  | none => s
  | some .read =>
    let words := if flashError then List.replicate 1024 0 else wordsOfBytes (s.flashBytes a 4096)
    let s1 := (s.hwWrList .botCustBuf 0 words).onBoot fun b => { b with custBad := flashError }
    close (if flashError then s1.report 0x2A else s1) (if flashError then 3 else 1)
  | some .erase => close (s.flashErase a 4096) (if flashError then 3 else 1)
  | some .program =>
    let bs := bytesOfWords s.custBuffer
    let s1 := s.flashProgram a bs
    close s1 (if flashError then 3 else if s1.flashBytes a 4096 = bs then 1 else 2)

/-- BOT_CUST_STAT (R553). -/
def State.custStat (s : State) : Word := s.rd .botCustStat ||| word (boolNat s.boot.cust.isSome)

/-! ### Registers -/

/-- A value that phase B reads from the one-time-programmable memory or the boot record: the register reads 0 before
(R529, R612). -/
def State.fromB (s : State) (v : Word) : Word := if s.recordRead then v else 0

/-- BOT_STATUS (R554). -/
def State.botStatus (s : State) : Word :=
  let b := s.boot
  s.fromB <| word (b.otp.lc + 4 * packBits [decide (b.fwSlot = 1), b.fwTrial, b.plate.isSome && decide (b.plSlot = 3),
    b.plTrial, b.recovery])

/-- Codes of BOT_SLOTSTk (R554). -/
def imageCode (x : ImageSlot) : Nat :=
  (match x.state with
    | .empty => 0
    | .writing => 1
    | .invalid => 2
    | .valid => 3)
  + 8 * (match x.role with
    | .none => 0
    | .active => 1
    | .pending => 2
    | .trial => 3)
  + 256 * (x.secver % 64)

/-- BOT_OTP_STAT (R553). -/
def State.otpStat (s : State) : Word :=
  let o := s.boot.otp
  word (packBits (o.keys.map Option.isSome) + 16 * o.revoked.toNat + 2 ^ 16 * (o.fwsec % 64) + 2 ^ 24 * (o.plsec % 64))

end Sys2Proof.Machine
end

