-- ==== Sys2Proof/Machine/Check.lean ====
section
/-! DEFINITION. The check-value units CHK0 to CHK3 (R555 to R566, R578, R579). -/

namespace Sys2Proof.Machine

/-- A scan of the unit runs. -/
def State.chkBusy (s : State) (u : Nat) : Bool := (s.chkScan u).isSome

/-- A write to CHK_CFGu, CHK_STATEu, CHK_COUNTu, a data register or a scan setting, while no scan of the
unit runs; BUSY otherwise (R563). -/
def State.chkGuard (s : State) (u : Nat) (t : State) : Status × State :=
  if s.chkBusy u then (.busy, s) else (.ok, t)

/-- CHK_CFGu (R557): ALG is set, the initial value loaded, the count cleared, also in the CK_FAB cycle in which a scan has
ended: what takes effect with ALG is no host write of the value or the count, so R22 does not keep it out. -/
def State.chkCfgSet (s : State) (u : Nat) (v : Word) : State :=
  ((s.wr .chkCfg v u).wr .chkState (crcInit (field v 0 2)) u).wr .chkCount 0 u

/-- CHK_STATEu (R558): refused when a bit at or above the width of the algorithm is 1. -/
def State.chkStateSet (s : State) (u : Nat) (v : Word) : Status × State :=
  if 2 ^ crcWidth (s.chkAlg u) ≤ v.toNat then (.state, s) else s.chkGuard u (s.swWr .A .chkState v u)

/-- CHK_RESULTu (R556). -/
def State.chkResult (s : State) (u : Nat) : Word := s.rd .chkState u ^^^ crcFinal (s.chkAlg u)

/-- CHK_STATUSu (R579). -/
def State.chkStatus (s : State) (u : Nat) : Word := s.rd .chkStatus u ||| word (boolNat (s.chkBusy u))

/-- Every page of a range of the bulk window belongs to a memory slot (R206, R562); `n` pages from page
`pg`. -/
def State.pagesDefined (s : State) (pg : Nat) : Nat → Bool
  | 0 => true
  | n + 1 => (s.slotAt (pageSize * pg)).isSome && s.pagesDefined (pg + 1) n

/-- The refusals of a GO write, in the order of R562. -/
def State.scanRefusal (s : State) (u a n : Nat) : Option Status :=
  let inBulk : Bool := decide (bulkBase ≤ a) && decide (a < bulkBase + bulkSize)
  let inCellar : Bool := decide (cellarBase ≤ a) && decide (a < cellarBase + cellarSize)
  let e := min (a + n) (bulkBase + bulkSize)
  let pg := (a - bulkBase) / pageSize
  let pages := if n = 0 then 0 else (e - 1 - bulkBase) / pageSize + 1 - pg
  if inBulk && s.boot.plate.isNone then some .notPlated
  else if !inBulk && !inCellar then some .addrRange
  else if inBulk && !s.pagesDefined pg pages then some .addrRange
  else if inBulk && decide (bulkBase + bulkSize < a + n) then some .lenRange
  else if inCellar && decide (cellarBase + cellarSize < a + n) then some .lenRange
  else if s.chkBusy u then some .busy
  else none

/-- A write of 1 to CHK_SCAN_CTLu.GO (R561, R562). A scan of length 0 ends at once. A scan that a GO write has found
running does not end in the CK_FAB cycle of that write (R21; DESIGN CHOICE, log 80). -/
def State.chkGo (s : State) (u : Nat) : Status × State :=
  let a := (s.rd .chkScanAddr u).toNat
  let n := s.fld .chkScanLen 0 24 u
  match s.scanRefusal u a n with
  | some .busy => (.busy, s.noteOne (Reg.chkScanCtl.key .A u 0))
  | some st => (st, s)
  | none =>
    if n = 0 then (.ok, s.setFld .chkStatus 1 2 1 u)
    else
      (.ok, s.setScan u (some { addr := a, left := n, saved := s.rd .chkState u
                                savedCount := s.rd .chkCount u }))

/-- The running scan of unit `u` reads the bytes that are left and ends (R561, R564, R565; log 13): at the first
uncorrectable error among them, which takes back what it has fed. -/
def State.chkEnd (s : State) (u : Nat) : State :=
  match s.chkScan u with
  | none => s
  | some x =>
    let s0 := if s.wroteOne (Reg.chkScanCtl.key .A u 0) then s.advance ((s.fab + 1) * fabCycle) else s
    let s1 := (s0.setScan u none).chkFeed u (memBytes s.mem x.addr (s.cleanBytes x.addr x.left))
    let s2 := if s.eccHit x.addr x.left then
        (((s1.wr .chkState x.saved u).wr .chkCount x.savedCount u).setFld .chkStatus 1 2 2 u).report
          (if x.addr < cellarBase then 0x22 else 0x24)
      else s1.setFld .chkStatus 1 2 1 u
    (s2.hwWr .chkState (s2.rd .chkState u) u).hwWr .chkCount (s2.rd .chkCount u) u

end Sys2Proof.Machine
end

