-- ==== Sys2Proof/Machine/Fabric.lean ====
section
/-! DEFINITION. The register fabric, first half: which blocks answer (R288, R532, R615, R631), what a register
reads (R16, R290, R563, R622 to R624), and reads of an address (R14, R206, R289, R626). -/

namespace Sys2Proof.Machine

/-! ### Blocks that answer -/

/-- Blocks that answer in recovery (R532, R610) (DEDUCED, log 51). -/
def Block.inRecovery : Block → Bool
  | .glb => true
  | .hpt => true
  | .lnk => true
  | .bot => true
  | _ => false

/-- Blocks that the stage of the start (R631), recovery (R532) and a halt (R615) let answer (DEDUCED, log 51). -/
def State.stageAnswers (s : State) (b : Block) : Bool :=
  (match s.power.stage with
    | .complete => true
    | .recovery => b.inRecovery
    | .phase _ => b.inRecovery || decide (b = .saf)
    | .dead => b.inRecovery || decide (b = .saf)
    | _ => false)
  && (!s.power.cpuHalt || b.inRecovery || decide (b = .saf) || decide (b = .flt))

/-- The self-test of a group runs (R550). -/
def State.underTest (s : State) (g : Nat) : Bool :=
  match s.boot.bist with
  | some m => m.getLsbD g
  | none => false

/-- The array domain of a die is on, for a self-test too (R550), and not under test itself. -/
def State.arrayAnswers (s : State) (d : Die) : Bool :=
  (s.domServes (arrDomain d) || (s.boot.bist.isSome && s.domainsShown.getLsbD (domBit (arrDomain d))))
    && !s.underTest (1 + dieIx d)

/-- PD_PIPE is on and not under test. -/
def State.pipeAnswers (s : State) : Bool := s.domServes .pipe && !s.underTest 0

/-- PD_BULK is on and not under test. -/
def State.bulkAnswers (s : State) : Bool := s.domServes .bulk && !s.underTest 5

/-- PD_CELLAR is on and not under test. -/
def State.cellarAnswers (s : State) : Bool := s.domServes .cellar && !s.underTest 6

/-- The domains of R29 and R30 that a block needs, and the self-tests of R550; `g` is the region of a TIL register. A
loss of the reference or of PLL lock stops no clock of these domains here (DESIGN CHOICE, log 67). -/
def State.domainsAnswer (s : State) (b : Block) (g : Nat) : Bool :=
  match b with
  | .lnk => s.domServes .phyA && s.domServes .phyB
  | .lyr => s.bulkAnswers && s.cellarAnswers
  | .szr => s.pipeAnswers && !s.underTest 7
  | .cmp => s.pipeAnswers
  | .prf => s.pipeAnswers
  | .drv => s.pipeAnswers && !s.underTest 7
  | .scn => s.pipeAnswers
  | .adc => s.domServes .core && s.arrayAnswers .L && s.arrayAnswers .R
  | .cal => s.domServes .core && s.bulkAnswers
  | .saf => true
  | .til => s.arrayAnswers (dieOf g) && !s.underTest 7
  | _ => s.domServes .core

/-- A register's block answers (R288); SCN_D2D_L and SCN_D2D_R need their own die's domain (DEDUCED, log 51). -/
def State.blockOn (s : State) (b : Block) (r : Option Reg) (g : Nat) : Bool :=
  s.stageAnswers b &&
    (match r with
      | some .scnD2dL => s.arrayAnswers .L
      | some .scnD2dR => s.arrayAnswers .R
      | _ => s.domainsAnswer b g)

/-- The bulk window answers (R288). -/
def State.bulkOn (s : State) : Bool := s.stageAnswers .lyr && s.bulkAnswers

/-- The cellar bank of offset `off` answers (R288, R454). -/
def State.cellarOn (s : State) (off : Nat) : Bool :=
  s.stageAnswers .lyr && s.cellarAnswers && decide (s.power.banks.getD (off / 0x10000) .off = .on)

/-- An access of port `p` is answered BLOCK_OFF (R289). -/
def State.blockOff (s : State) (p : Port) : State :=
  ((s.pcount p .hptBlkoffCnt 0 32).pflag p .hptEvent 4).pmc 0x19

/-! ### What a register reads -/

/-- The performance counters have counted what the running pass and the running scans have done by the end of the present
CK_FAB cycle (R570, R571). -/
def State.countsNow (s : State) : State := (s.passCounts ((s.fab + 1) * fabCycle)).scansOn

/-- The _HI register of a pair of R624. -/
def Reg.highHalf : Reg → Option Reg
  | .glbUidLo => some .glbUidHi
  | .glbTimeLo => some .glbTimeHi
  | .scnCycleLo => some .scnCycleHi
  | .scnFrecTimeLo => some .scnFrecTimeHi
  | .fltFirstTimeLo => some .fltFirstTimeHi
  | .botLcNonceLo => some .botLcNonceHi
  | _ => none

/-- A _HI register of R624. -/
def Reg.isHigh : Reg → Bool
  | .glbUidHi => true
  | .glbTimeHi => true
  | .scnCycleHi => true
  | .scnFrecTimeHi => true
  | .fltFirstTimeHi => true
  | .botLcNonceHi => true
  | _ => false

/-- The 64-bit value of a pair, by its _LO register. -/
def State.wide (s : State) (p : Port) : Reg → Nat
  | .glbUidLo => if s.recordRead then s.boot.otp.uid.toNat else 0
  | .glbTimeLo => s.timeBase
  | .scnCycleLo => s.scan.cycle.toNat
  | .scnFrecTimeLo => ((s.frec p).map (·.time)).getD 0
  | .fltFirstTimeLo => (s.rd .fltFirstTimeLo).toNat + 2 ^ 32 * (s.rd .fltFirstTimeHi).toNat
  | .botLcNonceLo => s.boot.nonce.toNat
  | _ => 0

/-- A value of the captured flip record of a port; 0 where it is empty (R57, R58). -/
def State.frecWord (s : State) (p : Port) (f : FlipRecord → Word) : Word := ((s.frec p).map f).getD 0

/-- A value of the loaded plate; `d` while none is loaded. -/
def State.plateWord (s : State) (d : Word) (f : Plate → Word) : Word :=
  match s.boot.plate with
  | some pl => f pl
  | none => d

/-- Fields of equal width, number 0 lowest. -/
def packFields (width : Nat) : List Nat → Nat
  | [] => 0
  | x :: t => x % 2 ^ width + 2 ^ width * packFields width t

/-- CMD_STREAM_p (R619): 0 while no streamed command is in progress. -/
def State.streamWord (s : State) (p : Port) : Word :=
  match (s.port p).stream with
  | some x => word (x.opcode + 256 * x.tag.toNat + 65536 * x.remain)
  | none => 0

/-- GLB_CPU (R614). -/
def State.cpuWord (s : State) : Word :=
  word (boolNat s.power.cpuRun + 2 * boolNat s.power.cpuHalt + 256 * s.power.hbCount.toNat)

/-- LYR_SLOT_STATEk (R243, R244). -/
def State.slotStates (s : State) (k : Nat) : Word :=
  word (packFields 4 ((List.range 8).map fun i =>
    slotCode (s.slot (8 * k + i)).mode + 8 * boolNat (s.slotSeal (8 * k + i))))

/-- HPT_INCOMPLETE0 and HPT_INCOMPLETE1 (R279, R296). -/
def State.incompleteWord (s : State) (k : Nat) : Word :=
  word (packBits ((List.range 32).map fun i => (s.slot (32 * k + i)).incomplete))

/-- DRV_PAL_STATUS of a port (R245). -/
def State.palStatus (s : State) (p : Port) : Word :=
  word (packBits ((List.range 8).map fun q => (s.stage p q).dirty)
    + 256 * packBits ((List.range 8).map fun q => s.palLocked p q))

/-- BOT_PLATE_CAP (R553). -/
def plateCap (pl : Plate) : Word := word (pl.modes.toNat + 16 * pl.syncRole)

/-- CMP_PLATE (R201). -/
def platePicture (pl : Plate) : Word :=
  word (pl.nlayers + 8 * portIx pl.sealOwner + 16 * pl.sealPal + 256 * pl.fbBank)

/-- The value of a register that is not read in a way of its own; port `p` reads over path `w`. -/
def State.value (s : State) (p : Port) (w : Path) (r : Reg) (k j : Nat) : Word :=
  match r with
  | .glbSpeed => s.fromB (word s.boot.otp.speed)
  | .glbBin => s.fromB (s.boot.otp.bin.zeroExtend 32)
  | .glbCpu => s.cpuWord
  | .hptWhoami => word (portIx p + 2 * boolNat (decide (w = .bus)))
  | .hptPortState => s.portState p
  | .hptIncomplete => s.incompleteWord k
  | .hptSemOwner => s.semOwners
  | .cmdArb => word (portIx s.nextTie) ||| s.rd .cmdArb
  | .cmdQfill => word (s.port (portOf k)).queue.length
  | .cmdStream => s.streamWord (portOf k)
  | .lnkStatus => s.linkStatus (portOf k)
  | .lnkLanemap => s.laneMap (portOf k)
  | .lyrNslots => word s.nslots
  | .lyrFmt => s.plateWord 0 fun pl => word (packFields 2 ((List.range 7).map fun n => pl.fmt.getD n 0))
  | .lyrPal => s.plateWord 0 fun pl => word (packFields 3 ((List.range 6).map fun n => pl.pal.getD n 0))
  | .lyrSzr => s.plateWord 0x3FFFF fun pl => word (packFields 3 ((List.range 6).map fun n => pl.szr.getD n 7))
  | .lyrSlotState => s.slotStates k
  | .lyrSlotMap => word ((s.slotMap k).1 + 65536 * (s.slotMap k).2.1)
  | .szrBank => s.bankStatus k
  | .cmpStatus => s.cmpStatus
  | .cmpPlate => s.plateWord 0 platePicture
  | .cmpOps => s.plateWord 0 fun pl => word (packFields 3 ((List.range 6).map fun n => pl.ops.getD n 0))
  | .prfStatus => s.prfStatus
  | .prfClass => s.plateWord 0 fun pl => pl.prfClass.zeroExtend 32
  | .drvPalStatus => s.palStatus p
  | .drvPal => s.palRead p k j
  | .drvApal => tabGet 0 (s.palette k) j
  | .scnStatus => s.scnStatus
  | .scnFrecSeq => s.frecWord p fun x => word x.seq
  | .scnFrecCommit => s.frecWord p fun x => word x.frame.commit
  | .scnFrecMode => s.frecWord p fun x => x.frame.modeWord
  | .scnFrecScale => s.frecWord p fun x => word x.frame.scale
  | .scnFrecStoreId => s.frecWord p fun x => storeId x.frame.store
  | .scnFrecMaskId => s.frecWord p fun x => x.frame.maskId
  | .scnFrecSnapId => s.frecWord p fun x => x.frame.snapId
  | .scnFrecDriveSig => s.frecWord p fun x => x.frame.driveSig
  | .scnFrecTrimId => s.frecWord p fun x => trimId x.frame.trims k
  | .scnFrecTemp => s.frecWord p fun x => x.frame.tempWord k
  | .adcStatus => s.adcStatus
  | .adcUrg => s.urgStatus k
  | .adcUcalCoef => s.ucalCoef k j
  | .calStatus => s.calStatus
  | .calStoreState => s.storeState
  | .calStoreId => s.calStoreId
  | .calRstat => s.rd .calRstat k ||| word (s.calCode k)
  | .calTrimId => s.calTrimId k
  | .calStep => word ((s.region k).step % 2 ^ 14)
  | .pwrState => s.pwrState
  | .pwrHrT => word (bitsOf 16 s.power.hrL + 65536 * bitsOf 16 s.power.hrR)
  | .pwrRail => s.railStatus k
  | .safStatus => s.safStatus
  | .safInj => if s.boot.otp.lc = 1 then s.rd .safInj else 0
  | .fltStatus => s.fltStatus
  | .fltLogHead => word s.faults.logHead
  | .fltCond => s.condWord k
  | .fltCnt => s.fltCnt k
  | .chkResult => s.chkResult k
  | .chkScanCtl => word (boolNat (s.chkBusy k))
  | .chkStatus => s.chkStatus k
  | .chkScanRem => word (((s.chkScan k).map (·.left)).getD 0)
  | .pmcSmpStatus => s.smpStatus
  | .pmcSmpHead => s.smpHead
  | .botStatus => s.botStatus
  | .botStarts => s.fromB (word s.boot.starts)
  | .botFwVer => s.boot.fwVersion
  | .botSetStat => s.setStat
  | .botSlotver => s.fromB (s.image k).version
  | .botSlotst => s.fromB (word (imageCode (s.image k)))
  | .botPlateStat => s.rd .botPlateStat ||| word (boolNat s.boot.plate.isSome)
  | .botPlateCap => s.plateWord 0 plateCap
  | .botPlateLock => s.plateWord 0 fun pl => pl.lock.zeroExtend 32
  | .botPlateVfl => s.plateWord 0 fun pl => word (pl.vf0L + 65536 * pl.rsL)
  | .botPlateVfr => s.plateWord 0 fun pl => word (pl.vf0R + 65536 * pl.rsR)
  | .botUpdStat => s.updStat
  | .botUpdWords => s.updWords
  | .botOtpStat => s.fromB s.otpStat
  | .botBistCtl => s.rd .botBistCtl ||| word (2 ^ 31 * boolNat s.boot.bist.isSome)
  | .botCustStat => s.custStat
  | .botPop => s.plateWord 0 fun pl => (pl.pop >>> (32 * k)).setWidth 32
  | .tilDiagStatus => s.diagStatus k
  | .tilTileState => s.tileWord (tileOfLocal k j)
  | .tilAdcStatus => s.tilAdcStatus k
  | .tilAdcUrg => s.tilAdcUrg k
  | .tilAdcTemp => s.tilAdcTemp k
  | .tilAdcVled => s.tilAdcVled k
  | .tilSinkmap => s.sinkMap k j
  | .tilId => word (k + 16 * (k / 8))
  | .tilPixmap => s.pixMap k j
  | _ => if r.row.acc = .wo then 0 else s.rdp p r k j

/-- A read of a register of an answering block: status, value and the state after it. -/
def State.readReg (s : State) (p : Port) (w : Path) (r : Reg) (k j : Nat) : Status × Word × State :=
  match r.highHalf with
  | some hi =>
    let v := s.wide p r
    (.ok, word v, s.setShadow p (hi.addr 0 0) (word (v / 2 ^ 32)))
  | none =>
    if r.isHigh then (.ok, s.shadow p (r.addr 0 0), s)
    else
      match r with
      | .botCustBuf => if s.boot.custBad then (.crcFail, 0, s) else (.ok, s.value p w r k j, s)
      | .pmcCnt => let (v, t) := s.countsNow.pmcRead p k; (.ok, v, t)
      | .adcStatus => (.ok, (s.syncGroup s.now).value p w r k j, s.syncGroup s.now)
      | .adcEvent => (.ok, (s.syncGroup s.now).value p w r k j, s.syncGroup s.now)
      | .adcGrpMiss => (.ok, (s.syncGroup s.now).value p w r k j, s.syncGroup s.now)
      | .pmcOvf => (.ok, s.countsNow.value p w r k j, s.countsNow)
      | .chkScanRem => (.ok, (s.scanOn k).value p w r k j, s.scanOn k)
      | .chkState => if s.chkBusy k then (.busy, 0, s) else (.ok, s.rd .chkState k, s)
      | .chkResult => if s.chkBusy k then (.busy, 0, s) else (.ok, s.chkResult k, s)
      | .chkCount => if s.chkBusy k then (.busy, 0, s) else (.ok, s.rd .chkCount k, s)
      | _ => (.ok, s.value p w r k j, s)

/-- A refused access: BLOCK_OFF counts (R289). -/
def State.refusedAs (s : State) (p : Port) (st : Status) : State := if st = .blockOff then s.blockOff p else s

/-- The refusal of an access to a word of the bulk window, in the order of R25 (R206, R271, R288). -/
def State.bulkRefusal (s : State) (off : Nat) : Option Status :=
  if s.boot.plate.isNone then some .notPlated
  else if !s.bulkOn then some .blockOff
  else if off % 4 ≠ 0 ∨ (s.slotAt off).isNone then some .addrRange
  else none

/-- The refusal of an access to a word of the cellar (R288). -/
def State.cellarRefusal (s : State) (off : Nat) : Option Status :=
  if !s.cellarOn off then some .blockOff
  else if off % 4 ≠ 0 then some .addrRange
  else none

/-- A read of one address by port `p` (R14, R25, R289). -/
def State.regRead (s : State) (p : Port) (w : Path) (a : Nat) : Status × Word × State :=
  match place a with
  | .nowhere => (.addrRange, 0, s)
  | .hole b =>
    if s.blockOn b none (tilRegion a) then (.addrRange, 0, s) else (.blockOff, 0, s.blockOff p)
  | .reg b r k j => if s.blockOn b (some r) k then s.readReg p w r k j else (.blockOff, 0, s.blockOff p)
  | .bulk off =>
    match s.bulkRefusal off with
    | some st => (st, 0, s.refusedAs p st)
    | none => s.hostRead a
  | .cellar off =>
    match s.cellarRefusal off with
    | some st => (st, 0, s.refusedAs p st)
    | none => s.hostRead a

end Sys2Proof.Machine
end

