-- ==== Sys2Proof/Machine/Requests.lean ====
section
/-! DEFINITION. The register fabric, second half: what a write does to each register (R16 to R18, R86, R138, R286),
writes of an address, read-modify-write (R269), and one register request of a port (R275, R281, R282). -/

namespace Sys2Proof.Machine

/-! ### Gates and limits -/

/-- `t`, for a port that holds semaphore `k`; otherwise the refusal of R286. -/
def State.gated (s : State) (p : Port) (k : Nat) (t : Status × State) : Status × State :=
  match s.gate p k with
  | some st => (st, s)
  | none => t

/-- `t` of the value that a write of `v` leaves; STATE where a field holds a reserved encoding (R17, R18). -/
def State.checked (s : State) (r : Reg) (v : Word) (t : Word → Status × State) : Status × State :=
  if r.legal v then t (r.kept v) else (.state, s)

/-- The loaded plate locks an RWL register (R16, R535). -/
def State.locked (s : State) (r : Reg) : Bool :=
  match s.boot.plate, r.row.lock with
  | some pl, some i => pl.lock.getLsbD i
  | _, _ => false

/-- `t`, where the plate does not lock the register (R16). -/
def State.unlocked (s : State) (r : Reg) (t : Status × State) : Status × State :=
  if s.locked r then (.state, s) else t

/-- `t`, for a port that may write a Seal staging register (R174); without a plate either port may
(DESIGN CHOICE, log 74). -/
def State.sealGate (s : State) (p : Port) (t : Status × State) : Status × State :=
  match s.boot.plate with
  | some pl => if pl.sealOwner = p then t else (.refusedOwner, s)
  | none => t

/-- A plain write of a register (R16). -/
def State.plain (s : State) (p : Port) (r : Reg) (k j : Nat) (v : Word) : Status × State :=
  s.checked r v fun w => (.ok, s.swWr p r w k j)

/-- A write of 1 clears bits (R16), but for one that hardware has set in the same CK_FAB cycle (R19). -/
def State.clearOnes (s : State) (p : Port) (r : Reg) (k j : Nat) (v : Word) : State :=
  s.wrp p r (s.rdp p r k j &&& ~~~(v &&& ~~~s.flagsNow (r.key p k j))) k j

/-! ### Scan and drive settings -/

/-- The loaded plate allows a timing mode; without one only S0 is (R78, R87). -/
def State.modeAllowed (s : State) (m : Nat) : Bool :=
  match s.boot.plate with
  | some pl => pl.modes.getLsbD m
  | none => m == 0

/-- A write of SCN_TMODE by the holder of TIMING (R78, R87, R88, R95, R119). -/
def State.tmodeSet (s : State) (v : Word) : Status × State :=
  let run := field v 0 2
  let hold := field v 2 2
  let newRun := run != s.fld .scnTmode 0 2
  let newHold := hold != s.fld .scnTmode 2 2
  if run = 3 ∨ !s.modeAllowed run ∨ !s.modeAllowed hold then (.state, s)
  else
    let s1 := (s.wr .scnTmode (Reg.kept .scnTmode v)).onScan fun c =>
      { c with pendRun := if newRun then some s.comp.passes else c.pendRun
               pendHold := if newHold then some s.comp.passes else c.pendHold }
    let s2 := if newRun then s1.refreshRun else s1
    (.ok, if newHold then s2.refreshHold else s2)

/-- A write of SCN_BLANK by the holder of TIMING (R87, R88, R95, R119). -/
def State.blankSet (s : State) (v : Word) : Status × State :=
  let b := field v 0 11
  if b < 64 ∨ 1024 < b ∨ b % 16 ≠ 0 ∨ (s.scan.role = 2 ∧ b < 128) then (.state, s)
  else if word b = s.rd .scnBlank then (.ok, s)
  else (.ok, ((s.wr .scnBlank (word b)).onScan fun c => { c with pendBlank := some s.comp.passes }).refreshBoth)

/-- A register of R116 takes an accepted value (R95, R119). -/
def State.driveSet (s : State) (r : Reg) (k : Nat) (v : Word) : State :=
  let s1 := s.wr r v k
  if s.power.state = .hold then s1.refreshHold else if v = s.rd r k then s1 else s1.refreshRun

/-- The largest allowed value of each budget field of a register: `bits` and value (R138, R150)
(DEDUCED, log 52). -/
def State.budgetCaps (s : State) (r : Reg) (k : Nat) : List (Nat × Nat) :=
  match s.boot.plate, r with
  | some pl, .drvBudgetPkg => [(0, pl.budPkg)]
  | none, .drvBudgetPkg => [(0, 10000)]
  | some pl, .drvBudgetDie => [(0, pl.budDieL), (16, pl.budDieR)]
  | none, .drvBudgetDie => [(0, 5000), (16, 5000)]
  | some pl, _ => [(0, pl.budReg.getD (2 * k) 0), (16, pl.budReg.getD (2 * k + 1) 0)]
  | none, _ => [(0, 1400), (16, 1400)]

/-- A budget write by the holder of POWER (R138) (DEDUCED, log 52). -/
def State.budgetSet (s : State) (r : Reg) (k : Nat) (v : Word) : Status × State :=
  if (s.budgetCaps r k).all fun (b, cap) => decide (1 ≤ field v b 16) && decide (field v b 16 ≤ cap) then
    (.ok, s.driveSet r k (Reg.kept r v))
  else (.state, s)

/-- A write of a staging palette entry (R175, R224). -/
def State.palSet (s : State) (p : Port) (q i : Nat) (v : Word) : Status × State :=
  if s.isSealPal q then (.state, s)
  else if s.palLocked p q then (.busy, s)
  else (.ok, s.palWrite p q i (Reg.kept .drvPal v))

/-! ### Commands in a register -/

/-- CAL_CMD (R385, R418): RELOAD outside STANDBY refuses the write whole. -/
def State.calCommand (s : State) (v : Word) : Status × State :=
  let (st, s1) := if bit v 1 then s.reload else (Status.ok, s)
  if st = .ok then (.ok, if bit v 0 then s1.saveNow else s1) else (st, s)

/-- BOT_RESET (R528, R553): KEY other than 0x5A is reserved. -/
def State.resetCommand (s : State) (v : Word) : Status × State :=
  if field v 8 8 = 0x5A then (.ok, s.beginStart 4) else (.state, s)

/-- BOT_BIST_CTL (R16, R550): a further GO while the self-tests run starts nothing (DEDUCED, log 62). -/
def State.bistSet (s : State) (v : Word) : Status × State :=
  if bit v 31 && s.boot.bist.isNone then s.bistGo (field v 0 8)
  else if bit v 31 && decide (field v 0 8 = 0) then (.state, s)
  else (.ok, s.wr .botBistCtl (word (field v 0 8)))

/-- BOT_CUST_CMD (R552, R553) (DEDUCED, log 54). -/
def State.custCommand (s : State) (p : Port) (v : Word) : Status × State :=
  match field v 0 2 with
  | 0 => s.custStart p .read
  | 1 => s.custStart p .erase
  | 2 => s.custStart p .program
  | _ => match s.custStart p .read with
    | (.addrRange, _) => (.addrRange, s)
    | _ => (.state, s)

/-- The power state that a code of PWR_REQ names (R480). -/
def powerTarget : Nat → Option PowerState
  | 1 => some .sleep
  | 2 => some .standby
  | 3 => some .run
  | 4 => some .hold
  | _ => none

/-- PWR_REQ (R456, R457, R480) (DEDUCED, log 54). -/
def State.powerCommand (s : State) (p : Port) (v : Word) : Status × State :=
  match powerTarget (field v 0 4) with
  | some x => s.powerRequest p x
  | none => s.gated p 0 (.state, s)

/-- SCN_IFS (R80, R95, R119). -/
def State.ifsSet (s : State) (v : Word) : State := s.driveSet .scnIfs 0 v

/-- SCN_DIAG_LIM: a region whose masked pixels come to exceed MASKMAX is reported (R371) (DEDUCED, log 65). -/
def State.diagLimSet (s : State) (w : Word) : State :=
  let s1 := s.wr .scnDiagLim w
  (List.range 16).foldl (fun t g =>
    if s.maskedIn g ≤ s.maskMax ∧ s1.maskMax < s.maskedIn g then t.report 0x56 g else t) s1

/-- A staged slot number (R206). -/
def State.stageSlot (s : State) (p : Port) (n : Nat) (v : Word) : Status × State :=
  if s.nslots ≤ field v 0 6 then (.addrRange, s)
  else if n = 6 then s.sealGate p (s.plain p .cmpStgSlot n 0 v)
  else s.plain p .cmpStgSlot n 0 v

/-- Another staging register of a layer (R174, R199). -/
def State.stageLayer (s : State) (p : Port) (r : Reg) (n : Nat) (v : Word) : Status × State :=
  if n = 6 then s.sealGate p (s.plain p r n 0 v) else s.plain p r n 0 v

/-- TIL_PIXSEL captures the pixel for the writing port (R375). -/
def State.pixSelect (s : State) (p : Port) (g : Nat) (v : Word) : State :=
  (s.wrp p .tilPixsel (Reg.kept .tilPixsel v) g).wrp p .tilPixinfo
    (s.pixInfo (1024 * (g / 8) + field v 0 10) (64 * (g % 8) + field v 16 6)) g

/-! ### A write -/

/-- A write of `v` to register `(k, j)` of an answering block by port `p`: status, and the state after it. A register
that no case names is a plain one (R16). -/
def State.writeReg (s : State) (p : Port) (r : Reg) (k j : Nat) (v : Word) : Status × State :=
  match r with
  -- semaphores and ports
  | .hptSemAcq => s.semAcquire p (field v 0 4)
  | .hptSemRel => s.semRelease p (field v 0 4)
  -- lanes
  | .lnkCtrl => s.checked r v fun w => s.lnkCtrlSet (portOf k) w
  | .lnkLoop => s.checked r v fun w => s.loopWrite (portOf k) false w
  | .lnkPrbs => s.checked r v fun w => s.loopWrite (portOf k) true w
  | .lnkRejoin => s.rejoinWrite (portOf k) v
  -- layer memory, scalers, palettes
  | .lyrSlotCmd => s.slotCommand p (field v 0 6) (field v 8 2)
  | .szrCload => s.cload p (r.kept v)
  | .szrCsel => (.ok, (s.wrp p r (r.kept v)).csel p (r.kept v))
  | .drvPal => s.palSet p k j v
  | .drvPalDiscard => s.palDiscard p v
  -- composition
  | .cmpCommit => s.commit p (r.kept v)
  | .cmpFenceSig => (.ok, s.fenceSignal (field v 0 4))
  | .cmpFence => (.ok, s.fenceWrite k v)
  | .cmpCresSel => (.ok, s.cresSelect p (r.kept v))
  | .cmpStgSealCrc => s.sealGate p (s.plain p r 0 0 v)
  | .cmpStgSlot => s.stageSlot p k v
  | .cmpStgSrc => s.stageLayer p r k v
  | .cmpStgPos => s.stageLayer p r k v
  | .cmpStgCtrl => s.stageLayer p r k v
  -- drive words and scan
  | .drvXover => s.checked r v fun w => (.ok, s.driveSet r 0 w)
  | .drvFill => s.checked r v fun w => (.ok, s.driveSet r 0 w)
  | .drvRgain => s.checked r v fun w => (.ok, s.driveSet r k w)
  | .drvBudgetPkg => s.gated p 0 (s.budgetSet r 0 v)
  | .drvBudgetDie => s.gated p 0 (s.budgetSet r 0 v)
  | .drvBudgetReg => s.gated p 0 (s.budgetSet r k v)
  | .scnTmode => s.gated p 1 (s.tmodeSet v)
  | .scnBlank => s.gated p 1 (s.blankSet v)
  | .scnIfs => s.unlocked r (.ok, s.ifsSet v)
  | .scnFrecSel => (.ok, s.frecSelect p (r.kept v))
  | .scnDiagLim => s.unlocked r (s.checked r v fun w => (.ok, s.diagLimSet w))
  | .scnDiagCfg => s.unlocked r (s.checked r v fun w => (.ok, ((s.wr r w).setNpc).noteSamplesOff))
  -- converters and calibration
  | .adcEvent => (.ok, (s.syncGroup s.now).clearOnes p r k j v)
  | .adcSctl => s.checked r v fun w => (s.syncGroup s.now).adcControl (16 + k) w
  | .tilAdcCtl => s.checked r v fun w => (s.syncGroup s.now).adcControl k w
  | .tilAdcColsel => s.colSelect k (r.kept v)
  | .adcGrpCfg => s.checked r v fun w => s.groupSet r 0 w
  | .adcGrpPhase => s.checked r v fun w => s.groupSet r 0 w
  | .adcGrpIn => s.checked r v fun w => s.groupSet r k w
  | .adcGrpIn2 => s.checked r v fun w => s.groupSet r 0 w
  | .adcGrpCtl => if bit v 0 then s.groupGo else (.ok, s)
  | .adcUcal => s.checked r v fun w => (s.syncGroup s.now).ucalStart w
  | .calCtrl => s.gated p 3 (.ok, s.calCtrlSet (r.kept v))
  | .calCfg => s.gated p 3 (s.unlocked r (s.plain p r 0 0 v))
  | .calFbCfg => s.gated p 3 (s.plain p r 0 0 v)
  | .calSave => s.gated p 3 (s.plain p r 0 0 v)
  | .calCmd => s.gated p 3 (s.calCommand v)
  -- power and guardian
  | .pwrReq => s.powerCommand p v
  | .pwrPhyCtrl => s.gated p 0 (.ok, s.phyCtrl (r.kept v))
  | .pwrRet => s.gated p 0 (s.plain p r 0 0 v)
  | .pwrWakeCfg => s.gated p 0 (s.plain p r 0 0 v)
  | .pwrHrCfg => s.gated p 0 (s.plain p r 0 0 v)
  | .pwrVcoreOfs => s.gated p 0 (s.checked r v fun w => (.ok, s.vcoreSet w))
  | .safPoCfg => s.unlocked r (s.checked r v fun w => (.ok, (s.wr r w).guardOutputs))
  | .safTestCfg => s.unlocked r (s.checked r v fun w => (.ok, (s.wr r w).takeTestCfg))
  | .safInj => (.ok, s.safInject (r.kept v))
  -- fault collector
  | .fltClear => s.fltClear v
  | .fltInj => s.inject v []
  | .fltLogSel => s.logSelect p v
  -- check-value units and counters
  | .chkCfg => s.chkGuard k (s.chkCfgSet k (r.kept v))
  | .chkState => s.chkStateSet k v
  | .chkCount => s.chkGuard k (s.swWr .A r v k)
  | .chkData8 => s.chkGuard k (s.chkFeed k [byteOf v 0])
  | .chkData16 => s.chkGuard k (s.chkFeed k [byteOf v 0, byteOf v 1])
  | .chkData32 => s.chkGuard k (s.chkFeed k (bytesOfWord v))
  | .chkScanAddr => s.chkGuard k (s.wr r v k)
  | .chkScanLen => s.chkGuard k (s.wr r (r.kept v) k)
  | .chkScanCtl => if bit v 0 then s.chkGo k else (.ok, s)
  | .pmcCnt => s.countsNow.pmcSetCnt k v
  | .pmcOvf => (.ok, s.countsNow.clearOnes p r k j v)
  | .pmcSel => s.checked r v fun w => s.countsNow.pmcSetSel k w
  | .pmcSmpCfg => (.ok, s.smpSetCfg (r.kept v))
  | .pmcSmpSel => s.smpSelect p v
  -- boot
  | .botReset => s.resetCommand v
  | .botActivate => s.gated p 2 (s.activate (bit v 0) (bit v 1) (bit v 2))
  | .botConfirm => s.gated p 2 (s.confirm v)
  | .botLcReq => s.lifeCycle (field v 0 2)
  | .botKeyCmd => s.keyCommand v
  | .botBistCtl => s.bistSet v
  | .botCustCmd => s.custCommand p v
  | .botCustBuf => (.ok, (s.swWr p r v k).onBoot fun b => { b with custBad := false })
  -- regions
  | .tilMaskCmd => s.checked r v fun w => (.ok, s.maskCommand k (field w 0 10) (field w 16 6) (bit w 24))
  | .tilReadmit => s.checked r v fun w => s.readmitRequest k w
  | .tilPixsel => (.ok, s.pixSelect p k v)
  | _ =>
    match r.row.acc with
    | .ro => (.ok, s)
    | .w1c => (.ok, s.clearOnes p r k j v)
    | .rwl => s.unlocked r (s.plain p r k j v)
    | _ => s.plain p r k j v

/-- The refusals of a register write that rank before BLOCK_OFF (R25): NOT_PLATED (R271, R457, R562) and LIFECYCLE
(R517, R553) (DEDUCED, log 54). -/
def State.earlyRefusal (s : State) (r : Reg) (k : Nat) (v : Word) : Option Status :=
  let bare := s.boot.plate.isNone
  let a := (s.rd .chkScanAddr k).toNat
  match r with
  | .lyrSlotCmd => if bare then some .notPlated else none
  | .cmpCommit => if bare then some .notPlated else none
  | .cmpFenceSig => if bare then some .notPlated else none
  | .pwrReq => if bare && s.power.trans.isNone && decide (field v 0 4 = 3) then some .notPlated else none
  | .chkScanCtl =>
    if bare && bit v 0 && decide (bulkBase ≤ a) && decide (a < bulkBase + bulkSize) then some .notPlated else none
  | .fltInj => if s.boot.otp.lc = 1 then none else some .lifecycle
  | .safInj => if s.boot.otp.lc = 1 then none else some .lifecycle
  | .botKeyCmd => if s.boot.otp.lc = 1 then none else some .lifecycle
  | _ => none

/-- A write of words from offset `off` of the bulk window upward, as one memory request (R206, R216, R267). -/
def State.windowWrite (s : State) (p : Port) (off : Nat) (ws : List Word) : Status × State :=
  match s.bulkRefusal off with
  | some st => (st, s.refusedAs p st)
  | none =>
    match s.slotAt off with
    | none => (.addrRange, s)
    | some k =>
      let at_ := bulkBase + off - s.slotBase k
      match s.windowRefusal p k off (4 * ws.length) with
      | some st => (st, s.slotRefused p st)
      | none => (.ok, s.slotWrite k at_ ws)

/-- The refusal of a write of `n` bytes from offset `off` of the cellar, after `cellarRefusal` (R190, R267). -/
def State.cellarWriteRefusal (s : State) (off n : Nat) : Option Status :=
  if cellarSize < off + n then some .lenRange
  else
    match s.boot.plate with
    | some pl =>
      if off < 0x10000 * (pl.fbBank + 1) ∧ 0x10000 * pl.fbBank < off + max n 1 then some .state else none
    | none => none

/-- A write of words from offset `off` of the cellar upward, as one memory request (R190, R267). -/
def State.cellarWrite (s : State) (p : Port) (off : Nat) (ws : List Word) : Status × State :=
  match s.cellarRefusal off with
  | some st => (st, s.refusedAs p st)
  | none =>
    match s.cellarWriteRefusal off (4 * ws.length) with
    | some st => (st, s)
    | none => (.ok, s.store (cellarBase + off) ws)

/-- A write of one address by port `p` (R14, R25, R289). -/
def State.regWrite (s : State) (p : Port) (a : Nat) (v : Word) : Status × State :=
  match place a with
  | .nowhere => (.addrRange, s)
  | .hole b => if s.blockOn b none (tilRegion a) then (.addrRange, s) else (.blockOff, s.blockOff p)
  | .reg b r k j =>
    match s.earlyRefusal r k v with
    | some st => (st, s)
    | none => if s.blockOn b (some r) k then s.writeReg p r k j v else (.blockOff, s.blockOff p)
  | .bulk off => s.windowWrite p off [v]
  | .cellar off => s.cellarWrite p off [v]

/-- The refusal of a REG_RMW of a register that is neither RW nor RWL, whose write would be `v` (R269): STATE, or the
code of that write where R25 ranks it before STATE. -/
def State.rmwRefusal (s : State) (p : Port) (r : Reg) (k j : Nat) (v : Word) : Status :=
  match (s.writeReg p r k j v).1 with
  | .lifecycle => .lifecycle
  | .addrRange => .addrRange
  | .lenRange => .lenRange
  | .refusedOwner => .refusedOwner
  | .semHeld => .semHeld
  | _ => .state

/-- REG_RMW of one address (R25, R269): status, the value read before the write (0 where nothing was read), state. -/
def State.regRmw (s : State) (p : Port) (a : Nat) (mask v : Word) : Status × Word × State :=
  match place a with
  | .nowhere => (.addrRange, 0, s)
  | .hole b => if s.blockOn b none (tilRegion a) then (.addrRange, 0, s) else (.blockOff, 0, s.blockOff p)
  | .reg b r k j =>
    match s.earlyRefusal r k (r.row.mask &&& v &&& mask) with
    | some .notPlated => (.notPlated, 0, s)
    | early =>
      if early = some .lifecycle then (.lifecycle, 0, s)
      else if !s.blockOn b (some r) k then (.blockOff, 0, s.blockOff p)
      else if r.row.acc ≠ .rw ∧ r.row.acc ≠ .rwl then (s.rmwRefusal p r k j (v &&& mask), 0, s)
      else
        match s.readReg p .link r k j with
        | (.ok, old, s1) =>
          let (st, s2) := s1.writeReg p r k j ((old &&& ~~~mask) ||| (v &&& mask))
          (st, old, s2)
        | (st, _, s1) => (st, 0, s1)
  | .bulk off =>
    match s.bulkRefusal off with
    | some st => (st, 0, s.refusedAs p st)
    | none => (.state, 0, s)
  | .cellar off =>
    match s.cellarRefusal off with
    | some st => (st, 0, s.refusedAs p st)
    | none => (.state, 0, s)

/-! ### One request of a port -/

/-- The port arbiter begins to serve a request, once it has served the last one (R275) (DEDUCED, log 43). -/
def State.turn (s : State) : State := { s.advance s.arbFree with writing := none }

/-- The arbiter begins to serve a request of a port, and counts it, in this CK_FAB cycle (R49, R570, R571). -/
def State.takes (s : State) (p : Port) : State :=
  ({ s with cyc := { s.thisCycle with chosen := some p } }).pmc (0x10 + portIx p)

/-- The service of a request holds the arbiter for `n` CK_FAB cycles, the present one the first (R275)
(DEDUCED, log 43). -/
def State.requestServed (s : State) (n : Nat) : State := { s with arbFree := (s.fab + n) * fabCycle }

/-- The service of a request of port `p` begins. One that came over the management bus at `since` has stretched SCL until
now, for at most 50 µs (R283), and a lost port returns with it (R277). -/
def State.arrives (s : State) (p : Port) (w : Path) (since : Nat) : State :=
  let t := s.takes p
  match w with
  | .link => t
  | .bus =>
    (t.onPort p fun x =>
      { x with stretch := if since < t.now then some (since, min t.now (since + 50 * usec)) else x.stretch }).busActive p

/-- Status of a request as its port sees it (R23, R281) (DESIGN CHOICE, log 4). -/
def State.answered (s : State) (p : Port) (w : Path) (st : Status) (v : Word) : State :=
  { s with answer := some { port := p, path := w, status := st, value := v } }

/-- A write request has its status: HPT_MB_STATUS shows it for the management bus (R281). -/
def State.writeAnswered (s : State) (p : Port) (w : Path) (st : Status) : State :=
  match w with
  | .link => s.answered p w st 0
  | .bus => (s.wrp p .hptMbStatus (word (statusCode st))).answered p w st 0

/-- A write request of a port is served (R275, R281). It reaches no register while the control die does not run. -/
def State.serveWrite (s : State) (p : Port) (w : Path) (a : Nat) (v : Word) (since : Nat) : State :=
  if s.controlOn then
    let (st, s1) := (s.turn.arrives p w since).regWrite p a v
    (s1.writeAnswered p w st).requestServed 1
  else s

/-- A read request of a port is served (R275, R282). -/
def State.serveRead (s : State) (p : Port) (w : Path) (a : Nat) (since : Nat) : State :=
  if s.controlOn then
    let (st, v, s1) := (s.turn.arrives p w since).regRead p w a
    (s1.answered p w st v).requestServed 1
  else s

/-- A write to FLT_INJ is served in a cycle with the real events `real` (R516): they happen whatever the write's answer
is. -/
def State.serveInject (s : State) (p : Port) (w : Path) (v : Word) (real : List FaultReport) (since : Nat) : State :=
  if s.controlOn then
    let s1 := s.turn.arrives p w since
    let (st, s2) := match s1.earlyRefusal .fltInj 0 v with
      | some st => (st, s1)
      | none => if s1.blockOn .flt (some .fltInj) 0 then s1.inject v real else (.blockOff, s1.blockOff p)
    let s3 := if st = .ok then s2 else s2.onFaults fun f => { f with reports := f.reports ++ real }
    (s3.writeAnswered p w st).requestServed 1
  else s

end Sys2Proof.Machine
end

