-- ==== Sys2Proof/Machine/Commands.lean ====
section
/-! DEFINITION. The link commands (R262 to R276): what stands at the front of a command queue, service, completion,
and streamed commands. -/

namespace Sys2Proof.Machine

/-! ### The front of a queue -/

/-- The header word of a command (R262). -/
def headWord (code : Nat) (h : CmdHead) : Word :=
  word (code + 128 * boolNat h.quiet + 256 * h.tag.toNat + 65536 * h.len)

/-- The words that are consumed at once of a command whose payload is not awaited whole: the fixed words of the three
streamed commands, and none of a command that no table row lets be so long (R265, R274). `none`: the whole payload is
awaited (DEDUCED, log 42). -/
def fixedWords (code len : Nat) : Option Nat :=
  if len ≤ 1024 then none
  else if code = 0x31 ∧ len ≤ 1026 then none
  else if code = 0x01 then some 1
  else if code = 0x10 then some 2
  else some 0

/-- The words `ws` are taken from the front of a queue: position and instant of entry of the first, and the state after.
An empty queue gives them as just arrived (log 11); a queue with another front gives nothing. -/
def State.takeFront (s : State) (p : Port) (ws : List Word) : Option (Nat × Nat × State) :=
  match (s.port p).arrivals with
  | [] => some (0, s.now, s)
  | a :: _ => if (s.port p).queue.take ws.length = ws then some (a.ahead, a.time, s.dequeue p ws.length) else none

/-- Words of a command's completion record (R263). A REG_READ whose length is not 2 gets no DATA words (DEDUCED, log
103). -/
def completionSize (code len : Nat) (payload : List Word) : Nat :=
  let count := (payload.getD 1 0).toNat
  if code = 0x02 ∧ len = 2 ∧ 1 ≤ count ∧ count ≤ 254 then 2 + count
  else if code = 0x08 ∧ len ≤ 254 then 2 + len
  else 2

/-- Words of completion records that a port holds (R278). -/
def PortState.heldWords (x : PortState) : Nat :=
  (x.outbox.map fun i => match i with
    | .resp ws => ws.length
    | .evt _ => 0).sum

/-- The arbiter serves a command of a port whose completion takes `n` words (R274, R278)
(DESIGN CHOICE, log 11; DEDUCED, log 42). -/
def State.mayServe (s : State) (p : Port) (n : Nat) : Bool :=
  s.controlOn && (s.port p).stream.isNone && decide ((s.port p).heldWords + n ≤ 1024)

/-- CK_FAB cycles of a request of `n` payload words (R275) (DEDUCED, log 43). -/
def blockCycles (n : Nat) : Nat := max 1 ((n + 15) / 16)

/-! ### Completion -/

/-- What the service of a command gives: status, VALUE, DATA, CK_FAB cycles, and the state after its effect. -/
structure Reply where
  st : Status
  value : Word
  data : List Word
  cycles : Nat
  state : State

/-- The completion of a command. A command that resets the device has none (DEDUCED, log 43). -/
def State.conclude (c : Served) (r : Reply) : State :=
  if r.state.controlOn then (r.state.requestServed r.cycles).complete c r.st r.value r.data else r.state

/-- A refusal of a whole command of `n` payload words; BLOCK_OFF counts (R289). -/
def State.refuse (s : State) (p : Port) (st : Status) (n : Nat) : Reply :=
  { st := st, value := 0, data := [], cycles := blockCycles n, state := s.refusedAs p st }

/-! ### Runs of registers and memory (R267, R268) -/

/-- What a run starts in. -/
inductive RunPlace where
  | regs (b : Block)
  | window (off : Nat)
  | cellar (off : Nat)
  | nowhere
deriving DecidableEq, Repr

def runPlace (a : Nat) : RunPlace :=
  match place a with
  | .nowhere => .nowhere
  | .hole b => .regs b
  | .reg b _ _ _ => .regs b
  | .bulk off => .window off
  | .cellar off => .cellar off

/-- A register stands at an address. -/
def isReg (a : Nat) : Bool :=
  match place a with
  | .reg _ _ _ _ => true
  | _ => false

/-- The refusal of a run of `n` register words from `a`, whole (R25, R267): `v` is the first word of a write. A run that
R267 lets begin is none, whatever its words then answer (DEDUCED, log 54). -/
def State.runRefusal (s : State) (b : Block) (a n : Nat) (v : Option Word) : Option Status :=
  let inside := min n (((a / 0x10000 + 1) * 0x10000 - a + 3) / 4)
  let holes := !((List.range inside).all fun i => isReg (a + 4 * i))
  if !holes && decide (inside = n) then none
  else
    let early := match v, place a with
      | some w, .reg _ r k _ => s.earlyRefusal r k w
      | _, _ => none
    let on := match place a with
      | .reg _ r k _ => s.blockOn b (some r) k
      | _ => s.blockOn b none (tilRegion a)
    match early with
    | some st => some st
    | none => some (if !on then .blockOff else if holes then .addrRange else .lenRange)

/-- The CK_FAB cycle of the next word of a run, where `more` words are left (R275, R573). -/
def State.nextWord (s : State) (more : Nat) : State := if more = 0 then s else s.advance (s.now + fabCycle)

/-- Single-register writes of a run in consecutive CK_FAB cycles: the first status that is not OK, and the words written
(R267, R275) (DEDUCED, log 45). -/
def writeRun (p : Port) : Nat → List Word → State → Status × Nat × State
  | _, [], s => (.ok, 0, s)
  | a, v :: t, s =>
    match s.regWrite p a v with
    | (.ok, s1) => let (st, n, s2) := writeRun p (a + 4) t (s1.nextWord t.length); (st, n + 1, s2)
    | (st, s1) => (st, 0, s1)

/-- CK_FAB cycles that a run still holds the arbiter after it: its last word's (R275). -/
def lastCycle (st : Status) (n : Nat) : Nat := if st = .ok ∨ n = 0 then 1 else 0

/-- Every word of a run is read, in consecutive CK_FAB cycles (R268, R573): statuses and values, a word that is not OK as
0. -/
def readRun (p : Port) : Nat → Nat → State → List (Status × Word) × State
  | _, 0, s => ([], s)
  | a, n + 1, s =>
    let (st, v, s1) := s.regRead p .link a
    let (l, s2) := readRun p (a + 4) n (s1.nextWord n)
    ((st, if st = .ok then v else 0) :: l, s2)

/-- Status and VALUE of a read run (R268): the first word that is not OK, and its index. -/
def runStatus : List (Status × Word) → Status × Nat
  | [] => (.ok, 0)
  | (st, _) :: t => if st = .ok then let (st1, n) := runStatus t; (st1, n + 1) else (st, 0)

/-- The refusal of a read of `n` words of memory, as one request (R206, R267) (DEDUCED, log 54). -/
def State.memReadRefusal (s : State) (r : RunPlace) (n : Nat) : Option Status :=
  match r with
  | .window off =>
    match s.bulkRefusal off, s.slotAt off with
    | some st, _ => some st
    | none, some k =>
      if !s.pagesIn off (4 * n) then some .addrRange
      else if s.slotBase k + s.slotBytes k < bulkBase + off + 4 * n then some .lenRange else none
    | none, none => some .addrRange
  | .cellar off =>
    match s.cellarRefusal off with
    | some st => some st
    | none => if cellarSize < off + 4 * n then some .lenRange else none
  | _ => some .addrRange

/-- Words of memory are read; a word with an uncorrectable error reads 0 with CRC_FAIL (R503). -/
def memReadRun : Nat → Nat → State → List (Status × Word) × State
  | _, 0, s => ([], s)
  | a, n + 1, s =>
    let (st, v, s1) := s.hostRead a
    let (l, s2) := memReadRun (a + 4) n s1
    ((st, v) :: l, s2)

/-- The refusal of a REG_READ of `n` words whole (R267). -/
def State.readRefusal (s : State) (a n : Nat) : Option Status :=
  match runPlace a with
  | .nowhere => some .addrRange
  | .regs b => s.runRefusal b a n none
  | r => s.memReadRefusal r n

/-- The refusal of a REG_READ whose count is out of the range of R266: LEN_RANGE, after the codes of its address
(R25). -/
def State.countRefusal (s : State) (a : Nat) : Status :=
  match s.readRefusal a 1, place a with
  | some st, _ => st
  | none, .reg b r k _ => if s.blockOn b (some r) k then .lenRange else .blockOff
  | none, _ => .lenRange

/-! ### The commands -/

/-- Length is out of the range of R266: LEN_RANGE, after NOT_PLATED and BLOCK_OFF (R25, R271); `r` is the register
that acts as the command, if one does (DEDUCED, log 54). -/
def State.badLength (s : State) (p : Port) (r : Option Reg) (n : Nat) : Reply :=
  match r with
  | some x =>
    match s.earlyRefusal x 0 0 with
    | some st => s.refuse p st n
    | none => if s.blockOn ((blockOf (x.addr 0 0) Block.all).getD .glb) (some x) 0 then s.refuse p .lenRange n
      else s.refuse p .blockOff n
  | none => s.refuse p .lenRange n

/-- A command that acts as a write of its one payload word to a register (R159, R167, R211, R284). -/
def State.asWrite (s : State) (p : Port) (r : Reg) (payload : List Word) (value : State → Status → Word) : Reply :=
  match payload with
  | [v] =>
    let (st, s1) := s.regWrite p (r.addr 0 0) v
    { st := st, value := value s1 st, data := [], cycles := 1, state := s1 }
  | l => s.badLength p (some r) l.length

/-- NOP (R266). -/
def nopEffect (_ : Port) (payload : List Word) (s : State) : Reply :=
  { st := .ok, value := 0, data := [], cycles := blockCycles payload.length, state := s }

/-- ECHO (R263, R266). -/
def echoEffect (p : Port) (payload : List Word) (s : State) : Reply :=
  if 254 < payload.length then s.badLength p none payload.length
  else { st := .ok, value := word payload.length, data := payload, cycles := blockCycles payload.length, state := s }

/-- REG_WRITE (R267) of words `data` from address `a` (DEDUCED, log 45). -/
def State.writeWords (s : State) (p : Port) (a : Nat) (data : List Word) : Reply :=
  match runPlace a with
  | .nowhere => s.refuse p .addrRange 1
  | .regs b =>
    match s.runRefusal b a data.length data.head? with
    | some st => s.refuse p st 1
    | none =>
      let (st, n, s1) := writeRun p a data s
      { st := st, value := word n, data := [], cycles := lastCycle st n, state := s1 }
  | r =>
    let (st, s1) := match r with
      | .window off => s.windowWrite p off data
      | .cellar off => s.cellarWrite p off data
      | _ => (.addrRange, s)
    let n := if st = .ok then data.length else 0
    { st := st, value := word n, data := [], cycles := max 1 n, state := s1 }

def regWriteEffect (p : Port) (payload : List Word) (s : State) : Reply :=
  match payload with
  | a :: v :: t => s.writeWords p a.toNat (v :: t)
  | l => s.badLength p none l.length

/-- REG_READ (R263, R267, R268). -/
def regReadEffect (p : Port) (payload : List Word) (s : State) : Reply :=
  match payload with
  | [a, c] =>
    let n := c.toNat
    if n < 1 ∨ 254 < n then
      s.refuse p (s.countRefusal a.toNat) 1
    else
      match s.readRefusal a.toNat n with
      | some st => { s.refuse p st 1 with data := List.replicate n 0 }
      | none =>
        let (l, c, s1) := match runPlace a.toNat with
          | .regs _ => let (l, t) := readRun p a.toNat n s; (l, 1, t)
          | _ => let (l, t) := memReadRun a.toNat n s; (l, n, t)
        let (st, i) := runStatus l
        { st := st, value := word i, data := l.map (·.2), cycles := c, state := s1 }
  | l => s.badLength p none l.length

/-- REG_RMW (R269) (DEDUCED, log 53). -/
def regRmwEffect (p : Port) (payload : List Word) (s : State) : Reply :=
  match payload with
  | [a, m, v] =>
    let (st, old, s1) := s.regRmw p a.toNat m v
    { st := st, value := old, data := [], cycles := 1, state := s1 }
  | l => s.badLength p none l.length

/-- The refusal of a LAYER_WRITE of `n` data words at byte `off` of a slot (R25, R270, R271) (DEDUCED, log 64). -/
def State.layerRefusal (s : State) (p : Port) (k off n : Nat) : Option Status :=
  if s.boot.plate.isNone then some .notPlated
  else if !s.blockOn .lyr none 0 then some .blockOff
  else s.slotWriteRefusal p k off (4 * n)

/-- A LAYER_WRITE is refused: SLOT_LEASED and BLOCK_OFF count (R214, R289). -/
def State.layerRefused (s : State) (p : Port) (st : Status) : State := (s.slotRefused p st).refusedAs p st

/-- LAYER_WRITE (R270): the memory slot is in bits 5:0 of word 0. DEDUCED (log 78): its service takes one CK_FAB
cycle for each 16 words of the whole payload, as R275 counts, the slot and offset words among them; R216 counts
data words. -/
def layerWriteEffect (p : Port) (payload : List Word) (s : State) : Reply :=
  match payload with
  | k :: off :: data =>
    let c := blockCycles payload.length
    match s.layerRefusal p (field k 0 6) off.toNat data.length with
    | some st => { st := st, value := 0, data := [], cycles := c, state := s.layerRefused p st }
    | none =>
      { st := .ok, value := word data.length, data := [], cycles := c
        state := s.slotWrite (field k 0 6) off.toNat data }
  | l => s.badLength p (some .lyrSlotCmd) l.length

/-- SLOT_CTRL (R211): VALUE is the state of the slot after the request, 0 where it names none (DEDUCED, log 53). -/
def slotCtrlEffect (p : Port) (payload : List Word) (s : State) : Reply :=
  s.asWrite p .lyrSlotCmd payload fun t _ => word (slotCode (t.slot (field (payload.getD 0 0) 0 6)).mode)

/-- COMMIT (R159, R160) (DEDUCED, log 53). -/
def commitEffect (p : Port) (payload : List Word) (s : State) : Reply :=
  s.asWrite p .cmpCommit payload fun t st => if st = .ok then t.rd .cmpCommitCnt else 0

/-- FENCE_SIGNAL (R167) (DEDUCED, log 53). -/
def fenceSignalEffect (p : Port) (payload : List Word) (s : State) : Reply :=
  s.asWrite p .cmpFenceSig payload fun t st =>
    if st = .ok then t.rd .cmpFence (field (payload.getD 0 0) 0 4) else 0

/-- SEM_ACQUIRE and SEM_RELEASE (R284): VALUE is the owner code after the request (DEDUCED, log 53). -/
def semAcquireEffect (p : Port) (payload : List Word) (s : State) : Reply :=
  s.asWrite p .hptSemAcq payload fun t _ => word (ownerCode (t.owner (field (payload.getD 0 0) 0 4)))

def semReleaseEffect (p : Port) (payload : List Word) (s : State) : Reply :=
  s.asWrite p .hptSemRel payload fun t _ => word (ownerCode (t.owner (field (payload.getD 0 0) 0 4)))

/-- The target that word 0 of an update command names (R266). -/
def updateTarget (w : Word) : Option Bool :=
  match w.toNat with
  | 0 => some false
  | 1 => some true
  | _ => none

/-- The outcome of an update command after the gate of semaphore 2 (R25, R272, R286): a refusal `early` ranks before
it. -/
def State.updateGate (s : State) (p : Port) (early : Status → Bool) (t : Status × State) : Status × State :=
  if early t.1 then (t.1, s) else s.gated p 2 t

/-- UPDATE_BEGIN (R539). -/
def updateBeginEffect (p : Port) (payload : List Word) (s : State) : Reply :=
  match payload with
  | [w, size] =>
    let n := size.toNat
    let t := match updateTarget w with
      | some t => s.updateBegin t n
      | none => (if n < 0x100 ∨ n % 4 ≠ 0 then Status.lenRange else Status.state, s)
    let (st, s1) := s.updateGate p (fun x => x == .lifecycle || x == .lenRange) t
    { st := st, value := 0, data := [], cycles := 1, state := s1 }
  | l => s.badLength p none l.length

/-- UPDATE_BLOCK (R540): VALUE is the number of words written. -/
def updateBlockEffect (p : Port) (payload : List Word) (s : State) : Reply :=
  let c := blockCycles payload.length
  match payload with
  | w :: off :: d :: ds =>
    if 1026 < payload.length then s.badLength p none payload.length
    else
      let t := match updateTarget w with
        | some t => s.updateBlock t off.toNat (d :: ds)
        | none => (if off.toNat % 4 ≠ 0 then Status.lenRange else Status.state, s)
      let (st, s1) := s.updateGate p (fun x => x == .lenRange) t
      { st := st, value := word (if st = .ok then ds.length + 1 else 0), data := [], cycles := c, state := s1 }
  | l => s.badLength p none l.length

/-- UPDATE_FINISH (R541). -/
def updateFinishEffect (p : Port) (payload : List Word) (s : State) : Reply :=
  match payload with
  | [w, crc] =>
    let t := match updateTarget w with
      | some t => s.updateFinish t crc
      | none => (Status.state, s)
    let (st, s1) := s.gated p 2 t
    { st := st, value := 0, data := [], cycles := 1, state := s1 }
  | l => s.badLength p none l.length

/-! ### Streamed commands (R274, R276) -/

/-- What a streamed command of `n` payload words becomes once its header and fixed words have been checked. -/
def State.streamKind (s : State) (p : Port) (code n : Nat) (payload : List Word) : Status × StreamKind :=
  match code, payload with
  | 0x00, _ => (.ok, .nop)
  | 0x01, [a] =>
    let a := a.toNat
    match runPlace a with
    | .nowhere => (.addrRange, .nop)
    | .regs b =>
      match s.runRefusal b a (n - 1) (some 0) with
      | some st => (st, .nop)
      | none => (.ok, .regs a)
    | .window off =>
      match s.bulkRefusal off, s.slotAt off with
      | some st, _ => (st, .nop)
      | none, none => (.addrRange, .nop)
      | none, some k =>
        let at_ := bulkBase + off - s.slotBase k
        match s.windowRefusal p k off (4 * (n - 1)) with
        | some st => (st, .nop)
        | none => (.ok, .window k at_)
    | .cellar off =>
      match s.cellarRefusal off with
      | some st => (st, .nop)
      | none =>
        match s.cellarWriteRefusal off (4 * (n - 1)) with
        | some st => (st, .nop)
        | none => (.ok, .cellar a)
  | 0x10, [k, off] =>
    match s.layerRefusal p (field k 0 6) off.toNat (n - 2) with
    | some st => (st, .nop)
    | none => (.ok, .layer (field k 0 6) off.toNat)
  | 0x11, _ => ((s.badLength p (some .lyrSlotCmd) n).st, .nop)
  | 0x18, _ => ((s.badLength p (some .cmpCommit) n).st, .nop)
  | 0x19, _ => ((s.badLength p (some .cmpFenceSig) n).st, .nop)
  | c, _ =>
    (if c ∈ [0x02, 0x03, 0x08, 0x20, 0x21, 0x30, 0x31, 0x32] then .lenRange else .state, .nop)

/-- The memory slot that a streamed command of this opcode and these fixed words names (R297). -/
def State.streamNamed (s : State) (code : Nat) (payload : List Word) : Option Nat :=
  match code, payload with
  | 0x01, [a] =>
    match runPlace a.toNat with
    | .window off => s.slotAt off
    | _ => none
  | 0x10, k :: _ => some (field k 0 6)
  | _, _ => none

/-- A streamed command begins: a refusal discards the rest of its payload as it arrives (R265, R274)
(DEDUCED, log 42). -/
def State.beginStream (s : State) (c : Served) (payload : List Word) : State :=
  let code := c.opcode % 128
  let (st, kind) := s.streamKind c.port code c.len payload
  let x : Stream :=
    { opcode := c.opcode, tag := c.tag, quiet := decide (128 ≤ c.opcode), len := c.len, kind := kind
      named := s.streamNamed code payload, remain := c.len - payload.length, served := 0
      refused := if st = .ok then none else some st
      qpos := c.qpos, arrived := c.arrived }
  let s1 := if st = .ok then s else s.layerRefused c.port st
  let s2 := match x.slot with
    | some k => s1.slotTouched k
    | none => s1
  s2.onPort c.port fun y => { y with stream := some x }

/-- Words of a block are written, or discarded (R274): the stream after it, the CK_FAB cycles, and the state. -/
def State.streamWords (s : State) (p : Port) (x : Stream) (ws : List Word) : Stream × Nat × State :=
  let n := ws.length
  let more := x.remain - n
  let rest := { x with remain := more, served := x.served + n }
  match x.refused, x.kind with
  | some _, _ => ({ rest with served := x.served }, 1, s)
  | none, .nop => ({ rest with served := 0 }, 1, s)
  | none, .regs a =>
    let (st, k, s1) := writeRun p a ws s
    ({ rest with served := x.served + k, kind := if st = .ok then .regs (a + 4 * n) else .nop
                 refused := if st = .ok then none else some st }, lastCycle st k, s1)
  | none, .layer k off => ({ rest with kind := .layer k (off + 4 * n) }, 1, s.slotStore k off ws x.served more)
  | none, .window k off => ({ rest with kind := .window k (off + 4 * n) }, n, s.slotStore k off ws x.served more)
  | none, .cellar a => ({ rest with kind := .cellar (a + 4 * n) }, n, s.storePart x.served more a ws)

/-- The last word of a streamed command has been served or discarded (R276). -/
def State.endStream (s : State) (p : Port) (x : Stream) : State :=
  let s1 := match x.slot with
    | some k => s.slotWritten k
    | none => s
  (s1.onPort p fun y => { y with stream := none }).complete
    { port := p, opcode := x.opcode, tag := x.tag, len := x.len, qpos := x.qpos, arrived := x.arrived, streamed := true }
    (x.refused.getD .ok) (word x.served) []

/-- A block of 16 words of the streamed command of a port, or what is left of it, stands at the front of the queue. -/
def State.blockReady (s : State) (p : Port) (ws : List Word) : Bool :=
  match (s.port p).stream with
  | none => false
  | some x => decide (ws.length = min 16 x.remain) && s.controlOn && (s.takeFront p ws).isSome

/-- The block is served (R274) (DEDUCED, log 42). -/
def State.serveBlock (s : State) (p : Port) (ws : List Word) : State :=
  match (s.port p).stream with
  | none => s
  | some x =>
    if ws.length = min 16 x.remain ∧ s.controlOn then
      match s.takeFront p ws with
      | none => s
      | some (_, _, s1) =>
        let (y, c, s2) := (s1.turn.takes p).streamWords p x ws
        if s2.controlOn then
          let s3 := (s2.onPort p fun z => { z with stream := some y }).requestServed c
          if y.remain = 0 then s3.endStream p y else s3
        else s2
    else s

/-! ### Service -/

/-- A link command stands whole at the front of its port's queue, or has just arrived at an empty one, and the arbiter
can serve it (DESIGN CHOICE, log 11; DEDUCED, log 42). -/
def State.commandReady (s : State) (code : Nat) (h : CmdHead) (payload : List Word) : Bool :=
  decide (h.len < 65536) && decide (payload.length = (fixedWords code h.len).getD h.len)
    && s.mayServe h.port (completionSize code h.len payload)
    && (s.takeFront h.port (headWord code h :: payload)).isSome

/-- A link command is served (R274, R275): `f` is its effect, once it is whole. -/
def State.serveCommand (s : State) (code : Nat) (h : CmdHead) (payload : List Word)
    (f : Port → List Word → State → Reply) : State :=
  let awaited := (fixedWords code h.len).getD h.len
  if h.len < 65536 ∧ payload.length = awaited ∧ s.mayServe h.port (completionSize code h.len payload) then
    match s.takeFront h.port (headWord code h :: payload) with
    | none => s
    | some (qpos, arrived, s1) =>
      let c : Served :=
        { port := h.port, opcode := code + 128 * boolNat h.quiet, tag := h.tag, len := h.len, qpos := qpos
          arrived := arrived, streamed := (fixedWords code h.len).isSome }
      if c.streamed then s1.turn.beginStream c payload else State.conclude c (f h.port payload (s1.turn.takes h.port))
  else s

/-- The effect of an opcode (R266); one that the table does not list is refused with STATE (R265). -/
def effectOf : Nat → Port → List Word → State → Reply
  | 0x00 => nopEffect
  | 0x01 => regWriteEffect
  | 0x02 => regReadEffect
  | 0x03 => regRmwEffect
  | 0x08 => echoEffect
  | 0x10 => layerWriteEffect
  | 0x11 => slotCtrlEffect
  | 0x18 => commitEffect
  | 0x19 => fenceSignalEffect
  | 0x20 => semAcquireEffect
  | 0x21 => semReleaseEffect
  | 0x30 => updateBeginEffect
  | 0x31 => updateBlockEffect
  | 0x32 => updateFinishEffect
  | _ => fun p l s => s.refuse p .state l.length

/-- The header that a word of a queue spells (R262): opcode without Q, and the rest. -/
def headOf (p : Port) (w : Word) : Nat × CmdHead :=
  (field w 0 7, { port := p, tag := BitVec.ofNat 8 (field w 8 8), quiet := bit w 7, len := field w 16 16 })

end Sys2Proof.Machine
end

