-- ==== Sys2Proof/Machine/Arbiter.lean ====
section
/-! DEFINITION. The port arbiter (R48, R49, R273 to R275): which request is ready, ties, the requests that go before a
register request of a port, and the CK_FAB cycle in which no command waits (log 10). -/

namespace Sys2Proof.Machine

/-! ### Link commands that are ready -/

/-- A port has a request ready (R274, R278): a block of its streamed command, or a command, stands in its queue
(DESIGN CHOICE, log 10). -/
def State.ready (s : State) (p : Port) : Bool :=
  match (s.port p).stream, (s.port p).queue with
  | some x, q => s.controlOn && decide (min 16 x.remain ≤ q.length)
  | none, w :: rest =>
    let (code, h) := headOf p w
    let awaited := (fixedWords code h.len).getD h.len
    decide (awaited ≤ rest.length) && s.mayServe p (completionSize code h.len (rest.take awaited))
  | none, [] => false

/-- The request at the front of a port's queue is served (DESIGN CHOICE, log 10). -/
def State.serveNext (s : State) (p : Port) : State :=
  match (s.port p).stream, (s.port p).queue with
  | some x, q => s.serveBlock p (q.take (min 16 x.remain))
  | none, w :: rest =>
    let (code, h) := headOf p w
    s.serveCommand code h (rest.take ((fixedWords code h.len).getD h.len)) (effectOf code)
  | none, [] => s

/-- The request at the front of a port's queue is served ahead of another: its reports are taken in its own cycle
(R501). -/
def State.serveAhead (s : State) (p : Port) : State := (s.serveNext p).settle.darken

/-- Both ports present a request (R49, R619): the loser of the previous tie wins (DESIGN CHOICE, log 10). -/
def State.tie (s : State) : State :=
  let w := s.nextTie
  (({ s with nextTie := otherPort w }).count .cmdArb 16 16).pmc 0x16

/-- Port `p` presents a request in the CK_FAB cycle in which one of the other port was served: there was a tie, which
that one won, if its port had lost the last one (R49). Where port `p` had lost that one, the request that was served
stood alone: it came a cycle before (DESIGN CHOICE, log 10). -/
def State.retie (s : State) (p : Port) : State :=
  if s.thisCycle.chosen = some (otherPort p) ∧ s.nextTie = otherPort p then s.tie else s

/-- Port `p` presents a request (R49): what is served before it. Where the other port has one ready too, there is a tie;
where that port wins it, its request goes first, and a further one of it loses the next tie (DESIGN CHOICE, log 10). -/
def State.contend (s : State) (p : Port) : State :=
  let s := s.retie p
  if s.ready (otherPort p) then
    if s.nextTie = p then s.tie
    else
      let t := s.tie.serveAhead (otherPort p)
      if t.ready (otherPort p) && t.controlOn then t.tie else t
  else s

/-- The link commands and blocks of port `p` that have been received, at most `n` of them, are served, each under R49
(R48). -/
def State.linkFirst : Nat → State → Port → State
  | 0, s, _ => s
  | n + 1, s, p => if s.ready p then State.linkFirst n ((s.contend p).serveAhead p) p else s

/-- Port `p` presents a register request: the link requests that the port has received go first (R48), and then R49
decides (DESIGN CHOICE, log 10). -/
def State.presents (s : State) (p : Port) : State :=
  (s.linkFirst ((s.port p).queue.length + 1) p).contend p

/-! ### Requests of a port -/

/-- A write request of a port (R48, R49, R275, R281). -/
def State.writeRequest (s : State) (p : Port) (w : Path) (a : Nat) (v : Word) : State :=
  (s.presents p).serveWrite p w a v s.now

/-- A read request of a port (R48, R49, R275, R282). -/
def State.readRequest (s : State) (p : Port) (w : Path) (a : Nat) : State :=
  (s.presents p).serveRead p w a s.now

/-- A write request of port `p` to register `(k, j)` of a row. -/
def State.put (s : State) (p : Port) (w : Path) (r : Reg) (v : Word) (k : Nat := 0) (j : Nat := 0) : State :=
  s.writeRequest p w (r.addr k j) v

/-- A write to FLT_INJ in a cycle with the real events `real` (R516). -/
def State.injectRequest (s : State) (p : Port) (w : Path) (v : Word) (real : List FaultReport) : State :=
  (s.presents p).serveInject p w v real s.now

/-- A link command of a port (R49, R274): nothing happens where it does not stand at the front of its queue, or the
arbiter cannot serve it (DESIGN CHOICE, log 11; DEDUCED, log 42). -/
def State.serve (s : State) (code : Nat) (h : CmdHead) (payload : List Word) (f : Port → List Word → State → Reply) :
    State :=
  if s.commandReady code h payload then (s.contend h.port).serveCommand code h payload f else s

/-- A block of 16 words of a streamed command, or what is left of it, is in the queue (R49, R274) (DEDUCED, log 42). -/
def State.streamBlock (s : State) (p : Port) (ws : List Word) : State :=
  if s.blockReady p ws then (s.contend p).serveBlock p ws else s

/-! ### The management bus (R280 to R283, R474) -/

/-- The management buses answer: the control die runs, and no entry to SLEEP has stopped them (R463). -/
def State.busOn (s : State) : Bool := s.controlOn && !s.inStep .sleep 4 && !s.inStep .sleep 5

/-- A byte is not acknowledged, since the guardian has released SCL too early (R474): the transaction ends. -/
def State.busHeldOff (s : State) (p : Port) : State :=
  s.onPort p fun x => { x with busNack := false, busPtr := none }

/-- A transaction begins, or goes on with a repeated START (R280 to R282), and is answered (R474): for another address
the device leaves the bus; for its own, the address phase sets the address of the next word. -/
def State.busHead (s : State) (p : Port) (h : BusHead) : State :=
  if h.target = s.busAddress then
    (s.busActive p).onPort p fun x => { x with busNack := false, busRefused := false, busPtr := match h.addr with
      | some a => some (a % 2 ^ 32)
      | none => x.busPtr }
  else s.onPort p fun x => { x with busNack := false, busPtr := none }

/-- The next word of a transaction stands 4 further. -/
def State.busNext (s : State) (p : Port) (a : Nat) : State :=
  s.onPort p fun x => { x with busPtr := some ((a + 4) % 2 ^ 32) }

/-- A four-byte group of a write transaction, with the START and the address phase before it, if it is the first
(R281). -/
def State.busGroup (s : State) (p : Port) (head : Option BusHead) (v : Word) : State :=
  if (s.port p).busNack && head.isNone then s.busHeldOff p
  else if s.busOn then
    let t := match head with
      | some h => s.busHead p { h with addr := some (h.addr.getD 0) }
      | none => s
    match (t.port p).busPtr with
    | some a => (t.writeRequest p .bus a v).busNext p a
    | none => t
  else s

/-- A word of a read transaction (R282), with the START before it, if it is the first: without an address phase in the
same transaction the address with R is not acknowledged. -/
def State.busWord (s : State) (p : Port) (head : Option BusHead) : State :=
  if (s.port p).busNack && head.isNone then s.busHeldOff p
  else if s.busOn then
    let t := match head with
      | some h => s.busHead p h
      | none => s
    match (t.port p).busPtr, head with
    | some a, _ => (t.readRequest p .bus a).busNext p a
    | none, some h => if h.target = s.busAddress then t.onPort p fun x => { x with busRefused := true } else t
    | none, none => t
  else s

/-- A STOP ends the transaction, and with it the refusal of its bytes (R474). `head` is its START and address phase, if
no group and no word of it came before; `cut` says that the STOP cuts a group short, which is discarded with LEN_RANGE
(R281). -/
def State.busStop (s : State) (p : Port) (head : Option BusHead) (cut : Bool) : State :=
  let t := if s.busOn then
      match head with
      | some h => s.busHead p h
      | none => if (s.port p).busPtr.isSome then s.busActive p else s
    else s
  let u := if s.busOn && cut && (t.port p).busPtr.isSome && head.all (·.addr.isSome) then
      t.writeAnswered p .bus .lenRange else t
  u.onPort p fun x => { x with busNack := false, busPtr := none }

/-! ### A cycle without a command -/

/-- A CK_FAB cycle without a waiting command: the cycle passes, or, where the arbiter is free, it begins to serve a
request of a queue (DESIGN CHOICE, log 10). -/
def idleCycle (s : State) : Host.Outcome State Fault Refusal :=
  finish
    (if s.now < s.arbFree then s.advance (s.now + fabCycle)
    else match s.ready .A, s.ready .B with
    | true, true => s.tie.serveNext s.nextTie
    | true, false => s.serveNext .A
    | false, true => s.serveNext .B
    | false, false => s.advance (s.now + fabCycle))

end Sys2Proof.Machine
end

