-- ==== Sys2Proof/Machine/AnalogRows.lean ====
section
/-! DEFINITION. The rows of rails, calibration and converters. Each command has a meaning of its own; `finish` ends it. -/

namespace Sys2Proof.Machine

/-- UCAL_DONE (R446). -/
def execUcalDone (s : State) : Host.Outcome State Fault Refusal :=
  finish (s.ucalEnd)

/-- AVS_ACKNOWLEDGE (R468). -/
def execAvsAcknowledge (rail : Nat) (s : State) : Host.Outcome State Fault Refusal :=
  finish (s.railAck rail)

/-- AVS_NACK (R468). -/
def execAvsNack (rail : Nat) (s : State) : Host.Outcome State Fault Refusal :=
  finish (s.railFail rail true)

/-- AVS_TIMEOUT (R468). -/
def execAvsTimeout (rail : Nat) (s : State) : Host.Outcome State Fault Refusal :=
  finish (s.railTimeout rail)

/-- AVS_STATUS_POLL (R468). -/
def execAvsStatusPoll (rail : Nat) (vdone : Bool) (s : State) : Host.Outcome State Fault Refusal :=
  finish (s.railPoll rail vdone)

/-- HEADROOM_UPDATE (R470). -/
def execHeadroomUpdate (d : Die) (s : State) : Host.Outcome State Fault Refusal :=
  finish (s.headroom d)

/-- CAL_STEP_END (R394). -/
def execCalStepEnd (g : Nat) (regOk : Bool) (s : State) : Host.Outcome State Fault Refusal :=
  finish (s.calStepEnd g regOk)

/-- ROUND_STALL (R411). -/
def execRoundStall (g : Nat) (s : State) : Host.Outcome State Fault Refusal :=
  finish (s.roundStall g)

/-- FLUX_INTERVAL (R414). -/
def execFluxInterval (s : State) : Host.Outcome State Fault Refusal :=
  finish (s.fluxInterval)

/-- TRIM_SAVE_DUE (R418). -/
def execTrimSaveDue (s : State) : Host.Outcome State Fault Refusal :=
  finish (s.trimSaveDue)

/-- SETTINGS_WRITE (R358). -/
def execSettingsWrite (s : State) : Host.Outcome State Fault Refusal :=
  finish (s.settingsDue)

/-- SCHEDULED_CONVERSION (R430). -/
def execScheduledConversion (g : Nat) (s : State) : Host.Outcome State Fault Refusal :=
  finish (s.scheduled g)

/-- CONVERSION_DONE (R427). -/
def execConversionDone (conv : Nat) (raw : Nat) (s : State) : Host.Outcome State Fault Refusal :=
  finish ((s.syncBefore conv).conversionDone conv raw)

/-- URGENT_REQUEST (R433). -/
def execUrgentRequest (k : Nat) (s : State) : Host.Outcome State Fault Refusal :=
  finish (s.urgent k)

/-- HOST_CONVERSION_START (R433). -/
def execHostConversionStart (conv : Nat) (s : State) : Host.Outcome State Fault Refusal :=
  finish (s.hostStart conv)

/-- GROUP_TRIGGER (R440). -/
def execGroupTrigger (s : State) : Host.Outcome State Fault Refusal :=
  finish (s.groupTrigger)

/-- GROUP_DONE (R443). -/
def execGroupDone (raws : List Nat) (s : State) : Host.Outcome State Fault Refusal :=
  finish (s.groupDone raws)

end Sys2Proof.Machine
end

