-- ==== Sys2Proof/Machine/CommandRows.lean ====
section
/-! DEFINITION. The rows of the link commands and of updates (R211, R262 to R287, R539 to R541). Each command has a meaning of its own; `finish` ends it. -/

namespace Sys2Proof.Machine

/-- NOP (R266). -/
def execNop (h : CmdHead) (payload : List Word) (s : State) : Host.Outcome State Fault Refusal :=
  finish (s.serve 0x00 h payload nopEffect)

/-- REG_WRITE (R267). -/
def execRegWrite (h : CmdHead) (payload : List Word) (s : State) : Host.Outcome State Fault Refusal :=
  finish (s.serve 0x01 h payload regWriteEffect)

/-- REG_READ (R268). -/
def execRegRead (h : CmdHead) (payload : List Word) (s : State) : Host.Outcome State Fault Refusal :=
  finish (s.serve 0x02 h payload regReadEffect)

/-- REG_RMW (R269). -/
def execRegRmw (h : CmdHead) (payload : List Word) (s : State) : Host.Outcome State Fault Refusal :=
  finish (s.serve 0x03 h payload regRmwEffect)

/-- ECHO (R263). -/
def execEcho (h : CmdHead) (payload : List Word) (s : State) : Host.Outcome State Fault Refusal :=
  finish (s.serve 0x08 h payload echoEffect)

/-- LAYER_WRITE (R270). -/
def execLayerWrite (h : CmdHead) (payload : List Word) (s : State) : Host.Outcome State Fault Refusal :=
  finish (s.serve 0x10 h payload layerWriteEffect)

/-- STREAM_BLOCK (R274). -/
def execStreamBlock (p : Port) (words : List Word) (s : State) : Host.Outcome State Fault Refusal :=
  finish (s.streamBlock p words)

/-- SLOT_CTRL (R211). -/
def execSlotCtrl (h : CmdHead) (payload : List Word) (s : State) : Host.Outcome State Fault Refusal :=
  finish (s.serve 0x11 h payload slotCtrlEffect)

/-- COMMIT (R161). -/
def execCommit (h : CmdHead) (payload : List Word) (s : State) : Host.Outcome State Fault Refusal :=
  finish (s.serve 0x18 h payload commitEffect)

/-- FENCE_SIGNAL (R167). -/
def execFenceSignal (h : CmdHead) (payload : List Word) (s : State) : Host.Outcome State Fault Refusal :=
  finish (s.serve 0x19 h payload fenceSignalEffect)

/-- SEM_ACQUIRE (R284). -/
def execSemAcquire (h : CmdHead) (payload : List Word) (s : State) : Host.Outcome State Fault Refusal :=
  finish (s.serve 0x20 h payload semAcquireEffect)

/-- SEM_RELEASE (R284). -/
def execSemRelease (h : CmdHead) (payload : List Word) (s : State) : Host.Outcome State Fault Refusal :=
  finish (s.serve 0x21 h payload semReleaseEffect)

/-- UPDATE_BEGIN (R539). -/
def execUpdateBegin (h : CmdHead) (payload : List Word) (s : State) : Host.Outcome State Fault Refusal :=
  finish (s.serve 0x30 h payload updateBeginEffect)

/-- UPDATE_BLOCK (R540). -/
def execUpdateBlock (h : CmdHead) (payload : List Word) (s : State) : Host.Outcome State Fault Refusal :=
  finish (s.serve 0x31 h payload updateBlockEffect)

/-- UPDATE_FINISH (R541). -/
def execUpdateFinish (h : CmdHead) (payload : List Word) (s : State) : Host.Outcome State Fault Refusal :=
  finish (s.serve 0x32 h payload updateFinishEffect)

/-- UPDATE_ERASE_DONE (R539). -/
def execUpdateEraseDone (s : State) : Host.Outcome State Fault Refusal :=
  finish (s.eraseDone)

/-- PROGRAM_BUFFER_DRAIN (R540). -/
def execProgramBufferDrain (words : Nat) (s : State) : Host.Outcome State Fault Refusal :=
  finish (s.drain words)

end Sys2Proof.Machine
end

