-- ==== Sys2Proof/Machine/DeviceRows.lean ====
section
/-! DEFINITION. The rows of supplies, starts, wakes, self-tests and the flash. Each command has a meaning of its own; `finish` ends it. -/

namespace Sys2Proof.Machine

/-- The two cores of the control processor disagree (R503, source 0x12): the processor halts. -/
def State.lockstep (s : State) : State := if s.controlOn && !s.power.cpuHalt then (s.report 0x12).cpuHalts else s

/-- A write of the flash that the device has begun is complete (R418, R463) (DEDUCED, log 37). -/
def State.flashDone (s : State) (j : FlashJob) : State :=
  if s.boot.jobs.contains j then (s.jobWritten j).sleepProceed else s

/-- BIST_DONE (R551). -/
def execBistDone (sigs : List Word) (s : State) : Host.Outcome State Fault Refusal :=
  finish (s.bistDone sigs)

/-- CUST_OP_DONE (R552). -/
def execCustOpDone (flashError : Bool) (s : State) : Host.Outcome State Fault Refusal :=
  finish (s.custDone flashError)

/-- CHK_SCAN_END (R565). -/
def execChkScanEnd (u : Nat) (s : State) : Host.Outcome State Fault Refusal :=
  finish (s.chkEnd u)

/-- VIN_RISE (R456). -/
def execVinRise (s : State) : Host.Outcome State Fault Refusal :=
  finish (s.vinRise)

/-- VIN_FALL (R456). -/
def execVinFall (s : State) : Host.Outcome State Fault Refusal :=
  finish (s.vinFall)

/-- RESET_N (R601). -/
def execResetN (low : Bool) (s : State) : Host.Outcome State Fault Refusal :=
  finish (s.resetPin low)

/-- SUPPLY_GOOD_LOSS (R592). -/
def execSupplyGoodLoss (r : Supply) (s : State) : Host.Outcome State Fault Refusal :=
  finish (s.supplyLost r)

/-- START (R530). -/
def execStart (cause : Nat) (s : State) : Host.Outcome State Fault Refusal :=
  finish (s.startWith cause)

/-- START_PHASE_DONE (R530). -/
def execStartPhaseDone (passed : Bool) (s : State) : Host.Outcome State Fault Refusal :=
  finish (s.phaseDone passed)

/-- START_RETRY (R530). -/
def execStartRetry (s : State) : Host.Outcome State Fault Refusal :=
  finish (s.startRetry)

/-- NATIVE_WAKE (R473). -/
def execNativeWake (p : Port) (target : Nat) (write : Bool) (s : State) : Host.Outcome State Fault Refusal :=
  finish (s.nativeWake p target write)

/-- LANE_WAKE (R475). -/
def execLaneWake (p : Port) (squelch : List (Bool × Nat)) (s : State) : Host.Outcome State Fault Refusal :=
  finish (s.laneWake p squelch)

/-- WAKE_STEP_DONE (R476). -/
def execWakeStepDone (s : State) : Host.Outcome State Fault Refusal :=
  finish (s.stepDone)

/-- WAKE_STEP_TIMEOUT (R476). -/
def execWakeStepTimeout (s : State) : Host.Outcome State Fault Refusal :=
  finish (s.stepTimesOut)

/-- SCL_RELEASE (R474). -/
def execSclRelease (p : Port) (s : State) : Host.Outcome State Fault Refusal :=
  finish (s.sclRelease p)

/-- DOMAIN_ON_DONE (R465). -/
def execDomainOnDone (d : Domain) (sequencersOk : Bool) (s : State) : Host.Outcome State Fault Refusal :=
  finish (s.domainOn d sequencersOk)

/-- REF_CLOCK_LOSS (R479). -/
def execRefClockLoss (s : State) : Host.Outcome State Fault Refusal :=
  finish (s.clockLost false)

/-- PLL_LOCK_LOSS (R479). -/
def execPllLockLoss (s : State) : Host.Outcome State Fault Refusal :=
  finish (s.clockLost true)

/-- LOCKSTEP (R503). -/
def execLockstep (s : State) : Host.Outcome State Fault Refusal :=
  finish (s.lockstep)

/-- POWER_GOOD_RETURN (R592). -/
def execPowerGoodReturn (r : Supply) (s : State) : Host.Outcome State Fault Refusal :=
  finish (s.supplyBack r)

/-- FLASH_WRITE_DONE (R418). -/
def execFlashWriteDone (j : FlashJob) (s : State) : Host.Outcome State Fault Refusal :=
  finish (s.flashDone j)

/-- STOREROOM_LOAD_DONE (R385). -/
def execStoreroomLoadDone (s : State) : Host.Outcome State Fault Refusal :=
  finish (s.storeLoaded)

end Sys2Proof.Machine
end

