-- ==== Sys2Proof/Machine/PortRows.lean ====
section
/-! DEFINITION. The rows of the packet layer, the serial lanes and the management buses (R249 to R336). Each command has a meaning of its own; `finish` ends it. -/

namespace Sys2Proof.Machine

/-- DATA_PACKET (R254). -/
def execDataPacket (p : Port) (lines : List (List LineItem)) (s : State) : Host.Outcome State Fault Refusal :=
  finish (s.dataPacket p lines)

/-- ACK_RECEIVED (R259). -/
def execAckReceived (p : Port) (lines : List (List LineItem)) (s : State) : Host.Outcome State Fault Refusal :=
  finish (s.ackReceived p lines)

/-- NAK_RECEIVED (R259). -/
def execNakReceived (p : Port) (lines : List (List LineItem)) (s : State) : Host.Outcome State Fault Refusal :=
  finish (s.nakReceived p lines)

/-- ACK_TIMEOUT (R259). -/
def execAckTimeout (p : Port) (s : State) : Host.Outcome State Fault Refusal :=
  finish (s.ackTimeout p)

/-- ACK_DUE (R258). -/
def execAckDue (p : Port) (s : State) : Host.Outcome State Fault Refusal :=
  finish (s.ackDue p)

/-- NAK_REPEAT (R255). -/
def execNakRepeat (p : Port) (s : State) : Host.Outcome State Fault Refusal :=
  finish (s.nakRepeat p)

/-- PORT_LOSS (R277). -/
def execPortLoss (p : Port) (s : State) : Host.Outcome State Fault Refusal :=
  finish (s.lossDue p)

/-- MARKER_COLUMN (R304). -/
def execMarkerColumn (p : Port) (lanes : List LaneMark) (s : State) : Host.Outcome State Fault Refusal :=
  finish (s.markerColumn p lanes)

/-- SYMBOL_LOCK (R313). -/
def execSymbolLock (p : Port) (lane : Nat) (items : List LineItem) (inverted : Bool) (eyes : List Nat) (s : State) : Host.Outcome State Fault Refusal :=
  finish (s.symbolLock p lane items inverted eyes)

/-- HOST_CAP (R314). -/
def execHostCap (p : Port) (lines : List (List LineItem)) (s : State) : Host.Outcome State Fault Refusal :=
  finish (s.trainingSets p lines)

/-- TS_ACK_RECEIVED (R309). -/
def execTsAckReceived (p : Port) (lines : List (List LineItem)) (s : State) : Host.Outcome State Fault Refusal :=
  finish (s.trainingSets p lines)

/-- TS_IGNORED (R307). -/
def execTsIgnored (p : Port) (lines : List (List LineItem)) (s : State) : Host.Outcome State Fault Refusal :=
  finish (s.trainingSets p lines)

/-- TRAIN_TIMEOUT (R314). -/
def execTrainTimeout (p : Port) (s : State) : Host.Outcome State Fault Refusal :=
  finish (s.trainTimeout p)

/-- RATE_RESTART (R314). -/
def execRateRestart (p : Port) (s : State) : Host.Outcome State Fault Refusal :=
  finish (s.rateRestart p)

/-- LANE_FAULT (R321). -/
def execLaneFault (p : Port) (lane : Nat) (cause : LaneCause) (s : State) : Host.Outcome State Fault Refusal :=
  finish (s.laneFault p lane cause)

/-- PARK_DECISION (R322). -/
def execParkDecision (p : Port) (s : State) : Host.Outcome State Fault Refusal :=
  finish (s.parkDecision p)

/-- REJOIN_DUE (R325). -/
def execRejoinDue (p : Port) (s : State) : Host.Outcome State Fault Refusal :=
  finish (s.rejoinDue p)

/-- PRBS_WINDOW_DONE (R325). -/
def execPrbsWindowDone (p : Port) (lane : Nat) (received : List PrbsRun) (s : State) : Host.Outcome State Fault Refusal :=
  finish (s.prbsWindow p lane received)

/-- PRBS_LOCK_TIMEOUT (R325). -/
def execPrbsLockTimeout (p : Port) (lane : Nat) (s : State) : Host.Outcome State Fault Refusal :=
  finish (s.prbsNoLock p lane)

/-- MB_WRITE_GROUP (R281). -/
def execMbWriteGroup (p : Port) (head : Option BusHead) (v : Word) (s : State) : Host.Outcome State Fault Refusal :=
  finish (s.busGroup p head v)

/-- MB_READ_WORD (R282). -/
def execMbReadWord (p : Port) (head : Option BusHead) (s : State) : Host.Outcome State Fault Refusal :=
  finish (s.busWord p head)

/-- MB_STOP (R281). -/
def execMbStop (p : Port) (stop : BusEnd) (s : State) : Host.Outcome State Fault Refusal :=
  finish (s.busStop p stop.head stop.cut)

/-- HANDSHAKE_TIMEOUT (R325). -/
def execHandshakeTimeout (p : Port) (s : State) : Host.Outcome State Fault Refusal :=
  finish (s.handshakeTimeout p)

/-- CHECKER_LOCK (R328). -/
def execCheckerLock (p : Port) (lane : Nat) (received : List Bool) (eyes : List Nat) (s : State) : Host.Outcome State Fault Refusal :=
  finish (s.checkerLock p lane received eyes)

/-- TRANSMIT_IDLE_END (R314). -/
def execTransmitIdleEnd (p : Port) (s : State) : Host.Outcome State Fault Refusal :=
  finish (s.idleEnd p)

end Sys2Proof.Machine
end

