-- ==== Sys2Proof/Machine/RequestRows.lean ====
section
/-! DEFINITION. The rows of the register requests (R14 to R25, R281). Each command has a meaning of its own; `finish` ends it. -/

namespace Sys2Proof.Machine

/-- OPEN (R212). -/
def execSlotOpen (p : Port) (w : Path) (slot : Nat) (s : State) : Host.Outcome State Fault Refusal :=
  finish (s.put p w .lyrSlotCmd (word slot))

/-- READY (R212). -/
def execSlotReady (p : Port) (w : Path) (slot : Nat) (s : State) : Host.Outcome State Fault Refusal :=
  finish (s.put p w .lyrSlotCmd (word (slot + 0x100)))

/-- RELEASE (R212). -/
def execSlotRelease (p : Port) (w : Path) (slot : Nat) (s : State) : Host.Outcome State Fault Refusal :=
  finish (s.put p w .lyrSlotCmd (word (slot + 0x200)))

/-- CMP_COMMIT_WRITE (R159). -/
def execCmpCommitWrite (p : Port) (w : Path) (v : Word) (s : State) : Host.Outcome State Fault Refusal :=
  finish (s.put p w .cmpCommit v)

/-- FENCE_SIG_WRITE (R167). -/
def execFenceSigWrite (p : Port) (w : Path) (v : Word) (s : State) : Host.Outcome State Fault Refusal :=
  finish (s.put p w .cmpFenceSig v)

/-- FENCE_SET (R167). -/
def execFenceSet (p : Port) (w : Path) (k : Nat) (v : Word) (s : State) : Host.Outcome State Fault Refusal :=
  finish (s.put p w .cmpFence v k)

/-- SEM_ACQ_WRITE (R284). -/
def execSemAcqWrite (p : Port) (w : Path) (v : Word) (s : State) : Host.Outcome State Fault Refusal :=
  finish (s.put p w .hptSemAcq v)

/-- SEM_REL_WRITE (R284). -/
def execSemRelWrite (p : Port) (w : Path) (v : Word) (s : State) : Host.Outcome State Fault Refusal :=
  finish (s.put p w .hptSemRel v)

/-- REGISTER_WRITE (R16). -/
def execRegisterWrite (p : Port) (w : Path) (addr : Nat) (v : Word) (s : State) : Host.Outcome State Fault Refusal :=
  finish (s.writeRequest p w addr v)

/-- LO_HALF_READ (R290). -/
def execLoHalfRead (p : Port) (w : Path) (addr : Nat) (s : State) : Host.Outcome State Fault Refusal :=
  finish (s.readRequest p w addr)

/-- CHAIN_READ (R572). -/
def execChainRead (p : Port) (w : Path) (k : Nat) (s : State) : Host.Outcome State Fault Refusal :=
  finish (s.readRequest p w (Reg.addr .pmcCnt k 0))

/-- SCN_FREC_SEL_WRITE (R58). -/
def execScnFrecSelWrite (p : Port) (w : Path) (v : Word) (s : State) : Host.Outcome State Fault Refusal :=
  finish (s.put p w .scnFrecSel v)

/-- SCN_TMODE_WRITE (R88). -/
def execScnTmodeWrite (p : Port) (w : Path) (v : Word) (s : State) : Host.Outcome State Fault Refusal :=
  finish (s.put p w .scnTmode v)

/-- SCN_BLANK_WRITE (R88). -/
def execScnBlankWrite (p : Port) (w : Path) (v : Word) (s : State) : Host.Outcome State Fault Refusal :=
  finish (s.put p w .scnBlank v)

/-- SCN_IFS_WRITE (R80). -/
def execScnIfsWrite (p : Port) (w : Path) (v : Word) (s : State) : Host.Outcome State Fault Refusal :=
  finish (s.put p w .scnIfs v)

/-- CMP_CRES_SEL_WRITE (R199). -/
def execCmpCresSelWrite (p : Port) (w : Path) (v : Word) (s : State) : Host.Outcome State Fault Refusal :=
  finish (s.put p w .cmpCresSel v)

/-- PALETTE_WRITE (R223). -/
def execPaletteWrite (p : Port) (w : Path) (pal : Nat) (i : Nat) (v : Word) (s : State) : Host.Outcome State Fault Refusal :=
  finish (s.put p w .drvPal v pal i)

/-- PAL_DISCARD (R226). -/
def execPalDiscard (p : Port) (w : Path) (v : Word) (s : State) : Host.Outcome State Fault Refusal :=
  finish (s.put p w .drvPalDiscard v)

/-- SZR_CLOAD (R238). -/
def execSzrCload (p : Port) (w : Path) (v : Word) (s : State) : Host.Outcome State Fault Refusal :=
  finish (s.put p w .szrCload v)

/-- SZR_CSEL_WRITE (R247). -/
def execSzrCselWrite (p : Port) (w : Path) (v : Word) (s : State) : Host.Outcome State Fault Refusal :=
  finish (s.put p w .szrCsel v)

/-- MASK_SET_HOST (R357). -/
def execMaskSetHost (p : Port) (w : Path) (g : Nat) (xr : Nat) (yr : Nat) (s : State) : Host.Outcome State Fault Refusal :=
  finish (s.put p w .tilMaskCmd (word (xr + 0x10000 * yr)) g)

/-- MASK_CLEAR (R357). -/
def execMaskClear (p : Port) (w : Path) (g : Nat) (xr : Nat) (yr : Nat) (s : State) : Host.Outcome State Fault Refusal :=
  finish (s.put p w .tilMaskCmd (word (xr + 0x10000 * yr + 0x1000000)) g)

/-- READMIT (R365). -/
def execReadmit (p : Port) (w : Path) (g : Nat) (v : Word) (s : State) : Host.Outcome State Fault Refusal :=
  finish (s.put p w .tilReadmit v g)

/-- PIXSEL_WRITE (R375). -/
def execPixselWrite (p : Port) (w : Path) (g : Nat) (v : Word) (s : State) : Host.Outcome State Fault Refusal :=
  finish (s.put p w .tilPixsel v g)

/-- TIL_ADC_START (R437). -/
def execTilAdcStart (p : Port) (w : Path) (g : Nat) (v : Word) (s : State) : Host.Outcome State Fault Refusal :=
  finish (s.put p w .tilAdcCtl v g)

/-- ADC_START (R437). -/
def execAdcStart (p : Port) (w : Path) (n : Nat) (v : Word) (s : State) : Host.Outcome State Fault Refusal :=
  finish (s.put p w .adcSctl v n)

/-- GROUP_GO (R440). -/
def execGroupGo (p : Port) (w : Path) (s : State) : Host.Outcome State Fault Refusal :=
  finish (s.put p w .adcGrpCtl 1)

/-- CAL_ZERO (R445). -/
def execCalZero (p : Port) (w : Path) (conv : Nat) (input : Nat) (s : State) : Host.Outcome State Fault Refusal :=
  finish (s.put p w .adcUcal (word (conv + 0x10 * input)))

/-- CAL_FULL (R445). -/
def execCalFull (p : Port) (w : Path) (conv : Nat) (input : Nat) (s : State) : Host.Outcome State Fault Refusal :=
  finish (s.put p w .adcUcal (word (conv + 0x10 * input + 0x100)))

/-- UCAL_RESET (R445). -/
def execUcalReset (p : Port) (w : Path) (conv : Nat) (input : Nat) (s : State) : Host.Outcome State Fault Refusal :=
  finish (s.put p w .adcUcal (word (conv + 0x10 * input + 0x200)))

/-- REQUEST_SLEEP (R463). -/
def execRequestSleep (p : Port) (w : Path) (s : State) : Host.Outcome State Fault Refusal :=
  finish (s.put p w .pwrReq 1)

/-- REQUEST_STANDBY (R459). -/
def execRequestStandby (p : Port) (w : Path) (s : State) : Host.Outcome State Fault Refusal :=
  finish (s.put p w .pwrReq 2)

/-- REQUEST_RUN (R460). -/
def execRequestRun (p : Port) (w : Path) (s : State) : Host.Outcome State Fault Refusal :=
  finish (s.put p w .pwrReq 3)

/-- REQUEST_HOLD (R458). -/
def execRequestHold (p : Port) (w : Path) (s : State) : Host.Outcome State Fault Refusal :=
  finish (s.put p w .pwrReq 4)

/-- VCORE_OFS_WRITE (R481). -/
def execVcoreOfsWrite (p : Port) (w : Path) (v : Word) (s : State) : Host.Outcome State Fault Refusal :=
  finish (s.put p w .pwrVcoreOfs v)

/-- CLEAR_FALLBACK (R508). -/
def execClearFallback (p : Port) (w : Path) (s : State) : Host.Outcome State Fault Refusal :=
  finish (s.put p w .fltClear 1)

/-- CLEAR_DARK (R508). -/
def execClearDark (p : Port) (w : Path) (s : State) : Host.Outcome State Fault Refusal :=
  finish (s.put p w .fltClear 2)

/-- CLEAR_FIRST (R508). -/
def execClearFirst (p : Port) (w : Path) (s : State) : Host.Outcome State Fault Refusal :=
  finish (s.put p w .fltClear 4)

/-- FLT_INJ_WRITE (R516). -/
def execFltInjWrite (p : Port) (w : Path) (v : Word) (real : List FaultReport) (s : State) : Host.Outcome State Fault Refusal :=
  finish (s.injectRequest p w v real)

/-- LOG_SEL_WRITE (R515). -/
def execLogSelWrite (p : Port) (w : Path) (v : Word) (s : State) : Host.Outcome State Fault Refusal :=
  finish (s.put p w .fltLogSel v)

/-- SAF_INJ_WRITE (R517). -/
def execSafInjWrite (p : Port) (w : Path) (v : Word) (s : State) : Host.Outcome State Fault Refusal :=
  finish (s.put p w .safInj v)

/-- BOT_RESET_WRITE (R528). -/
def execBotResetWrite (p : Port) (w : Path) (v : Word) (s : State) : Host.Outcome State Fault Refusal :=
  finish (s.put p w .botReset v)

/-- ACTIVATE (R542). -/
def execActivate (p : Port) (w : Path) (target : Nat) (slot : Nat) (s : State) : Host.Outcome State Fault Refusal :=
  finish (s.put p w .botActivate (word (target + 2 * slot)))

/-- ACTIVATE_NOW (R542). -/
def execActivateNow (p : Port) (w : Path) (target : Nat) (slot : Nat) (s : State) : Host.Outcome State Fault Refusal :=
  finish (s.put p w .botActivate (word (target + 2 * slot + 4)))

/-- CONFIRM_FIRMWARE (R542). -/
def execConfirmFirmware (p : Port) (w : Path) (s : State) : Host.Outcome State Fault Refusal :=
  finish (s.put p w .botConfirm 1)

/-- CONFIRM_PLATE (R542). -/
def execConfirmPlate (p : Port) (w : Path) (s : State) : Host.Outcome State Fault Refusal :=
  finish (s.put p w .botConfirm 2)

/-- LC_REQ (R548). -/
def execLcReq (p : Port) (w : Path) (target : Nat) (s : State) : Host.Outcome State Fault Refusal :=
  finish (s.put p w .botLcReq (word target))

/-- KEY_PROGRAM (R553). -/
def execKeyProgram (p : Port) (w : Path) (slot : Nat) (s : State) : Host.Outcome State Fault Refusal :=
  finish (s.put p w .botKeyCmd (word slot))

/-- KEY_REVOKE (R553). -/
def execKeyRevoke (p : Port) (w : Path) (slot : Nat) (s : State) : Host.Outcome State Fault Refusal :=
  finish (s.put p w .botKeyCmd (word (slot + 0x100)))

/-- BIST_GO (R550). -/
def execBistGo (p : Port) (w : Path) (groups : Nat) (s : State) : Host.Outcome State Fault Refusal :=
  finish (s.put p w .botBistCtl (word (groups + 0x80000000)))

/-- CUST_READ (R552). -/
def execCustRead (p : Port) (w : Path) (s : State) : Host.Outcome State Fault Refusal :=
  finish (s.put p w .botCustCmd 0)

/-- CUST_ERASE (R552). -/
def execCustErase (p : Port) (w : Path) (s : State) : Host.Outcome State Fault Refusal :=
  finish (s.put p w .botCustCmd 1)

/-- CUST_PROGRAM (R552). -/
def execCustProgram (p : Port) (w : Path) (s : State) : Host.Outcome State Fault Refusal :=
  finish (s.put p w .botCustCmd 2)

/-- SAVE_NOW (R418). -/
def execSaveNow (p : Port) (w : Path) (s : State) : Host.Outcome State Fault Refusal :=
  finish (s.put p w .calCmd 1)

/-- RELOAD (R385). -/
def execReload (p : Port) (w : Path) (s : State) : Host.Outcome State Fault Refusal :=
  finish (s.put p w .calCmd 2)

/-- CAL_CTRL_WRITE (R407). -/
def execCalCtrlWrite (p : Port) (w : Path) (v : Word) (s : State) : Host.Outcome State Fault Refusal :=
  finish (s.put p w .calCtrl v)

/-- CHK_CFG_WRITE (R557). -/
def execChkCfgWrite (p : Port) (w : Path) (u : Nat) (v : Word) (s : State) : Host.Outcome State Fault Refusal :=
  finish (s.put p w .chkCfg v u)

/-- CHK_STATE_WRITE (R558). -/
def execChkStateWrite (p : Port) (w : Path) (u : Nat) (v : Word) (s : State) : Host.Outcome State Fault Refusal :=
  finish (s.put p w .chkState v u)

/-- CHK_DATA8 (R559). -/
def execChkData8 (p : Port) (w : Path) (u : Nat) (v : Word) (s : State) : Host.Outcome State Fault Refusal :=
  finish (s.put p w .chkData8 v u)

/-- CHK_DATA16 (R559). -/
def execChkData16 (p : Port) (w : Path) (u : Nat) (v : Word) (s : State) : Host.Outcome State Fault Refusal :=
  finish (s.put p w .chkData16 v u)

/-- CHK_DATA32 (R559). -/
def execChkData32 (p : Port) (w : Path) (u : Nat) (v : Word) (s : State) : Host.Outcome State Fault Refusal :=
  finish (s.put p w .chkData32 v u)

/-- CHK_SCAN_GO (R561). -/
def execChkScanGo (p : Port) (w : Path) (u : Nat) (s : State) : Host.Outcome State Fault Refusal :=
  finish (s.put p w .chkScanCtl 1 u)

/-- PMC_CNT_WRITE (R569). -/
def execPmcCntWrite (p : Port) (w : Path) (k : Nat) (v : Word) (s : State) : Host.Outcome State Fault Refusal :=
  finish (s.put p w .pmcCnt v k)

/-- PMC_SEL_WRITE (R567). -/
def execPmcSelWrite (p : Port) (w : Path) (k : Nat) (v : Word) (s : State) : Host.Outcome State Fault Refusal :=
  finish (s.put p w .pmcSel v k)

/-- PMC_SMP_CFG_WRITE (R576). -/
def execPmcSmpCfgWrite (p : Port) (w : Path) (v : Word) (s : State) : Host.Outcome State Fault Refusal :=
  finish (s.put p w .pmcSmpCfg v)

/-- PMC_SMP_SEL_WRITE (R577). -/
def execPmcSmpSelWrite (p : Port) (w : Path) (v : Word) (s : State) : Host.Outcome State Fault Refusal :=
  finish (s.put p w .pmcSmpSel v)

/-- RETRAIN (R318). -/
def execRetrain (p : Port) (w : Path) (lp : Port) (s : State) : Host.Outcome State Fault Refusal :=
  finish (s.put p w .lnkCtrl (s.rd .lnkCtrl (portIx lp) ||| 2) (portIx lp))

/-- LINK_EN_WRITE (R314). -/
def execLinkEnWrite (p : Port) (w : Path) (lp : Port) (en : Bool) (s : State) : Host.Outcome State Fault Refusal :=
  finish (s.put p w .lnkCtrl (setField (s.rd .lnkCtrl (portIx lp)) 0 1 (boolNat en)) (portIx lp))

/-- LNK_REJOIN_WRITE (R325). -/
def execLnkRejoinWrite (p : Port) (w : Path) (lp : Port) (v : Word) (s : State) : Host.Outcome State Fault Refusal :=
  finish (s.put p w .lnkRejoin v (portIx lp))

/-- LNK_LOOP_WRITE (R331). -/
def execLnkLoopWrite (p : Port) (w : Path) (lp : Port) (prbs : Bool) (v : Word) (s : State) : Host.Outcome State Fault Refusal :=
  finish (s.put p w (if prbs then .lnkPrbs else .lnkLoop) v (portIx lp))

/-- PRBS_CLR (R332). -/
def execPrbsClr (p : Port) (w : Path) (lp : Port) (s : State) : Host.Outcome State Fault Refusal :=
  finish (s.put p w .lnkPrbs (s.rd .lnkPrbs (portIx lp) ||| 0x1000) (portIx lp))

/-- PWR_PHY_CTRL_WRITE (R480). -/
def execPwrPhyCtrlWrite (p : Port) (w : Path) (v : Word) (s : State) : Host.Outcome State Fault Refusal :=
  finish (s.put p w .pwrPhyCtrl v)

end Sys2Proof.Machine
end

