-- ==== Sys2Proof/Machine/SafetyRows.lean ====
section
/-! DEFINITION. The rows of the guardian and of the fault collector. Each command has a meaning of its own; `finish` ends it. -/

namespace Sys2Proof.Machine

/-- 100 ms have passed since a miss with RESTART set (R494): the guardian resets the control die
(DEDUCED, log 40). -/
def State.guardRestart (s : State) : State :=
  match s.guard.restartAt with
  | none => s
  | some t => ((s.advance t).onGuard fun g => { g with restartAt := none }).beginStart 3

/-- Events of one CK_FAB cycle reach the fault collector (R501, R505), while the control die runs. -/
def State.faultEvents (s : State) (l : List FaultReport) : State :=
  if s.controlOn then s.onFaults fun f => { f with reports := f.reports ++ l } else s

/-- INPUT_ACCEPTED (R482). -/
def execInputAccepted (changes : List (Nat × Bool)) (s : State) : Host.Outcome State Fault Refusal :=
  finish (s.inputs changes)

/-- DISCREPANCY_TIMEOUT (R483). -/
def execDiscrepancyTimeout (sib : Bool) (s : State) : Host.Outcome State Fault Refusal :=
  finish (s.discrepancy sib)

/-- PO1_OFF_DEMAND (R486). -/
def execPo1OffDemand (s : State) : Host.Outcome State Fault Refusal :=
  finish (s.offDemandDue)

/-- OUTPUT_OVERLOAD (R488). -/
def execOutputOverload (po2 : Bool) (s : State) : Host.Outcome State Fault Refusal :=
  finish (s.overload po2)

/-- OFF_PULSE_START (R489). -/
def execOffPulseStart (po2 : Bool) (s : State) : Host.Outcome State Fault Refusal :=
  finish (s.pulseStart po2)

/-- PULSE_READBACK_LOW (R490). -/
def execPulseReadbackLow (po2 : Bool) (isLow : Bool) (s : State) : Host.Outcome State Fault Refusal :=
  finish (s.pulseLow po2 isLow)

/-- PULSE_END (R491). -/
def execPulseEnd (po2 : Bool) (s : State) : Host.Outcome State Fault Refusal :=
  finish (s.pulseEnd po2)

/-- PULSE_READBACK_HIGH (R490). -/
def execPulseReadbackHigh (po2 : Bool) (isHigh : Bool) (s : State) : Host.Outcome State Fault Refusal :=
  finish (s.pulseHigh po2 isHigh)

/-- HEARTBEAT_SEND (R493). -/
def execHeartbeatSend (s : State) : Host.Outcome State Fault Refusal :=
  finish (s.beatSend)

/-- HEARTBEAT_BEAT (R493). -/
def execHeartbeatBeat (count : Byte) (complement : Byte) (s : State) : Host.Outcome State Fault Refusal :=
  finish (s.beat count complement)

/-- HEARTBEAT_MISS (R494). -/
def execHeartbeatMiss (s : State) : Host.Outcome State Fault Refusal :=
  finish (s.hbTimeout)

/-- GUARDIAN_RESTART (R494). -/
def execGuardianRestart (s : State) : Host.Outcome State Fault Refusal :=
  finish (s.guardRestart)

/-- FA_READBACK (R497). -/
def execFaReadback (differs : Bool) (s : State) : Host.Outcome State Fault Refusal :=
  finish (s.faCompare differs)

/-- KILL_READBACK (R503). -/
def execKillReadback (d : Die) (differs : Bool) (s : State) : Host.Outcome State Fault Refusal :=
  finish (s.killCompare d differs)

/-- AON_CLOCK_CHECK (R503). -/
def execAonClockCheck (deviates : Bool) (s : State) : Host.Outcome State Fault Refusal :=
  finish (s.aonCheck deviates)

/-- RELIGHT (R500). -/
def execRelight (s : State) : Host.Outcome State Fault Refusal :=
  finish (s.relight)

/-- FAULT_EVENT (R505). -/
def execFaultEvent (events : List FaultReport) (s : State) : Host.Outcome State Fault Refusal :=
  finish (s.faultEvents events)

/-- WINDOW_ELAPSE (R505). -/
def execWindowElapse (k : Nat) (s : State) : Host.Outcome State Fault Refusal :=
  finish (s.windowElapse k)

/-- LOG_WRITE_DONE (R514). -/
def execLogWriteDone (s : State) : Host.Outcome State Fault Refusal :=
  finish (s.logWritten)

/-- FAULT_ALIVE_EDGE (R496). -/
def execFaultAliveEdge (s : State) : Host.Outcome State Fault Refusal :=
  finish (s.faEdge)

end Sys2Proof.Machine
end

