-- ==== Sys2Proof/Machine/ScanRows.lean ====
section
/-! DEFINITION. The rows of scan, composition and memory errors. Each command has a meaning of its own; `finish` ends it. -/

namespace Sys2Proof.Machine

/-- SLOT_BOUNDARY (R72). -/
def execSlotBoundary (wire0 : Bool) (wire1 : Bool) (within : Bool) (s : State) : Host.Outcome State Fault Refusal :=
  finish (s.slotBoundary wire0 wire1 within)

/-- LIT_SAMPLE (R338). -/
def execLitSample (samples : List Sample) (s : State) : Host.Outcome State Fault Refusal :=
  finish (s.litSamples samples)

/-- DARK_SAMPLE (R339). -/
def execDarkSample (samples : List Sample) (s : State) : Host.Outcome State Fault Refusal :=
  finish (s.darkSamples samples)

/-- DECISION_POINT (R82). -/
def execDecisionPoint (s : State) : Host.Outcome State Fault Refusal :=
  finish (s.decisionPoint)

/-- LINE7_BLANKING (R69). -/
def execLine7Blanking (s : State) : Host.Outcome State Fault Refusal :=
  finish (s.line7)

/-- CYCLE_BOUNDARY (R83). -/
def execCycleBoundary (badComparators : List Nat) (s : State) : Host.Outcome State Fault Refusal :=
  finish (s.cycleBoundary badComparators)

/-- D2D_TRANSFER_FAIL (R85). -/
def execD2dTransferFail (d : Die) (wire : Option Nat) (s : State) : Host.Outcome State Fault Refusal :=
  finish (s.d2dFail d wire)

/-- SYNCIN_EDGE (R101). -/
def execSyncinEdge (s : State) : Host.Outcome State Fault Refusal :=
  finish (s.syncEdge)

/-- SYNC_LOSS_TIMEOUT (R103). -/
def execSyncLossTimeout (s : State) : Host.Outcome State Fault Refusal :=
  finish (s.syncLost)

/-- CAMSYNC_PULSE (R106). -/
def execCamsyncPulse (s : State) : Host.Outcome State Fault Refusal :=
  finish (s.camPulse)

/-- PASS_START (R162). -/
def execPassStart (s : State) : Host.Outcome State Fault Refusal :=
  finish (s.passStart)

/-- PASS_END (R164). -/
def execPassEnd (s : State) : Host.Outcome State Fault Refusal :=
  finish (s.passEnd)

/-- PROOF_COMPARE (R187). -/
def execProofCompare (k : Nat) (s : State) : Host.Outcome State Fault Refusal :=
  finish (s.proofCompare k)

/-- SEAL_CHECK (R179). -/
def execSealCheck (part : SealPart) (x : Nat) (y : Nat) (disturb : Word) (s : State) : Host.Outcome State Fault Refusal :=
  finish (s.sealCheck part x y disturb)

/-- FALLBACK_PATTERN_CHECK (R196). -/
def execFallbackPatternCheck (disturb : Word) (s : State) : Host.Outcome State Fault Refusal :=
  finish (s.patternCheck disturb)

/-- FALLBACK_RELOAD_DONE (R196). -/
def execFallbackReloadDone (disturb : Word) (s : State) : Host.Outcome State Fault Refusal :=
  finish (s.reloadDone disturb)

/-- STORE_ECC_ERROR (R384). -/
def execStoreEccError (g : Nat) (s : State) : Host.Outcome State Fault Refusal :=
  finish (s.storeEcc g)

/-- FENCE_TIMEOUT (R171). -/
def execFenceTimeout (t : TimerOf) (s : State) : Host.Outcome State Fault Refusal :=
  finish (s.fenceTimeout t)

/-- MEMORY_ECC_ERROR (R503). -/
def execMemoryEccError (place : EccPlace) (corrected : Bool) (s : State) : Host.Outcome State Fault Refusal :=
  finish (s.memoryEcc place corrected)

/-- SYNCOUT_PULSE_END (R99). -/
def execSyncoutPulseEnd (s : State) : Host.Outcome State Fault Refusal :=
  finish (s.syncoutEnd)

end Sys2Proof.Machine
end

