-- ==== Sys2Proof/Machine/Dispatch.lean ====
section
/-! DEFINITION. The dispatch: one arm for each command, each arm one call of that command's meaning. -/

namespace Sys2Proof.Machine

/-- The effect of a command on everything but the queue of waiting commands. -/
def exec (i : Instr) (s : State) : Host.Outcome State Fault Refusal :=
  match i with
  | .nop h payload => Sys2Proof.Machine.execNop h payload s
  | .regWrite h payload => Sys2Proof.Machine.execRegWrite h payload s
  | .regRead h payload => Sys2Proof.Machine.execRegRead h payload s
  | .regRmw h payload => Sys2Proof.Machine.execRegRmw h payload s
  | .echo h payload => Sys2Proof.Machine.execEcho h payload s
  | .layerWrite h payload => Sys2Proof.Machine.execLayerWrite h payload s
  | .streamBlock p words => Sys2Proof.Machine.execStreamBlock p words s
  | .slotCtrl h payload => Sys2Proof.Machine.execSlotCtrl h payload s
  | .slotOpen p w slot => Sys2Proof.Machine.execSlotOpen p w slot s
  | .slotReady p w slot => Sys2Proof.Machine.execSlotReady p w slot s
  | .slotRelease p w slot => Sys2Proof.Machine.execSlotRelease p w slot s
  | .commit h payload => Sys2Proof.Machine.execCommit h payload s
  | .cmpCommitWrite p w v => Sys2Proof.Machine.execCmpCommitWrite p w v s
  | .fenceSignal h payload => Sys2Proof.Machine.execFenceSignal h payload s
  | .fenceSigWrite p w v => Sys2Proof.Machine.execFenceSigWrite p w v s
  | .fenceSet p w k v => Sys2Proof.Machine.execFenceSet p w k v s
  | .semAcquire h payload => Sys2Proof.Machine.execSemAcquire h payload s
  | .semRelease h payload => Sys2Proof.Machine.execSemRelease h payload s
  | .semAcqWrite p w v => Sys2Proof.Machine.execSemAcqWrite p w v s
  | .semRelWrite p w v => Sys2Proof.Machine.execSemRelWrite p w v s
  | .updateBegin h payload => Sys2Proof.Machine.execUpdateBegin h payload s
  | .updateBlock h payload => Sys2Proof.Machine.execUpdateBlock h payload s
  | .updateFinish h payload => Sys2Proof.Machine.execUpdateFinish h payload s
  | .updateEraseDone => Sys2Proof.Machine.execUpdateEraseDone s
  | .programBufferDrain words => Sys2Proof.Machine.execProgramBufferDrain words s
  | .registerWrite p w addr v => Sys2Proof.Machine.execRegisterWrite p w addr v s
  | .loHalfRead p w addr => Sys2Proof.Machine.execLoHalfRead p w addr s
  | .chainRead p w k => Sys2Proof.Machine.execChainRead p w k s
  | .scnFrecSelWrite p w v => Sys2Proof.Machine.execScnFrecSelWrite p w v s
  | .scnTmodeWrite p w v => Sys2Proof.Machine.execScnTmodeWrite p w v s
  | .scnBlankWrite p w v => Sys2Proof.Machine.execScnBlankWrite p w v s
  | .scnIfsWrite p w v => Sys2Proof.Machine.execScnIfsWrite p w v s
  | .cmpCresSelWrite p w v => Sys2Proof.Machine.execCmpCresSelWrite p w v s
  | .paletteWrite p w pal k v => Sys2Proof.Machine.execPaletteWrite p w pal k v s
  | .palDiscard p w v => Sys2Proof.Machine.execPalDiscard p w v s
  | .szrCload p w v => Sys2Proof.Machine.execSzrCload p w v s
  | .szrCselWrite p w v => Sys2Proof.Machine.execSzrCselWrite p w v s
  | .maskSetHost p w g xr yr => Sys2Proof.Machine.execMaskSetHost p w g xr yr s
  | .maskClear p w g xr yr => Sys2Proof.Machine.execMaskClear p w g xr yr s
  | .readmit p w g v => Sys2Proof.Machine.execReadmit p w g v s
  | .pixselWrite p w g v => Sys2Proof.Machine.execPixselWrite p w g v s
  | .tilAdcStart p w g v => Sys2Proof.Machine.execTilAdcStart p w g v s
  | .adcStart p w n v => Sys2Proof.Machine.execAdcStart p w n v s
  | .groupGo p w => Sys2Proof.Machine.execGroupGo p w s
  | .calZero p w conv input => Sys2Proof.Machine.execCalZero p w conv input s
  | .calFull p w conv input => Sys2Proof.Machine.execCalFull p w conv input s
  | .ucalReset p w conv input => Sys2Proof.Machine.execUcalReset p w conv input s
  | .ucalDone => Sys2Proof.Machine.execUcalDone s
  | .requestSleep p w => Sys2Proof.Machine.execRequestSleep p w s
  | .requestStandby p w => Sys2Proof.Machine.execRequestStandby p w s
  | .requestRun p w => Sys2Proof.Machine.execRequestRun p w s
  | .requestHold p w => Sys2Proof.Machine.execRequestHold p w s
  | .vcoreOfsWrite p w v => Sys2Proof.Machine.execVcoreOfsWrite p w v s
  | .clearFallback p w => Sys2Proof.Machine.execClearFallback p w s
  | .clearDark p w => Sys2Proof.Machine.execClearDark p w s
  | .clearFirst p w => Sys2Proof.Machine.execClearFirst p w s
  | .fltInjWrite p w v real => Sys2Proof.Machine.execFltInjWrite p w v real s
  | .logSelWrite p w v => Sys2Proof.Machine.execLogSelWrite p w v s
  | .safInjWrite p w v => Sys2Proof.Machine.execSafInjWrite p w v s
  | .botResetWrite p w v => Sys2Proof.Machine.execBotResetWrite p w v s
  | .activate p w target slot => Sys2Proof.Machine.execActivate p w target slot s
  | .activateNow p w target slot => Sys2Proof.Machine.execActivateNow p w target slot s
  | .confirmFirmware p w => Sys2Proof.Machine.execConfirmFirmware p w s
  | .confirmPlate p w => Sys2Proof.Machine.execConfirmPlate p w s
  | .lcReq p w target => Sys2Proof.Machine.execLcReq p w target s
  | .keyProgram p w slot => Sys2Proof.Machine.execKeyProgram p w slot s
  | .keyRevoke p w slot => Sys2Proof.Machine.execKeyRevoke p w slot s
  | .bistGo p w groups => Sys2Proof.Machine.execBistGo p w groups s
  | .bistDone sigs => Sys2Proof.Machine.execBistDone sigs s
  | .custRead p w => Sys2Proof.Machine.execCustRead p w s
  | .custErase p w => Sys2Proof.Machine.execCustErase p w s
  | .custProgram p w => Sys2Proof.Machine.execCustProgram p w s
  | .custOpDone flashError => Sys2Proof.Machine.execCustOpDone flashError s
  | .saveNow p w => Sys2Proof.Machine.execSaveNow p w s
  | .reload p w => Sys2Proof.Machine.execReload p w s
  | .calCtrlWrite p w v => Sys2Proof.Machine.execCalCtrlWrite p w v s
  | .chkCfgWrite p w u v => Sys2Proof.Machine.execChkCfgWrite p w u v s
  | .chkStateWrite p w u v => Sys2Proof.Machine.execChkStateWrite p w u v s
  | .chkData8 p w u v => Sys2Proof.Machine.execChkData8 p w u v s
  | .chkData16 p w u v => Sys2Proof.Machine.execChkData16 p w u v s
  | .chkData32 p w u v => Sys2Proof.Machine.execChkData32 p w u v s
  | .chkScanGo p w u => Sys2Proof.Machine.execChkScanGo p w u s
  | .chkScanEnd u => Sys2Proof.Machine.execChkScanEnd u s
  | .pmcCntWrite p w k v => Sys2Proof.Machine.execPmcCntWrite p w k v s
  | .pmcSelWrite p w k v => Sys2Proof.Machine.execPmcSelWrite p w k v s
  | .pmcSmpCfgWrite p w v => Sys2Proof.Machine.execPmcSmpCfgWrite p w v s
  | .pmcSmpSelWrite p w v => Sys2Proof.Machine.execPmcSmpSelWrite p w v s
  | .retrain p w lp => Sys2Proof.Machine.execRetrain p w lp s
  | .linkEnWrite p w lp en => Sys2Proof.Machine.execLinkEnWrite p w lp en s
  | .lnkRejoinWrite p w lp v => Sys2Proof.Machine.execLnkRejoinWrite p w lp v s
  | .lnkLoopWrite p w lp prbs v => Sys2Proof.Machine.execLnkLoopWrite p w lp prbs v s
  | .prbsClr p w lp => Sys2Proof.Machine.execPrbsClr p w lp s
  | .dataPacket p lines => Sys2Proof.Machine.execDataPacket p lines s
  | .ackReceived p lines => Sys2Proof.Machine.execAckReceived p lines s
  | .nakReceived p lines => Sys2Proof.Machine.execNakReceived p lines s
  | .ackTimeout p => Sys2Proof.Machine.execAckTimeout p s
  | .ackDue p => Sys2Proof.Machine.execAckDue p s
  | .nakRepeat p => Sys2Proof.Machine.execNakRepeat p s
  | .portLoss p => Sys2Proof.Machine.execPortLoss p s
  | .markerColumn p lanes => Sys2Proof.Machine.execMarkerColumn p lanes s
  | .symbolLock p lane items inverted eyes => Sys2Proof.Machine.execSymbolLock p lane items inverted eyes s
  | .hostCap p lines => Sys2Proof.Machine.execHostCap p lines s
  | .tsAckReceived p lines => Sys2Proof.Machine.execTsAckReceived p lines s
  | .tsIgnored p lines => Sys2Proof.Machine.execTsIgnored p lines s
  | .trainTimeout p => Sys2Proof.Machine.execTrainTimeout p s
  | .rateRestart p => Sys2Proof.Machine.execRateRestart p s
  | .laneFault p lane cause => Sys2Proof.Machine.execLaneFault p lane cause s
  | .parkDecision p => Sys2Proof.Machine.execParkDecision p s
  | .rejoinDue p => Sys2Proof.Machine.execRejoinDue p s
  | .prbsWindowDone p lane received => Sys2Proof.Machine.execPrbsWindowDone p lane received s
  | .prbsLockTimeout p lane => Sys2Proof.Machine.execPrbsLockTimeout p lane s
  | .mbWriteGroup p head v => Sys2Proof.Machine.execMbWriteGroup p head v s
  | .mbReadWord p head => Sys2Proof.Machine.execMbReadWord p head s
  | .mbStop p stop => Sys2Proof.Machine.execMbStop p stop s
  | .slotBoundary wire0 wire1 within => Sys2Proof.Machine.execSlotBoundary wire0 wire1 within s
  | .litSample samples => Sys2Proof.Machine.execLitSample samples s
  | .darkSample samples => Sys2Proof.Machine.execDarkSample samples s
  | .decisionPoint => Sys2Proof.Machine.execDecisionPoint s
  | .line7Blanking => Sys2Proof.Machine.execLine7Blanking s
  | .cycleBoundary badComparators => Sys2Proof.Machine.execCycleBoundary badComparators s
  | .d2dTransferFail d wire => Sys2Proof.Machine.execD2dTransferFail d wire s
  | .syncinEdge => Sys2Proof.Machine.execSyncinEdge s
  | .syncLossTimeout => Sys2Proof.Machine.execSyncLossTimeout s
  | .camsyncPulse => Sys2Proof.Machine.execCamsyncPulse s
  | .passStart => Sys2Proof.Machine.execPassStart s
  | .passEnd => Sys2Proof.Machine.execPassEnd s
  | .proofCompare k => Sys2Proof.Machine.execProofCompare k s
  | .sealCheck part x y disturb => Sys2Proof.Machine.execSealCheck part x y disturb s
  | .fallbackPatternCheck disturb => Sys2Proof.Machine.execFallbackPatternCheck disturb s
  | .fallbackReloadDone disturb => Sys2Proof.Machine.execFallbackReloadDone disturb s
  | .storeEccError g => Sys2Proof.Machine.execStoreEccError g s
  | .fenceTimeout t => Sys2Proof.Machine.execFenceTimeout t s
  | .avsAcknowledge rail => Sys2Proof.Machine.execAvsAcknowledge rail s
  | .avsNack rail => Sys2Proof.Machine.execAvsNack rail s
  | .avsTimeout rail => Sys2Proof.Machine.execAvsTimeout rail s
  | .avsStatusPoll rail vdone => Sys2Proof.Machine.execAvsStatusPoll rail vdone s
  | .headroomUpdate d => Sys2Proof.Machine.execHeadroomUpdate d s
  | .calStepEnd g regOk => Sys2Proof.Machine.execCalStepEnd g regOk s
  | .roundStall g => Sys2Proof.Machine.execRoundStall g s
  | .fluxInterval => Sys2Proof.Machine.execFluxInterval s
  | .trimSaveDue => Sys2Proof.Machine.execTrimSaveDue s
  | .settingsWrite => Sys2Proof.Machine.execSettingsWrite s
  | .scheduledConversion g => Sys2Proof.Machine.execScheduledConversion g s
  | .conversionDone conv raw => Sys2Proof.Machine.execConversionDone conv raw s
  | .urgentRequest k => Sys2Proof.Machine.execUrgentRequest k s
  | .hostConversionStart conv => Sys2Proof.Machine.execHostConversionStart conv s
  | .groupTrigger => Sys2Proof.Machine.execGroupTrigger s
  | .groupDone raws => Sys2Proof.Machine.execGroupDone raws s
  | .vinRise => Sys2Proof.Machine.execVinRise s
  | .vinFall => Sys2Proof.Machine.execVinFall s
  | .resetN low => Sys2Proof.Machine.execResetN low s
  | .supplyGoodLoss r => Sys2Proof.Machine.execSupplyGoodLoss r s
  | .start cause => Sys2Proof.Machine.execStart cause s
  | .startPhaseDone passed => Sys2Proof.Machine.execStartPhaseDone passed s
  | .startRetry => Sys2Proof.Machine.execStartRetry s
  | .nativeWake p target write => Sys2Proof.Machine.execNativeWake p target write s
  | .laneWake p squelch => Sys2Proof.Machine.execLaneWake p squelch s
  | .wakeStepDone => Sys2Proof.Machine.execWakeStepDone s
  | .wakeStepTimeout => Sys2Proof.Machine.execWakeStepTimeout s
  | .sclRelease p => Sys2Proof.Machine.execSclRelease p s
  | .domainOnDone d sequencersOk => Sys2Proof.Machine.execDomainOnDone d sequencersOk s
  | .refClockLoss => Sys2Proof.Machine.execRefClockLoss s
  | .pllLockLoss => Sys2Proof.Machine.execPllLockLoss s
  | .lockstep => Sys2Proof.Machine.execLockstep s
  | .inputAccepted changes => Sys2Proof.Machine.execInputAccepted changes s
  | .discrepancyTimeout sib => Sys2Proof.Machine.execDiscrepancyTimeout sib s
  | .po1OffDemand => Sys2Proof.Machine.execPo1OffDemand s
  | .outputOverload po2 => Sys2Proof.Machine.execOutputOverload po2 s
  | .offPulseStart po2 => Sys2Proof.Machine.execOffPulseStart po2 s
  | .pulseReadbackLow po2 isLow => Sys2Proof.Machine.execPulseReadbackLow po2 isLow s
  | .pulseEnd po2 => Sys2Proof.Machine.execPulseEnd po2 s
  | .pulseReadbackHigh po2 isHigh => Sys2Proof.Machine.execPulseReadbackHigh po2 isHigh s
  | .heartbeatSend => Sys2Proof.Machine.execHeartbeatSend s
  | .heartbeatBeat count complement => Sys2Proof.Machine.execHeartbeatBeat count complement s
  | .heartbeatMiss => Sys2Proof.Machine.execHeartbeatMiss s
  | .guardianRestart => Sys2Proof.Machine.execGuardianRestart s
  | .faReadback differs => Sys2Proof.Machine.execFaReadback differs s
  | .killReadback d differs => Sys2Proof.Machine.execKillReadback d differs s
  | .aonClockCheck deviates => Sys2Proof.Machine.execAonClockCheck deviates s
  | .relight => Sys2Proof.Machine.execRelight s
  | .faultEvent events => Sys2Proof.Machine.execFaultEvent events s
  | .windowElapse k => Sys2Proof.Machine.execWindowElapse k s
  | .logWriteDone => Sys2Proof.Machine.execLogWriteDone s
  | .pwrPhyCtrlWrite p w v => Sys2Proof.Machine.execPwrPhyCtrlWrite p w v s
  | .powerGoodReturn r => Sys2Proof.Machine.execPowerGoodReturn r s
  | .flashWriteDone j => Sys2Proof.Machine.execFlashWriteDone j s
  | .storeroomLoadDone => Sys2Proof.Machine.execStoreroomLoadDone s
  | .memoryEccError place corrected => Sys2Proof.Machine.execMemoryEccError place corrected s
  | .handshakeTimeout p => Sys2Proof.Machine.execHandshakeTimeout p s
  | .checkerLock p lane received eyes => Sys2Proof.Machine.execCheckerLock p lane received eyes s
  | .transmitIdleEnd p => Sys2Proof.Machine.execTransmitIdleEnd p s
  | .syncoutPulseEnd => Sys2Proof.Machine.execSyncoutPulseEnd s
  | .faultAliveEdge => Sys2Proof.Machine.execFaultAliveEdge s

end Sys2Proof.Machine
end

