-- ==== Sys2Proof/Laws/Tables.lean ====
section
/-! SUPPORT. Sparse tables: what is written is read, every other key keeps its value, and every operation keeps the
canonical form. -/

namespace Sys2Proof.Machine

variable {α : Type}

/-! ### Reading what was written -/

theorem tabGet_erase_same (d : α) (i : Nat) (t : Tab α) : tabGet d (tabErase i t) i = d := by
  induction t with
  | nil => rfl
  | cons e t ih =>
    by_cases h : e.1 = i
    · simp [tabErase, h, ih]
    · simp [tabErase, h, ih, tabGet]

theorem tabGet_erase_other (d : α) {i j : Nat} (h : j ≠ i) (t : Tab α) :
    tabGet d (tabErase i t) j = tabGet d t j := by
  induction t with
  | nil => rfl
  | cons e t ih =>
    by_cases hi : e.1 = i
    · have : e.1 ≠ j := by omega
      simp [tabErase, hi, ih, tabGet]
      intro hij; omega
    · simp [tabErase, hi, tabGet, ih]

theorem tabGet_put_same (d : α) (i : Nat) (v : α) (t : Tab α) : tabGet d (tabPut i v t) i = v := by
  induction t with
  | nil => simp [tabPut, tabGet]
  | cons e t ih =>
    unfold tabPut
    split
    · simp [tabGet]
    · split
      · simp [tabGet]
      · simp [tabGet, ih]; omega

theorem tabGet_put_other (d : α) {i j : Nat} (h : j ≠ i) (v : α) (t : Tab α) :
    tabGet d (tabPut i v t) j = tabGet d t j := by
  induction t with
  | nil => simp [tabPut, tabGet, Ne.symm h]
  | cons e t ih =>
    unfold tabPut
    split
    · simp [tabGet, Ne.symm h]
    · split
      · simp [tabGet, Ne.symm h]; omega
      · simp [tabGet, ih]

@[simp] theorem tabGet_set_same [DecidableEq α] (d : α) (t : Tab α) (i : Nat) (v : α) :
    tabGet d (tabSet d t i v) i = v := by
  unfold tabSet
  split
  · simp_all [tabGet_erase_same]
  · exact tabGet_put_same d i v t

/-- Every other key keeps its value, whatever it is read with for want of an entry. -/
theorem tabGet_set_other [DecidableEq α] (d e : α) {i j : Nat} (h : j ≠ i) (t : Tab α) (v : α) :
    tabGet e (tabSet d t i v) j = tabGet e t j := by
  unfold tabSet
  split
  · exact tabGet_erase_other e h t
  · exact tabGet_put_other e h v t

/-- A filter by key leaves the keys that it admits as they read, and the others unlisted. -/
theorem tabGet_filter (d : α) (p : Nat → Bool) (t : Tab α) (i : Nat) :
    tabGet d (t.filter fun e => p e.1) i = if p i then tabGet d t i else d := by
  induction t with
  | nil => simp [tabGet]
  | cons e t ih =>
    by_cases hp : p e.1 = true
    · by_cases h : e.1 = i
      · subst h; simp [hp, tabGet]
      · simp [hp, tabGet, h, ih]
    · by_cases h : e.1 = i
      · subst h; simp [hp, ih]
      · simp [hp, tabGet, h, ih]

/-! ### The canonical form -/

theorem tabWfFrom_mono [DecidableEq α] {d : α} {a b : Nat} (h : b ≤ a) {t : Tab α} (w : tabWfFrom d a t = true) :
    tabWfFrom d b t = true := by
  cases t with
  | nil => rfl
  | cons e t => simp [tabWfFrom] at w ⊢; exact ⟨⟨by omega, w.1.2⟩, w.2⟩

theorem tabWfFrom_erase [DecidableEq α] {d : α} (i : Nat) {t : Tab α} {a : Nat} (w : tabWfFrom d a t = true) :
    tabWfFrom d a (tabErase i t) = true := by
  induction t generalizing a with
  | nil => rfl
  | cons e t ih =>
    simp [tabWfFrom] at w
    unfold tabErase
    split
    · exact ih (tabWfFrom_mono (by omega) w.2)
    · simp [tabWfFrom, w.1, ih w.2]

theorem tabWfFrom_put [DecidableEq α] {d : α} {i : Nat} {v : α} (hv : v ≠ d) {t : Tab α} {a : Nat} (ha : a ≤ i)
    (w : tabWfFrom d a t = true) : tabWfFrom d a (tabPut i v t) = true := by
  induction t generalizing a with
  | nil => simp [tabPut, tabWfFrom, hv, ha]
  | cons e t ih =>
    simp [tabWfFrom] at w
    unfold tabPut
    split
    · simp [tabWfFrom, hv, ha, w]; omega
    · split
      · subst i; simp [tabWfFrom, hv, w]
      · simp [tabWfFrom, w.1, ih (by omega) w.2]

/-- A write keeps the canonical form. -/
theorem tabWf_set [DecidableEq α] {d : α} {t : Tab α} (w : tabWf d t = true) (i : Nat) (v : α) :
    tabWf d (tabSet d t i v) = true := by
  unfold tabSet
  split
  · exact tabWfFrom_erase i w
  · exact tabWfFrom_put ‹_› (Nat.zero_le _) w

theorem tabWfFrom_filter [DecidableEq α] {d : α} (p : Nat → Bool) {t : Tab α} {a : Nat}
    (w : tabWfFrom d a t = true) : tabWfFrom d a (tabFilter p t) = true := by
  induction t generalizing a with
  | nil => rfl
  | cons e t ih =>
    simp [tabWfFrom] at w
    unfold tabFilter
    split
    · simp [tabWfFrom, w.1, ih w.2]
    · exact ih (tabWfFrom_mono (by omega) w.2)

theorem tabWf_filter [DecidableEq α] {d : α} (p : Nat → Bool) {t : Tab α} (w : tabWf d t = true) :
    tabWf d (tabFilter p t) = true := tabWfFrom_filter p w

/-- Two canonical tables that read alike at every key are equal. -/
theorem tabWfFrom_ext [DecidableEq α] {d : α} {t u : Tab α} {a : Nat} (wt : tabWfFrom d a t = true)
    (wu : tabWfFrom d a u = true) (h : ∀ i, tabGet d t i = tabGet d u i) : t = u := by
  have low : ∀ {l : Tab α} {b i : Nat}, tabWfFrom d b l = true → i < b → tabGet d l i = d := by
    intro l
    induction l with
    | nil => intros; rfl
    | cons e l ih =>
      intro b i w hi
      simp [tabWfFrom] at w
      have : e.1 ≠ i := by omega
      simp only [tabGet, if_neg this]
      exact ih (b := e.1 + 1) w.2 (by omega)
  induction t generalizing u a with
  | nil =>
    cases u with
    | nil => rfl
    | cons e u =>
      simp [tabWfFrom] at wu
      have := h e.1
      simp [tabGet] at this
      exact absurd this.symm wu.1.2
  | cons e t ih =>
    cases u with
    | nil =>
      simp [tabWfFrom] at wt
      have := h e.1
      simp [tabGet] at this
      exact absurd this wt.1.2
    | cons f u =>
      simp [tabWfFrom] at wt wu
      have he := h e.1
      have hf := h f.1
      simp [tabGet] at he hf
      rcases Nat.lt_trichotomy e.1 f.1 with hlt | heq | hgt
      · rw [if_neg (by omega), low (b := f.1 + 1) wu.2 (by omega)] at he
        exact absurd he wt.1.2
      · rw [if_pos heq.symm] at he
        have hef : e = f := Prod.ext heq he
        subst hef
        congr 1
        refine ih wt.2 wu.2 fun i => ?_
        by_cases hi : e.1 = i
        · rw [low (b := e.1 + 1) wt.2 (by omega), low (b := e.1 + 1) wu.2 (by omega)]
        · have := h i
          simpa [tabGet, hi] using this
      · rw [if_neg (by omega), low (b := e.1 + 1) wt.2 (by omega)] at hf
        exact absurd hf.symm wu.1.2

end Sys2Proof.Machine
end

