-- ==== Sys2Proof/Laws/Memory.lean ====
section
/-! SUPPORT. The memory (bulk window and cellar): what is stored is read, every other byte keeps its value, and every
memory operation keeps the canonical form. -/

namespace Sys2Proof.Machine

/-! ### One byte -/

@[simp] theorem memByte_set_same (m : List Host.Cell) (a : Nat) (b : Byte) : memByte (memSet m a b) a = b :=
  tabGet_set_same memDefault m a b

theorem memByte_set_other {a i : Nat} (h : i ≠ a) (m : List Host.Cell) (b : Byte) :
    memByte (memSet m a b) i = memByte m i :=
  tabGet_set_other memDefault memDefault h m b

theorem wf_memSet {m : List Host.Cell} (w : Memory.wf m = true) (a : Nat) (b : Byte) : Memory.wf (memSet m a b) = true :=
  tabWf_set w a b

/-! ### Runs of bytes and words -/

/-- A byte outside a store keeps its value. -/
theorem memByte_store_outside {bs : List Byte} {a i : Nat} (m : List Host.Cell) (h : i < a ∨ a + bs.length ≤ i) :
    memByte (memStore m a bs) i = memByte m i := by
  induction bs generalizing m a with
  | nil => rfl
  | cons b bs ih =>
    simp only [List.length_cons] at h
    rw [memStore, ih _ (by omega), memByte_set_other (by omega)]

/-- A byte inside a store is the byte stored there. -/
theorem memByte_store_inside {bs : List Byte} {a i : Nat} (m : List Host.Cell) (h : i < bs.length) :
    memByte (memStore m a bs) (a + i) = bs.getD i 0 := by
  induction bs generalizing m a i with
  | nil => simp at h
  | cons b bs ih =>
    cases i with
    | zero => rw [memStore, memByte_store_outside _ (by omega)]; simp
    | succ i =>
      have := ih (a := a + 1) (memSet m a b) (i := i) (by simpa using h)
      rw [memStore, show a + (i + 1) = a + 1 + i by omega, this]
      simp

theorem wf_memStore {bs : List Byte} {m : List Host.Cell} (w : Memory.wf m = true) (a : Nat) :
    Memory.wf (memStore m a bs) = true := by
  induction bs generalizing m a with
  | nil => exact w
  | cons b bs ih => exact ih (wf_memSet w a b) (a + 1)

@[simp] theorem length_bytesOfWord (w : Word) : (bytesOfWord w).length = 4 := rfl

/-- A byte outside a run of words keeps its value. -/
theorem memByte_setWords_outside {ws : List Word} {a i : Nat} (m : List Host.Cell)
    (h : i < a ∨ a + 4 * ws.length ≤ i) : memByte (memSetWords m a ws) i = memByte m i := by
  induction ws generalizing m a with
  | nil => rfl
  | cons w ws ih =>
    simp only [List.length_cons] at h
    rw [memSetWords, ih _ (by omega), memSetWord, memByte_store_outside _ (by simp; omega)]

/-- A stored word is read, low byte first (R7). -/
theorem memWord_setWord (m : List Host.Cell) (a : Nat) (w : Word) : memWord (memSetWord m a w) a = w := by
  have h (i : Nat) (hi : i < 4) := memByte_store_inside (bs := bytesOfWord w) (a := a) m (i := i) (by simpa using hi)
  have h0 := h 0 (by omega)
  have h1 := h 1 (by omega)
  have h2 := h 2 (by omega)
  have h3 := h 3 (by omega)
  simp only [memWord, memSetWord] at *
  rw [Nat.add_zero] at h0
  rw [h0, h1, h2, h3]
  simp only [bytesOfWord, wordOf, byteOf, List.getD_cons_zero, List.getD_cons_succ]
  ext i hi
  simp only [BitVec.getElem_append, BitVec.getElem_extractLsb']
  split
  · simp_all [BitVec.getLsbD_eq_getElem]
  · split
    · rw [BitVec.getLsbD_eq_getElem (by omega)]; congr 1; omega
    · split
      · rw [BitVec.getLsbD_eq_getElem (by omega)]; congr 1; omega
      · rw [BitVec.getLsbD_eq_getElem (by omega)]; congr 1; omega

theorem wf_memSetWords {ws : List Word} {m : List Host.Cell} (w : Memory.wf m = true) (a : Nat) :
    Memory.wf (memSetWords m a ws) = true := by
  induction ws generalizing m a with
  | nil => exact w
  | cons v ws ih => exact ih (wf_memStore w a) (a + 4)

/-! ### The operations of the state -/

theorem wf_foldl {β : Type} (f : List Host.Cell → β → List Host.Cell)
    (hf : ∀ m b, Memory.wf m = true → Memory.wf (f m b) = true) (l : List β) {m : List Host.Cell}
    (w : Memory.wf m = true) : Memory.wf (l.foldl f m) = true := by
  induction l generalizing m with
  | nil => exact w
  | cons b l ih => exact ih (hf m b w)

theorem wf_zeroOutside (a e w : Nat) {m : List Host.Cell} (h : Memory.wf m = true) :
    Memory.wf (zeroOutside a e w m) = true := by
  refine wf_foldl _ (fun m i hm => ?_) _ h
  split
  · exact hm
  · exact wf_memSet hm _ _

theorem mem_report (s : State) (k d : Nat) : (s.report k d).mem = s.mem := rfl

/-- A part of a write into layer memory or the cellar keeps the canonical form. -/
theorem wf_storePart {s : State} (w : Memory.wf s.mem = true) (before after a : Nat) (ws : List Word) :
    Memory.wf (s.storePart before after a ws).mem = true := by
  unfold State.storePart
  simp only
  split
  · exact wf_memSetWords (wf_foldl _ (fun m v hm => wf_zeroOutside _ _ v hm) _ w) a
  · rw [mem_report]
    exact wf_memSetWords (wf_foldl _ (fun m v hm => wf_zeroOutside _ _ v hm) _ w) a

/-- A store into layer memory or the cellar keeps the canonical form. -/
theorem wf_store {s : State} (w : Memory.wf s.mem = true) (a : Nat) (ws : List Word) :
    Memory.wf (s.store a ws).mem = true := wf_storePart w 0 0 a ws

theorem wf_loadPattern (pl : Plate) {m : List Host.Cell} (w : Memory.wf m = true) :
    Memory.wf (loadPattern pl m) = true := by
  refine wf_foldl _ (fun m b hm => ?_) _ (tabWf_filter _ w)
  obtain ⟨o, b⟩ := b
  show Memory.wf (if o < 0x8044 then memSet m (bankBase pl.fbBank + o) b else m) = true
  split
  · exact wf_memSet hm _ _
  · exact hm

theorem wf_reloadPattern {s : State} (w : Memory.wf s.mem = true) (pl : Plate) :
    Memory.wf (s.reloadPattern pl).mem = true := wf_loadPattern pl w

/-- The register reset of a start keeps the canonical form of what it retains. -/
theorem wf_registerReset {s : State} (w : Memory.wf s.mem = true) : Memory.wf s.registerReset.mem = true :=
  tabWf_filter _ w

theorem wf_reset : Memory.wf State.reset.mem = true := rfl

end Sys2Proof.Machine
end

