-- ==== Sys2Proof/Laws/State.lean ====
section
/-! SUPPORT. Updates of the state, field by field: what each update leaves alone and what it sets. -/

namespace Sys2Proof.Machine

variable (s : State)

/-! ### Components -/

@[simp] theorem onComp_now (f : Comp → Comp) : (s.onComp f).now = s.now := rfl
@[simp] theorem onComp_tbStart (f : Comp → Comp) : (s.onComp f).tbStart = s.tbStart := rfl
@[simp] theorem onComp_free (f : Comp → Comp) : (s.onComp f).free = s.free := rfl
@[simp] theorem onComp_regs (f : Comp → Comp) : (s.onComp f).regs = s.regs := rfl
@[simp] theorem onComp_mem (f : Comp → Comp) : (s.onComp f).mem = s.mem := rfl
@[simp] theorem onComp_ecc (f : Comp → Comp) : (s.onComp f).ecc = s.ecc := rfl
@[simp] theorem onComp_portA (f : Comp → Comp) : (s.onComp f).portA = s.portA := rfl
@[simp] theorem onComp_portB (f : Comp → Comp) : (s.onComp f).portB = s.portB := rfl
@[simp] theorem onComp_sems (f : Comp → Comp) : (s.onComp f).sems = s.sems := rfl
@[simp] theorem onComp_nextTie (f : Comp → Comp) : (s.onComp f).nextTie = s.nextTie := rfl
@[simp] theorem onComp_arbFree (f : Comp → Comp) : (s.onComp f).arbFree = s.arbFree := rfl
@[simp] theorem onComp_writing (f : Comp → Comp) : (s.onComp f).writing = s.writing := rfl
@[simp] theorem onComp_cyc (f : Comp → Comp) : (s.onComp f).cyc = s.cyc := rfl
@[simp] theorem onComp_linkA (f : Comp → Comp) : (s.onComp f).linkA = s.linkA := rfl
@[simp] theorem onComp_linkB (f : Comp → Comp) : (s.onComp f).linkB = s.linkB := rfl
@[simp] theorem onComp_comp (f : Comp → Comp) : (s.onComp f).comp = f s.comp := rfl
@[simp] theorem onComp_scan (f : Comp → Comp) : (s.onComp f).scan = s.scan := rfl
@[simp] theorem onComp_frecA (f : Comp → Comp) : (s.onComp f).frecA = s.frecA := rfl
@[simp] theorem onComp_frecB (f : Comp → Comp) : (s.onComp f).frecB = s.frecB := rfl
@[simp] theorem onComp_diag (f : Comp → Comp) : (s.onComp f).diag = s.diag := rfl
@[simp] theorem onComp_cal (f : Comp → Comp) : (s.onComp f).cal = s.cal := rfl
@[simp] theorem onComp_adc (f : Comp → Comp) : (s.onComp f).adc = s.adc := rfl
@[simp] theorem onComp_power (f : Comp → Comp) : (s.onComp f).power = s.power := rfl
@[simp] theorem onComp_guard (f : Comp → Comp) : (s.onComp f).guard = s.guard := rfl
@[simp] theorem onComp_faults (f : Comp → Comp) : (s.onComp f).faults = s.faults := rfl
@[simp] theorem onComp_boot (f : Comp → Comp) : (s.onComp f).boot = s.boot := rfl
@[simp] theorem onComp_scans (f : Comp → Comp) : (s.onComp f).scans = s.scans := rfl
@[simp] theorem onComp_sampler (f : Comp → Comp) : (s.onComp f).sampler = s.sampler := rfl
@[simp] theorem onComp_answer (f : Comp → Comp) : (s.onComp f).answer = s.answer := rfl
@[simp] theorem onComp_tap (f : Comp → Comp) : (s.onComp f).tap = s.tap := rfl
@[simp] theorem onComp_pending (f : Comp → Comp) : (s.onComp f).pending = s.pending := rfl

@[simp] theorem onScan_now (f : Scan → Scan) : (s.onScan f).now = s.now := rfl
@[simp] theorem onScan_tbStart (f : Scan → Scan) : (s.onScan f).tbStart = s.tbStart := rfl
@[simp] theorem onScan_free (f : Scan → Scan) : (s.onScan f).free = s.free := rfl
@[simp] theorem onScan_regs (f : Scan → Scan) : (s.onScan f).regs = s.regs := rfl
@[simp] theorem onScan_mem (f : Scan → Scan) : (s.onScan f).mem = s.mem := rfl
@[simp] theorem onScan_ecc (f : Scan → Scan) : (s.onScan f).ecc = s.ecc := rfl
@[simp] theorem onScan_portA (f : Scan → Scan) : (s.onScan f).portA = s.portA := rfl
@[simp] theorem onScan_portB (f : Scan → Scan) : (s.onScan f).portB = s.portB := rfl
@[simp] theorem onScan_sems (f : Scan → Scan) : (s.onScan f).sems = s.sems := rfl
@[simp] theorem onScan_nextTie (f : Scan → Scan) : (s.onScan f).nextTie = s.nextTie := rfl
@[simp] theorem onScan_arbFree (f : Scan → Scan) : (s.onScan f).arbFree = s.arbFree := rfl
@[simp] theorem onScan_writing (f : Scan → Scan) : (s.onScan f).writing = s.writing := rfl
@[simp] theorem onScan_cyc (f : Scan → Scan) : (s.onScan f).cyc = s.cyc := rfl
@[simp] theorem onScan_linkA (f : Scan → Scan) : (s.onScan f).linkA = s.linkA := rfl
@[simp] theorem onScan_linkB (f : Scan → Scan) : (s.onScan f).linkB = s.linkB := rfl
@[simp] theorem onScan_comp (f : Scan → Scan) : (s.onScan f).comp = s.comp := rfl
@[simp] theorem onScan_scan (f : Scan → Scan) : (s.onScan f).scan = f s.scan := rfl
@[simp] theorem onScan_frecA (f : Scan → Scan) : (s.onScan f).frecA = s.frecA := rfl
@[simp] theorem onScan_frecB (f : Scan → Scan) : (s.onScan f).frecB = s.frecB := rfl
@[simp] theorem onScan_diag (f : Scan → Scan) : (s.onScan f).diag = s.diag := rfl
@[simp] theorem onScan_cal (f : Scan → Scan) : (s.onScan f).cal = s.cal := rfl
@[simp] theorem onScan_adc (f : Scan → Scan) : (s.onScan f).adc = s.adc := rfl
@[simp] theorem onScan_power (f : Scan → Scan) : (s.onScan f).power = s.power := rfl
@[simp] theorem onScan_guard (f : Scan → Scan) : (s.onScan f).guard = s.guard := rfl
@[simp] theorem onScan_faults (f : Scan → Scan) : (s.onScan f).faults = s.faults := rfl
@[simp] theorem onScan_boot (f : Scan → Scan) : (s.onScan f).boot = s.boot := rfl
@[simp] theorem onScan_scans (f : Scan → Scan) : (s.onScan f).scans = s.scans := rfl
@[simp] theorem onScan_sampler (f : Scan → Scan) : (s.onScan f).sampler = s.sampler := rfl
@[simp] theorem onScan_answer (f : Scan → Scan) : (s.onScan f).answer = s.answer := rfl
@[simp] theorem onScan_tap (f : Scan → Scan) : (s.onScan f).tap = s.tap := rfl
@[simp] theorem onScan_pending (f : Scan → Scan) : (s.onScan f).pending = s.pending := rfl

@[simp] theorem onDiag_now (f : Diag → Diag) : (s.onDiag f).now = s.now := rfl
@[simp] theorem onDiag_tbStart (f : Diag → Diag) : (s.onDiag f).tbStart = s.tbStart := rfl
@[simp] theorem onDiag_free (f : Diag → Diag) : (s.onDiag f).free = s.free := rfl
@[simp] theorem onDiag_regs (f : Diag → Diag) : (s.onDiag f).regs = s.regs := rfl
@[simp] theorem onDiag_mem (f : Diag → Diag) : (s.onDiag f).mem = s.mem := rfl
@[simp] theorem onDiag_ecc (f : Diag → Diag) : (s.onDiag f).ecc = s.ecc := rfl
@[simp] theorem onDiag_portA (f : Diag → Diag) : (s.onDiag f).portA = s.portA := rfl
@[simp] theorem onDiag_portB (f : Diag → Diag) : (s.onDiag f).portB = s.portB := rfl
@[simp] theorem onDiag_sems (f : Diag → Diag) : (s.onDiag f).sems = s.sems := rfl
@[simp] theorem onDiag_nextTie (f : Diag → Diag) : (s.onDiag f).nextTie = s.nextTie := rfl
@[simp] theorem onDiag_arbFree (f : Diag → Diag) : (s.onDiag f).arbFree = s.arbFree := rfl
@[simp] theorem onDiag_writing (f : Diag → Diag) : (s.onDiag f).writing = s.writing := rfl
@[simp] theorem onDiag_cyc (f : Diag → Diag) : (s.onDiag f).cyc = s.cyc := rfl
@[simp] theorem onDiag_linkA (f : Diag → Diag) : (s.onDiag f).linkA = s.linkA := rfl
@[simp] theorem onDiag_linkB (f : Diag → Diag) : (s.onDiag f).linkB = s.linkB := rfl
@[simp] theorem onDiag_comp (f : Diag → Diag) : (s.onDiag f).comp = s.comp := rfl
@[simp] theorem onDiag_scan (f : Diag → Diag) : (s.onDiag f).scan = s.scan := rfl
@[simp] theorem onDiag_frecA (f : Diag → Diag) : (s.onDiag f).frecA = s.frecA := rfl
@[simp] theorem onDiag_frecB (f : Diag → Diag) : (s.onDiag f).frecB = s.frecB := rfl
@[simp] theorem onDiag_diag (f : Diag → Diag) : (s.onDiag f).diag = f s.diag := rfl
@[simp] theorem onDiag_cal (f : Diag → Diag) : (s.onDiag f).cal = s.cal := rfl
@[simp] theorem onDiag_adc (f : Diag → Diag) : (s.onDiag f).adc = s.adc := rfl
@[simp] theorem onDiag_power (f : Diag → Diag) : (s.onDiag f).power = s.power := rfl
@[simp] theorem onDiag_guard (f : Diag → Diag) : (s.onDiag f).guard = s.guard := rfl
@[simp] theorem onDiag_faults (f : Diag → Diag) : (s.onDiag f).faults = s.faults := rfl
@[simp] theorem onDiag_boot (f : Diag → Diag) : (s.onDiag f).boot = s.boot := rfl
@[simp] theorem onDiag_scans (f : Diag → Diag) : (s.onDiag f).scans = s.scans := rfl
@[simp] theorem onDiag_sampler (f : Diag → Diag) : (s.onDiag f).sampler = s.sampler := rfl
@[simp] theorem onDiag_answer (f : Diag → Diag) : (s.onDiag f).answer = s.answer := rfl
@[simp] theorem onDiag_tap (f : Diag → Diag) : (s.onDiag f).tap = s.tap := rfl
@[simp] theorem onDiag_pending (f : Diag → Diag) : (s.onDiag f).pending = s.pending := rfl

@[simp] theorem onCal_now (f : Cal → Cal) : (s.onCal f).now = s.now := rfl
@[simp] theorem onCal_tbStart (f : Cal → Cal) : (s.onCal f).tbStart = s.tbStart := rfl
@[simp] theorem onCal_free (f : Cal → Cal) : (s.onCal f).free = s.free := rfl
@[simp] theorem onCal_regs (f : Cal → Cal) : (s.onCal f).regs = s.regs := rfl
@[simp] theorem onCal_mem (f : Cal → Cal) : (s.onCal f).mem = s.mem := rfl
@[simp] theorem onCal_ecc (f : Cal → Cal) : (s.onCal f).ecc = s.ecc := rfl
@[simp] theorem onCal_portA (f : Cal → Cal) : (s.onCal f).portA = s.portA := rfl
@[simp] theorem onCal_portB (f : Cal → Cal) : (s.onCal f).portB = s.portB := rfl
@[simp] theorem onCal_sems (f : Cal → Cal) : (s.onCal f).sems = s.sems := rfl
@[simp] theorem onCal_nextTie (f : Cal → Cal) : (s.onCal f).nextTie = s.nextTie := rfl
@[simp] theorem onCal_arbFree (f : Cal → Cal) : (s.onCal f).arbFree = s.arbFree := rfl
@[simp] theorem onCal_writing (f : Cal → Cal) : (s.onCal f).writing = s.writing := rfl
@[simp] theorem onCal_cyc (f : Cal → Cal) : (s.onCal f).cyc = s.cyc := rfl
@[simp] theorem onCal_linkA (f : Cal → Cal) : (s.onCal f).linkA = s.linkA := rfl
@[simp] theorem onCal_linkB (f : Cal → Cal) : (s.onCal f).linkB = s.linkB := rfl
@[simp] theorem onCal_comp (f : Cal → Cal) : (s.onCal f).comp = s.comp := rfl
@[simp] theorem onCal_scan (f : Cal → Cal) : (s.onCal f).scan = s.scan := rfl
@[simp] theorem onCal_frecA (f : Cal → Cal) : (s.onCal f).frecA = s.frecA := rfl
@[simp] theorem onCal_frecB (f : Cal → Cal) : (s.onCal f).frecB = s.frecB := rfl
@[simp] theorem onCal_diag (f : Cal → Cal) : (s.onCal f).diag = s.diag := rfl
@[simp] theorem onCal_cal (f : Cal → Cal) : (s.onCal f).cal = f s.cal := rfl
@[simp] theorem onCal_adc (f : Cal → Cal) : (s.onCal f).adc = s.adc := rfl
@[simp] theorem onCal_power (f : Cal → Cal) : (s.onCal f).power = s.power := rfl
@[simp] theorem onCal_guard (f : Cal → Cal) : (s.onCal f).guard = s.guard := rfl
@[simp] theorem onCal_faults (f : Cal → Cal) : (s.onCal f).faults = s.faults := rfl
@[simp] theorem onCal_boot (f : Cal → Cal) : (s.onCal f).boot = s.boot := rfl
@[simp] theorem onCal_scans (f : Cal → Cal) : (s.onCal f).scans = s.scans := rfl
@[simp] theorem onCal_sampler (f : Cal → Cal) : (s.onCal f).sampler = s.sampler := rfl
@[simp] theorem onCal_answer (f : Cal → Cal) : (s.onCal f).answer = s.answer := rfl
@[simp] theorem onCal_tap (f : Cal → Cal) : (s.onCal f).tap = s.tap := rfl
@[simp] theorem onCal_pending (f : Cal → Cal) : (s.onCal f).pending = s.pending := rfl

@[simp] theorem onAdc_now (f : Adc → Adc) : (s.onAdc f).now = s.now := rfl
@[simp] theorem onAdc_tbStart (f : Adc → Adc) : (s.onAdc f).tbStart = s.tbStart := rfl
@[simp] theorem onAdc_free (f : Adc → Adc) : (s.onAdc f).free = s.free := rfl
@[simp] theorem onAdc_regs (f : Adc → Adc) : (s.onAdc f).regs = s.regs := rfl
@[simp] theorem onAdc_mem (f : Adc → Adc) : (s.onAdc f).mem = s.mem := rfl
@[simp] theorem onAdc_ecc (f : Adc → Adc) : (s.onAdc f).ecc = s.ecc := rfl
@[simp] theorem onAdc_portA (f : Adc → Adc) : (s.onAdc f).portA = s.portA := rfl
@[simp] theorem onAdc_portB (f : Adc → Adc) : (s.onAdc f).portB = s.portB := rfl
@[simp] theorem onAdc_sems (f : Adc → Adc) : (s.onAdc f).sems = s.sems := rfl
@[simp] theorem onAdc_nextTie (f : Adc → Adc) : (s.onAdc f).nextTie = s.nextTie := rfl
@[simp] theorem onAdc_arbFree (f : Adc → Adc) : (s.onAdc f).arbFree = s.arbFree := rfl
@[simp] theorem onAdc_writing (f : Adc → Adc) : (s.onAdc f).writing = s.writing := rfl
@[simp] theorem onAdc_cyc (f : Adc → Adc) : (s.onAdc f).cyc = s.cyc := rfl
@[simp] theorem onAdc_linkA (f : Adc → Adc) : (s.onAdc f).linkA = s.linkA := rfl
@[simp] theorem onAdc_linkB (f : Adc → Adc) : (s.onAdc f).linkB = s.linkB := rfl
@[simp] theorem onAdc_comp (f : Adc → Adc) : (s.onAdc f).comp = s.comp := rfl
@[simp] theorem onAdc_scan (f : Adc → Adc) : (s.onAdc f).scan = s.scan := rfl
@[simp] theorem onAdc_frecA (f : Adc → Adc) : (s.onAdc f).frecA = s.frecA := rfl
@[simp] theorem onAdc_frecB (f : Adc → Adc) : (s.onAdc f).frecB = s.frecB := rfl
@[simp] theorem onAdc_diag (f : Adc → Adc) : (s.onAdc f).diag = s.diag := rfl
@[simp] theorem onAdc_cal (f : Adc → Adc) : (s.onAdc f).cal = s.cal := rfl
@[simp] theorem onAdc_adc (f : Adc → Adc) : (s.onAdc f).adc = f s.adc := rfl
@[simp] theorem onAdc_power (f : Adc → Adc) : (s.onAdc f).power = s.power := rfl
@[simp] theorem onAdc_guard (f : Adc → Adc) : (s.onAdc f).guard = s.guard := rfl
@[simp] theorem onAdc_faults (f : Adc → Adc) : (s.onAdc f).faults = s.faults := rfl
@[simp] theorem onAdc_boot (f : Adc → Adc) : (s.onAdc f).boot = s.boot := rfl
@[simp] theorem onAdc_scans (f : Adc → Adc) : (s.onAdc f).scans = s.scans := rfl
@[simp] theorem onAdc_sampler (f : Adc → Adc) : (s.onAdc f).sampler = s.sampler := rfl
@[simp] theorem onAdc_answer (f : Adc → Adc) : (s.onAdc f).answer = s.answer := rfl
@[simp] theorem onAdc_tap (f : Adc → Adc) : (s.onAdc f).tap = s.tap := rfl
@[simp] theorem onAdc_pending (f : Adc → Adc) : (s.onAdc f).pending = s.pending := rfl

@[simp] theorem onPower_now (f : Power → Power) : (s.onPower f).now = s.now := rfl
@[simp] theorem onPower_tbStart (f : Power → Power) : (s.onPower f).tbStart = s.tbStart := rfl
@[simp] theorem onPower_free (f : Power → Power) : (s.onPower f).free = s.free := rfl
@[simp] theorem onPower_regs (f : Power → Power) : (s.onPower f).regs = s.regs := rfl
@[simp] theorem onPower_mem (f : Power → Power) : (s.onPower f).mem = s.mem := rfl
@[simp] theorem onPower_ecc (f : Power → Power) : (s.onPower f).ecc = s.ecc := rfl
@[simp] theorem onPower_portA (f : Power → Power) : (s.onPower f).portA = s.portA := rfl
@[simp] theorem onPower_portB (f : Power → Power) : (s.onPower f).portB = s.portB := rfl
@[simp] theorem onPower_sems (f : Power → Power) : (s.onPower f).sems = s.sems := rfl
@[simp] theorem onPower_nextTie (f : Power → Power) : (s.onPower f).nextTie = s.nextTie := rfl
@[simp] theorem onPower_arbFree (f : Power → Power) : (s.onPower f).arbFree = s.arbFree := rfl
@[simp] theorem onPower_writing (f : Power → Power) : (s.onPower f).writing = s.writing := rfl
@[simp] theorem onPower_cyc (f : Power → Power) : (s.onPower f).cyc = s.cyc := rfl
@[simp] theorem onPower_linkA (f : Power → Power) : (s.onPower f).linkA = s.linkA := rfl
@[simp] theorem onPower_linkB (f : Power → Power) : (s.onPower f).linkB = s.linkB := rfl
@[simp] theorem onPower_comp (f : Power → Power) : (s.onPower f).comp = s.comp := rfl
@[simp] theorem onPower_scan (f : Power → Power) : (s.onPower f).scan = s.scan := rfl
@[simp] theorem onPower_frecA (f : Power → Power) : (s.onPower f).frecA = s.frecA := rfl
@[simp] theorem onPower_frecB (f : Power → Power) : (s.onPower f).frecB = s.frecB := rfl
@[simp] theorem onPower_diag (f : Power → Power) : (s.onPower f).diag = s.diag := rfl
@[simp] theorem onPower_cal (f : Power → Power) : (s.onPower f).cal = s.cal := rfl
@[simp] theorem onPower_adc (f : Power → Power) : (s.onPower f).adc = s.adc := rfl
@[simp] theorem onPower_power (f : Power → Power) : (s.onPower f).power = f s.power := rfl
@[simp] theorem onPower_guard (f : Power → Power) : (s.onPower f).guard = s.guard := rfl
@[simp] theorem onPower_faults (f : Power → Power) : (s.onPower f).faults = s.faults := rfl
@[simp] theorem onPower_boot (f : Power → Power) : (s.onPower f).boot = s.boot := rfl
@[simp] theorem onPower_scans (f : Power → Power) : (s.onPower f).scans = s.scans := rfl
@[simp] theorem onPower_sampler (f : Power → Power) : (s.onPower f).sampler = s.sampler := rfl
@[simp] theorem onPower_answer (f : Power → Power) : (s.onPower f).answer = s.answer := rfl
@[simp] theorem onPower_tap (f : Power → Power) : (s.onPower f).tap = s.tap := rfl
@[simp] theorem onPower_pending (f : Power → Power) : (s.onPower f).pending = s.pending := rfl

@[simp] theorem onGuard_now (f : Guard → Guard) : (s.onGuard f).now = s.now := rfl
@[simp] theorem onGuard_tbStart (f : Guard → Guard) : (s.onGuard f).tbStart = s.tbStart := rfl
@[simp] theorem onGuard_free (f : Guard → Guard) : (s.onGuard f).free = s.free := rfl
@[simp] theorem onGuard_regs (f : Guard → Guard) : (s.onGuard f).regs = s.regs := rfl
@[simp] theorem onGuard_mem (f : Guard → Guard) : (s.onGuard f).mem = s.mem := rfl
@[simp] theorem onGuard_ecc (f : Guard → Guard) : (s.onGuard f).ecc = s.ecc := rfl
@[simp] theorem onGuard_portA (f : Guard → Guard) : (s.onGuard f).portA = s.portA := rfl
@[simp] theorem onGuard_portB (f : Guard → Guard) : (s.onGuard f).portB = s.portB := rfl
@[simp] theorem onGuard_sems (f : Guard → Guard) : (s.onGuard f).sems = s.sems := rfl
@[simp] theorem onGuard_nextTie (f : Guard → Guard) : (s.onGuard f).nextTie = s.nextTie := rfl
@[simp] theorem onGuard_arbFree (f : Guard → Guard) : (s.onGuard f).arbFree = s.arbFree := rfl
@[simp] theorem onGuard_writing (f : Guard → Guard) : (s.onGuard f).writing = s.writing := rfl
@[simp] theorem onGuard_cyc (f : Guard → Guard) : (s.onGuard f).cyc = s.cyc := rfl
@[simp] theorem onGuard_linkA (f : Guard → Guard) : (s.onGuard f).linkA = s.linkA := rfl
@[simp] theorem onGuard_linkB (f : Guard → Guard) : (s.onGuard f).linkB = s.linkB := rfl
@[simp] theorem onGuard_comp (f : Guard → Guard) : (s.onGuard f).comp = s.comp := rfl
@[simp] theorem onGuard_scan (f : Guard → Guard) : (s.onGuard f).scan = s.scan := rfl
@[simp] theorem onGuard_frecA (f : Guard → Guard) : (s.onGuard f).frecA = s.frecA := rfl
@[simp] theorem onGuard_frecB (f : Guard → Guard) : (s.onGuard f).frecB = s.frecB := rfl
@[simp] theorem onGuard_diag (f : Guard → Guard) : (s.onGuard f).diag = s.diag := rfl
@[simp] theorem onGuard_cal (f : Guard → Guard) : (s.onGuard f).cal = s.cal := rfl
@[simp] theorem onGuard_adc (f : Guard → Guard) : (s.onGuard f).adc = s.adc := rfl
@[simp] theorem onGuard_power (f : Guard → Guard) : (s.onGuard f).power = s.power := rfl
@[simp] theorem onGuard_guard (f : Guard → Guard) : (s.onGuard f).guard = f s.guard := rfl
@[simp] theorem onGuard_faults (f : Guard → Guard) : (s.onGuard f).faults = s.faults := rfl
@[simp] theorem onGuard_boot (f : Guard → Guard) : (s.onGuard f).boot = s.boot := rfl
@[simp] theorem onGuard_scans (f : Guard → Guard) : (s.onGuard f).scans = s.scans := rfl
@[simp] theorem onGuard_sampler (f : Guard → Guard) : (s.onGuard f).sampler = s.sampler := rfl
@[simp] theorem onGuard_answer (f : Guard → Guard) : (s.onGuard f).answer = s.answer := rfl
@[simp] theorem onGuard_tap (f : Guard → Guard) : (s.onGuard f).tap = s.tap := rfl
@[simp] theorem onGuard_pending (f : Guard → Guard) : (s.onGuard f).pending = s.pending := rfl

@[simp] theorem onFaults_now (f : Faults → Faults) : (s.onFaults f).now = s.now := rfl
@[simp] theorem onFaults_tbStart (f : Faults → Faults) : (s.onFaults f).tbStart = s.tbStart := rfl
@[simp] theorem onFaults_free (f : Faults → Faults) : (s.onFaults f).free = s.free := rfl
@[simp] theorem onFaults_regs (f : Faults → Faults) : (s.onFaults f).regs = s.regs := rfl
@[simp] theorem onFaults_mem (f : Faults → Faults) : (s.onFaults f).mem = s.mem := rfl
@[simp] theorem onFaults_ecc (f : Faults → Faults) : (s.onFaults f).ecc = s.ecc := rfl
@[simp] theorem onFaults_portA (f : Faults → Faults) : (s.onFaults f).portA = s.portA := rfl
@[simp] theorem onFaults_portB (f : Faults → Faults) : (s.onFaults f).portB = s.portB := rfl
@[simp] theorem onFaults_sems (f : Faults → Faults) : (s.onFaults f).sems = s.sems := rfl
@[simp] theorem onFaults_nextTie (f : Faults → Faults) : (s.onFaults f).nextTie = s.nextTie := rfl
@[simp] theorem onFaults_arbFree (f : Faults → Faults) : (s.onFaults f).arbFree = s.arbFree := rfl
@[simp] theorem onFaults_writing (f : Faults → Faults) : (s.onFaults f).writing = s.writing := rfl
@[simp] theorem onFaults_cyc (f : Faults → Faults) : (s.onFaults f).cyc = s.cyc := rfl
@[simp] theorem onFaults_linkA (f : Faults → Faults) : (s.onFaults f).linkA = s.linkA := rfl
@[simp] theorem onFaults_linkB (f : Faults → Faults) : (s.onFaults f).linkB = s.linkB := rfl
@[simp] theorem onFaults_comp (f : Faults → Faults) : (s.onFaults f).comp = s.comp := rfl
@[simp] theorem onFaults_scan (f : Faults → Faults) : (s.onFaults f).scan = s.scan := rfl
@[simp] theorem onFaults_frecA (f : Faults → Faults) : (s.onFaults f).frecA = s.frecA := rfl
@[simp] theorem onFaults_frecB (f : Faults → Faults) : (s.onFaults f).frecB = s.frecB := rfl
@[simp] theorem onFaults_diag (f : Faults → Faults) : (s.onFaults f).diag = s.diag := rfl
@[simp] theorem onFaults_cal (f : Faults → Faults) : (s.onFaults f).cal = s.cal := rfl
@[simp] theorem onFaults_adc (f : Faults → Faults) : (s.onFaults f).adc = s.adc := rfl
@[simp] theorem onFaults_power (f : Faults → Faults) : (s.onFaults f).power = s.power := rfl
@[simp] theorem onFaults_guard (f : Faults → Faults) : (s.onFaults f).guard = s.guard := rfl
@[simp] theorem onFaults_faults (f : Faults → Faults) : (s.onFaults f).faults = f s.faults := rfl
@[simp] theorem onFaults_boot (f : Faults → Faults) : (s.onFaults f).boot = s.boot := rfl
@[simp] theorem onFaults_scans (f : Faults → Faults) : (s.onFaults f).scans = s.scans := rfl
@[simp] theorem onFaults_sampler (f : Faults → Faults) : (s.onFaults f).sampler = s.sampler := rfl
@[simp] theorem onFaults_answer (f : Faults → Faults) : (s.onFaults f).answer = s.answer := rfl
@[simp] theorem onFaults_tap (f : Faults → Faults) : (s.onFaults f).tap = s.tap := rfl
@[simp] theorem onFaults_pending (f : Faults → Faults) : (s.onFaults f).pending = s.pending := rfl

@[simp] theorem onBoot_now (f : Boot → Boot) : (s.onBoot f).now = s.now := rfl
@[simp] theorem onBoot_tbStart (f : Boot → Boot) : (s.onBoot f).tbStart = s.tbStart := rfl
@[simp] theorem onBoot_free (f : Boot → Boot) : (s.onBoot f).free = s.free := rfl
@[simp] theorem onBoot_regs (f : Boot → Boot) : (s.onBoot f).regs = s.regs := rfl
@[simp] theorem onBoot_mem (f : Boot → Boot) : (s.onBoot f).mem = s.mem := rfl
@[simp] theorem onBoot_ecc (f : Boot → Boot) : (s.onBoot f).ecc = s.ecc := rfl
@[simp] theorem onBoot_portA (f : Boot → Boot) : (s.onBoot f).portA = s.portA := rfl
@[simp] theorem onBoot_portB (f : Boot → Boot) : (s.onBoot f).portB = s.portB := rfl
@[simp] theorem onBoot_sems (f : Boot → Boot) : (s.onBoot f).sems = s.sems := rfl
@[simp] theorem onBoot_nextTie (f : Boot → Boot) : (s.onBoot f).nextTie = s.nextTie := rfl
@[simp] theorem onBoot_arbFree (f : Boot → Boot) : (s.onBoot f).arbFree = s.arbFree := rfl
@[simp] theorem onBoot_writing (f : Boot → Boot) : (s.onBoot f).writing = s.writing := rfl
@[simp] theorem onBoot_cyc (f : Boot → Boot) : (s.onBoot f).cyc = s.cyc := rfl
@[simp] theorem onBoot_linkA (f : Boot → Boot) : (s.onBoot f).linkA = s.linkA := rfl
@[simp] theorem onBoot_linkB (f : Boot → Boot) : (s.onBoot f).linkB = s.linkB := rfl
@[simp] theorem onBoot_comp (f : Boot → Boot) : (s.onBoot f).comp = s.comp := rfl
@[simp] theorem onBoot_scan (f : Boot → Boot) : (s.onBoot f).scan = s.scan := rfl
@[simp] theorem onBoot_frecA (f : Boot → Boot) : (s.onBoot f).frecA = s.frecA := rfl
@[simp] theorem onBoot_frecB (f : Boot → Boot) : (s.onBoot f).frecB = s.frecB := rfl
@[simp] theorem onBoot_diag (f : Boot → Boot) : (s.onBoot f).diag = s.diag := rfl
@[simp] theorem onBoot_cal (f : Boot → Boot) : (s.onBoot f).cal = s.cal := rfl
@[simp] theorem onBoot_adc (f : Boot → Boot) : (s.onBoot f).adc = s.adc := rfl
@[simp] theorem onBoot_power (f : Boot → Boot) : (s.onBoot f).power = s.power := rfl
@[simp] theorem onBoot_guard (f : Boot → Boot) : (s.onBoot f).guard = s.guard := rfl
@[simp] theorem onBoot_faults (f : Boot → Boot) : (s.onBoot f).faults = s.faults := rfl
@[simp] theorem onBoot_boot (f : Boot → Boot) : (s.onBoot f).boot = f s.boot := rfl
@[simp] theorem onBoot_scans (f : Boot → Boot) : (s.onBoot f).scans = s.scans := rfl
@[simp] theorem onBoot_sampler (f : Boot → Boot) : (s.onBoot f).sampler = s.sampler := rfl
@[simp] theorem onBoot_answer (f : Boot → Boot) : (s.onBoot f).answer = s.answer := rfl
@[simp] theorem onBoot_tap (f : Boot → Boot) : (s.onBoot f).tap = s.tap := rfl
@[simp] theorem onBoot_pending (f : Boot → Boot) : (s.onBoot f).pending = s.pending := rfl

/-! ### Ports and links -/

@[simp] theorem onPort_now (p : Port) (f : PortState → PortState) : (s.onPort p f).now = s.now := by cases p <;> rfl
@[simp] theorem onPort_tbStart (p : Port) (f : PortState → PortState) : (s.onPort p f).tbStart = s.tbStart := by cases p <;> rfl
@[simp] theorem onPort_free (p : Port) (f : PortState → PortState) : (s.onPort p f).free = s.free := by cases p <;> rfl
@[simp] theorem onPort_regs (p : Port) (f : PortState → PortState) : (s.onPort p f).regs = s.regs := by cases p <;> rfl
@[simp] theorem onPort_mem (p : Port) (f : PortState → PortState) : (s.onPort p f).mem = s.mem := by cases p <;> rfl
@[simp] theorem onPort_ecc (p : Port) (f : PortState → PortState) : (s.onPort p f).ecc = s.ecc := by cases p <;> rfl
@[simp] theorem onPort_sems (p : Port) (f : PortState → PortState) : (s.onPort p f).sems = s.sems := by cases p <;> rfl
@[simp] theorem onPort_nextTie (p : Port) (f : PortState → PortState) : (s.onPort p f).nextTie = s.nextTie := by cases p <;> rfl
@[simp] theorem onPort_arbFree (p : Port) (f : PortState → PortState) : (s.onPort p f).arbFree = s.arbFree := by cases p <;> rfl
@[simp] theorem onPort_writing (p : Port) (f : PortState → PortState) : (s.onPort p f).writing = s.writing := by cases p <;> rfl
@[simp] theorem onPort_cyc (p : Port) (f : PortState → PortState) : (s.onPort p f).cyc = s.cyc := by cases p <;> rfl
@[simp] theorem onPort_linkA (p : Port) (f : PortState → PortState) : (s.onPort p f).linkA = s.linkA := by cases p <;> rfl
@[simp] theorem onPort_linkB (p : Port) (f : PortState → PortState) : (s.onPort p f).linkB = s.linkB := by cases p <;> rfl
@[simp] theorem onPort_comp (p : Port) (f : PortState → PortState) : (s.onPort p f).comp = s.comp := by cases p <;> rfl
@[simp] theorem onPort_scan (p : Port) (f : PortState → PortState) : (s.onPort p f).scan = s.scan := by cases p <;> rfl
@[simp] theorem onPort_frecA (p : Port) (f : PortState → PortState) : (s.onPort p f).frecA = s.frecA := by cases p <;> rfl
@[simp] theorem onPort_frecB (p : Port) (f : PortState → PortState) : (s.onPort p f).frecB = s.frecB := by cases p <;> rfl
@[simp] theorem onPort_diag (p : Port) (f : PortState → PortState) : (s.onPort p f).diag = s.diag := by cases p <;> rfl
@[simp] theorem onPort_cal (p : Port) (f : PortState → PortState) : (s.onPort p f).cal = s.cal := by cases p <;> rfl
@[simp] theorem onPort_adc (p : Port) (f : PortState → PortState) : (s.onPort p f).adc = s.adc := by cases p <;> rfl
@[simp] theorem onPort_power (p : Port) (f : PortState → PortState) : (s.onPort p f).power = s.power := by cases p <;> rfl
@[simp] theorem onPort_guard (p : Port) (f : PortState → PortState) : (s.onPort p f).guard = s.guard := by cases p <;> rfl
@[simp] theorem onPort_faults (p : Port) (f : PortState → PortState) : (s.onPort p f).faults = s.faults := by cases p <;> rfl
@[simp] theorem onPort_boot (p : Port) (f : PortState → PortState) : (s.onPort p f).boot = s.boot := by cases p <;> rfl
@[simp] theorem onPort_scans (p : Port) (f : PortState → PortState) : (s.onPort p f).scans = s.scans := by cases p <;> rfl
@[simp] theorem onPort_sampler (p : Port) (f : PortState → PortState) : (s.onPort p f).sampler = s.sampler := by cases p <;> rfl
@[simp] theorem onPort_answer (p : Port) (f : PortState → PortState) : (s.onPort p f).answer = s.answer := by cases p <;> rfl
@[simp] theorem onPort_tap (p : Port) (f : PortState → PortState) : (s.onPort p f).tap = s.tap := by cases p <;> rfl
@[simp] theorem onPort_pending (p : Port) (f : PortState → PortState) : (s.onPort p f).pending = s.pending := by cases p <;> rfl
@[simp] theorem onPort_port_same (p : Port) (f : PortState → PortState) : (s.onPort p f).port p = f (s.port p) := by cases p <;> rfl
theorem onPort_port_other {p q : Port} (h : q ≠ p) (f : PortState → PortState) : (s.onPort p f).port q = s.port q := by
  cases p <;> cases q <;> first | rfl | exact absurd rfl h

@[simp] theorem onLink_now (p : Port) (f : Link → Link) : (s.onLink p f).now = s.now := by cases p <;> rfl
@[simp] theorem onLink_tbStart (p : Port) (f : Link → Link) : (s.onLink p f).tbStart = s.tbStart := by cases p <;> rfl
@[simp] theorem onLink_free (p : Port) (f : Link → Link) : (s.onLink p f).free = s.free := by cases p <;> rfl
@[simp] theorem onLink_regs (p : Port) (f : Link → Link) : (s.onLink p f).regs = s.regs := by cases p <;> rfl
@[simp] theorem onLink_mem (p : Port) (f : Link → Link) : (s.onLink p f).mem = s.mem := by cases p <;> rfl
@[simp] theorem onLink_ecc (p : Port) (f : Link → Link) : (s.onLink p f).ecc = s.ecc := by cases p <;> rfl
@[simp] theorem onLink_portA (p : Port) (f : Link → Link) : (s.onLink p f).portA = s.portA := by cases p <;> rfl
@[simp] theorem onLink_portB (p : Port) (f : Link → Link) : (s.onLink p f).portB = s.portB := by cases p <;> rfl
@[simp] theorem onLink_sems (p : Port) (f : Link → Link) : (s.onLink p f).sems = s.sems := by cases p <;> rfl
@[simp] theorem onLink_nextTie (p : Port) (f : Link → Link) : (s.onLink p f).nextTie = s.nextTie := by cases p <;> rfl
@[simp] theorem onLink_arbFree (p : Port) (f : Link → Link) : (s.onLink p f).arbFree = s.arbFree := by cases p <;> rfl
@[simp] theorem onLink_writing (p : Port) (f : Link → Link) : (s.onLink p f).writing = s.writing := by cases p <;> rfl
@[simp] theorem onLink_cyc (p : Port) (f : Link → Link) : (s.onLink p f).cyc = s.cyc := by cases p <;> rfl
@[simp] theorem onLink_comp (p : Port) (f : Link → Link) : (s.onLink p f).comp = s.comp := by cases p <;> rfl
@[simp] theorem onLink_scan (p : Port) (f : Link → Link) : (s.onLink p f).scan = s.scan := by cases p <;> rfl
@[simp] theorem onLink_frecA (p : Port) (f : Link → Link) : (s.onLink p f).frecA = s.frecA := by cases p <;> rfl
@[simp] theorem onLink_frecB (p : Port) (f : Link → Link) : (s.onLink p f).frecB = s.frecB := by cases p <;> rfl
@[simp] theorem onLink_diag (p : Port) (f : Link → Link) : (s.onLink p f).diag = s.diag := by cases p <;> rfl
@[simp] theorem onLink_cal (p : Port) (f : Link → Link) : (s.onLink p f).cal = s.cal := by cases p <;> rfl
@[simp] theorem onLink_adc (p : Port) (f : Link → Link) : (s.onLink p f).adc = s.adc := by cases p <;> rfl
@[simp] theorem onLink_power (p : Port) (f : Link → Link) : (s.onLink p f).power = s.power := by cases p <;> rfl
@[simp] theorem onLink_guard (p : Port) (f : Link → Link) : (s.onLink p f).guard = s.guard := by cases p <;> rfl
@[simp] theorem onLink_faults (p : Port) (f : Link → Link) : (s.onLink p f).faults = s.faults := by cases p <;> rfl
@[simp] theorem onLink_boot (p : Port) (f : Link → Link) : (s.onLink p f).boot = s.boot := by cases p <;> rfl
@[simp] theorem onLink_scans (p : Port) (f : Link → Link) : (s.onLink p f).scans = s.scans := by cases p <;> rfl
@[simp] theorem onLink_sampler (p : Port) (f : Link → Link) : (s.onLink p f).sampler = s.sampler := by cases p <;> rfl
@[simp] theorem onLink_answer (p : Port) (f : Link → Link) : (s.onLink p f).answer = s.answer := by cases p <;> rfl
@[simp] theorem onLink_tap (p : Port) (f : Link → Link) : (s.onLink p f).tap = s.tap := by cases p <;> rfl
@[simp] theorem onLink_pending (p : Port) (f : Link → Link) : (s.onLink p f).pending = s.pending := by cases p <;> rfl
@[simp] theorem onLink_link_same (p : Port) (f : Link → Link) : (s.onLink p f).link p = f (s.link p) := by cases p <;> rfl
theorem onLink_link_other {p q : Port} (h : q ≠ p) (f : Link → Link) : (s.onLink p f).link q = s.link q := by
  cases p <;> cases q <;> first | rfl | exact absurd rfl h

/-! ### Registers -/

@[simp] theorem wrp_now (p : Port) (r : Reg) (v : Word) (k j : Nat) : (s.wrp p r v k j).now = s.now := rfl
@[simp] theorem wrp_tbStart (p : Port) (r : Reg) (v : Word) (k j : Nat) : (s.wrp p r v k j).tbStart = s.tbStart := rfl
@[simp] theorem wrp_free (p : Port) (r : Reg) (v : Word) (k j : Nat) : (s.wrp p r v k j).free = s.free := rfl
@[simp] theorem wrp_mem (p : Port) (r : Reg) (v : Word) (k j : Nat) : (s.wrp p r v k j).mem = s.mem := rfl
@[simp] theorem wrp_ecc (p : Port) (r : Reg) (v : Word) (k j : Nat) : (s.wrp p r v k j).ecc = s.ecc := rfl
@[simp] theorem wrp_portA (p : Port) (r : Reg) (v : Word) (k j : Nat) : (s.wrp p r v k j).portA = s.portA := rfl
@[simp] theorem wrp_portB (p : Port) (r : Reg) (v : Word) (k j : Nat) : (s.wrp p r v k j).portB = s.portB := rfl
@[simp] theorem wrp_sems (p : Port) (r : Reg) (v : Word) (k j : Nat) : (s.wrp p r v k j).sems = s.sems := rfl
@[simp] theorem wrp_nextTie (p : Port) (r : Reg) (v : Word) (k j : Nat) : (s.wrp p r v k j).nextTie = s.nextTie := rfl
@[simp] theorem wrp_arbFree (p : Port) (r : Reg) (v : Word) (k j : Nat) : (s.wrp p r v k j).arbFree = s.arbFree := rfl
@[simp] theorem wrp_writing (p : Port) (r : Reg) (v : Word) (k j : Nat) : (s.wrp p r v k j).writing = s.writing := rfl
@[simp] theorem wrp_cyc (p : Port) (r : Reg) (v : Word) (k j : Nat) : (s.wrp p r v k j).cyc = s.cyc := rfl
@[simp] theorem wrp_linkA (p : Port) (r : Reg) (v : Word) (k j : Nat) : (s.wrp p r v k j).linkA = s.linkA := rfl
@[simp] theorem wrp_linkB (p : Port) (r : Reg) (v : Word) (k j : Nat) : (s.wrp p r v k j).linkB = s.linkB := rfl
@[simp] theorem wrp_comp (p : Port) (r : Reg) (v : Word) (k j : Nat) : (s.wrp p r v k j).comp = s.comp := rfl
@[simp] theorem wrp_scan (p : Port) (r : Reg) (v : Word) (k j : Nat) : (s.wrp p r v k j).scan = s.scan := rfl
@[simp] theorem wrp_frecA (p : Port) (r : Reg) (v : Word) (k j : Nat) : (s.wrp p r v k j).frecA = s.frecA := rfl
@[simp] theorem wrp_frecB (p : Port) (r : Reg) (v : Word) (k j : Nat) : (s.wrp p r v k j).frecB = s.frecB := rfl
@[simp] theorem wrp_diag (p : Port) (r : Reg) (v : Word) (k j : Nat) : (s.wrp p r v k j).diag = s.diag := rfl
@[simp] theorem wrp_cal (p : Port) (r : Reg) (v : Word) (k j : Nat) : (s.wrp p r v k j).cal = s.cal := rfl
@[simp] theorem wrp_adc (p : Port) (r : Reg) (v : Word) (k j : Nat) : (s.wrp p r v k j).adc = s.adc := rfl
@[simp] theorem wrp_power (p : Port) (r : Reg) (v : Word) (k j : Nat) : (s.wrp p r v k j).power = s.power := rfl
@[simp] theorem wrp_guard (p : Port) (r : Reg) (v : Word) (k j : Nat) : (s.wrp p r v k j).guard = s.guard := rfl
@[simp] theorem wrp_faults (p : Port) (r : Reg) (v : Word) (k j : Nat) : (s.wrp p r v k j).faults = s.faults := rfl
@[simp] theorem wrp_boot (p : Port) (r : Reg) (v : Word) (k j : Nat) : (s.wrp p r v k j).boot = s.boot := rfl
@[simp] theorem wrp_scans (p : Port) (r : Reg) (v : Word) (k j : Nat) : (s.wrp p r v k j).scans = s.scans := rfl
@[simp] theorem wrp_sampler (p : Port) (r : Reg) (v : Word) (k j : Nat) : (s.wrp p r v k j).sampler = s.sampler := rfl
@[simp] theorem wrp_answer (p : Port) (r : Reg) (v : Word) (k j : Nat) : (s.wrp p r v k j).answer = s.answer := rfl
@[simp] theorem wrp_tap (p : Port) (r : Reg) (v : Word) (k j : Nat) : (s.wrp p r v k j).tap = s.tap := rfl
@[simp] theorem wrp_pending (p : Port) (r : Reg) (v : Word) (k j : Nat) : (s.wrp p r v k j).pending = s.pending := rfl

@[simp] theorem wr_now (r : Reg) (v : Word) (k j : Nat) : (s.wr r v k j).now = s.now := rfl
@[simp] theorem wr_tbStart (r : Reg) (v : Word) (k j : Nat) : (s.wr r v k j).tbStart = s.tbStart := rfl
@[simp] theorem wr_free (r : Reg) (v : Word) (k j : Nat) : (s.wr r v k j).free = s.free := rfl
@[simp] theorem wr_mem (r : Reg) (v : Word) (k j : Nat) : (s.wr r v k j).mem = s.mem := rfl
@[simp] theorem wr_ecc (r : Reg) (v : Word) (k j : Nat) : (s.wr r v k j).ecc = s.ecc := rfl
@[simp] theorem wr_portA (r : Reg) (v : Word) (k j : Nat) : (s.wr r v k j).portA = s.portA := rfl
@[simp] theorem wr_portB (r : Reg) (v : Word) (k j : Nat) : (s.wr r v k j).portB = s.portB := rfl
@[simp] theorem wr_sems (r : Reg) (v : Word) (k j : Nat) : (s.wr r v k j).sems = s.sems := rfl
@[simp] theorem wr_nextTie (r : Reg) (v : Word) (k j : Nat) : (s.wr r v k j).nextTie = s.nextTie := rfl
@[simp] theorem wr_arbFree (r : Reg) (v : Word) (k j : Nat) : (s.wr r v k j).arbFree = s.arbFree := rfl
@[simp] theorem wr_writing (r : Reg) (v : Word) (k j : Nat) : (s.wr r v k j).writing = s.writing := rfl
@[simp] theorem wr_cyc (r : Reg) (v : Word) (k j : Nat) : (s.wr r v k j).cyc = s.cyc := rfl
@[simp] theorem wr_linkA (r : Reg) (v : Word) (k j : Nat) : (s.wr r v k j).linkA = s.linkA := rfl
@[simp] theorem wr_linkB (r : Reg) (v : Word) (k j : Nat) : (s.wr r v k j).linkB = s.linkB := rfl
@[simp] theorem wr_comp (r : Reg) (v : Word) (k j : Nat) : (s.wr r v k j).comp = s.comp := rfl
@[simp] theorem wr_scan (r : Reg) (v : Word) (k j : Nat) : (s.wr r v k j).scan = s.scan := rfl
@[simp] theorem wr_frecA (r : Reg) (v : Word) (k j : Nat) : (s.wr r v k j).frecA = s.frecA := rfl
@[simp] theorem wr_frecB (r : Reg) (v : Word) (k j : Nat) : (s.wr r v k j).frecB = s.frecB := rfl
@[simp] theorem wr_diag (r : Reg) (v : Word) (k j : Nat) : (s.wr r v k j).diag = s.diag := rfl
@[simp] theorem wr_cal (r : Reg) (v : Word) (k j : Nat) : (s.wr r v k j).cal = s.cal := rfl
@[simp] theorem wr_adc (r : Reg) (v : Word) (k j : Nat) : (s.wr r v k j).adc = s.adc := rfl
@[simp] theorem wr_power (r : Reg) (v : Word) (k j : Nat) : (s.wr r v k j).power = s.power := rfl
@[simp] theorem wr_guard (r : Reg) (v : Word) (k j : Nat) : (s.wr r v k j).guard = s.guard := rfl
@[simp] theorem wr_faults (r : Reg) (v : Word) (k j : Nat) : (s.wr r v k j).faults = s.faults := rfl
@[simp] theorem wr_boot (r : Reg) (v : Word) (k j : Nat) : (s.wr r v k j).boot = s.boot := rfl
@[simp] theorem wr_scans (r : Reg) (v : Word) (k j : Nat) : (s.wr r v k j).scans = s.scans := rfl
@[simp] theorem wr_sampler (r : Reg) (v : Word) (k j : Nat) : (s.wr r v k j).sampler = s.sampler := rfl
@[simp] theorem wr_answer (r : Reg) (v : Word) (k j : Nat) : (s.wr r v k j).answer = s.answer := rfl
@[simp] theorem wr_tap (r : Reg) (v : Word) (k j : Nat) : (s.wr r v k j).tap = s.tap := rfl
@[simp] theorem wr_pending (r : Reg) (v : Word) (k j : Nat) : (s.wr r v k j).pending = s.pending := rfl

/-! ### Performance counters and time -/

/-- `t` differs from `s` in its register file, and the record of the same cycle beside it, only. -/
def RegsOnly (s t : State) : Prop := t = { s with regs := t.regs, cyc := t.cyc }

theorem RegsOnly.refl (s : State) : RegsOnly s s := rfl

theorem RegsOnly.out {s t : State} (h : RegsOnly s t) : t = { s with regs := t.regs, cyc := t.cyc } := h

theorem RegsOnly.trans {s t u : State} (h : RegsOnly s t) (k : RegsOnly t u) : RegsOnly s u := by
  unfold RegsOnly at *
  rw [h] at k
  exact k

theorem regsOnly_wr (r : Reg) (v : Word) (k j : Nat) : RegsOnly s (s.wr r v k j) := rfl

theorem regsOnly_pmcAdd (code n fuel : Nat) : ∀ (k carry : Nat) (s : State), RegsOnly s (pmcAdd code n fuel k carry s) := by
  induction fuel with
  | zero => intros; exact .refl _
  | succ fuel ih =>
    intro k carry s
    have hw (c : Prop) [Decidable c] (u : State) (r : Reg) (v : Word) : RegsOnly u (if c then u else u.wr r v k) := by
      split <;> rfl
    have hf (c : Prop) [Decidable c] (u : State) (r : Reg) : RegsOnly u (if c then u.flag r k else u) := by
      split <;> rfl
    unfold pmcAdd
    by_cases hb : bit (s.rd .pmcSel k) 9 = true
    · simp only [hb, if_true]
      exact (hw _ s _ _).trans ((hf _ _ _).trans (ih _ _ _))
    · simp only [hb]
      exact ih _ _ _

/-- Counting performance events changes registers only. -/
theorem regsOnly_pmc (code n : Nat) : RegsOnly s (s.pmc code n) := by
  unfold State.pmc
  split
  · exact .refl _
  · exact regsOnly_pmcAdd code n 32 0 0 s

@[simp] theorem pmc_now (code n : Nat) : (s.pmc code n).now = s.now := by rw [(regsOnly_pmc s code n).out]
@[simp] theorem pmc_tbStart (code n : Nat) : (s.pmc code n).tbStart = s.tbStart := by rw [(regsOnly_pmc s code n).out]
@[simp] theorem pmc_free (code n : Nat) : (s.pmc code n).free = s.free := by rw [(regsOnly_pmc s code n).out]
@[simp] theorem pmc_mem (code n : Nat) : (s.pmc code n).mem = s.mem := by rw [(regsOnly_pmc s code n).out]
@[simp] theorem pmc_ecc (code n : Nat) : (s.pmc code n).ecc = s.ecc := by rw [(regsOnly_pmc s code n).out]
@[simp] theorem pmc_portA (code n : Nat) : (s.pmc code n).portA = s.portA := by rw [(regsOnly_pmc s code n).out]
@[simp] theorem pmc_portB (code n : Nat) : (s.pmc code n).portB = s.portB := by rw [(regsOnly_pmc s code n).out]
@[simp] theorem pmc_sems (code n : Nat) : (s.pmc code n).sems = s.sems := by rw [(regsOnly_pmc s code n).out]
@[simp] theorem pmc_nextTie (code n : Nat) : (s.pmc code n).nextTie = s.nextTie := by rw [(regsOnly_pmc s code n).out]
@[simp] theorem pmc_arbFree (code n : Nat) : (s.pmc code n).arbFree = s.arbFree := by rw [(regsOnly_pmc s code n).out]
@[simp] theorem pmc_writing (code n : Nat) : (s.pmc code n).writing = s.writing := by rw [(regsOnly_pmc s code n).out]
@[simp] theorem pmc_linkA (code n : Nat) : (s.pmc code n).linkA = s.linkA := by rw [(regsOnly_pmc s code n).out]
@[simp] theorem pmc_linkB (code n : Nat) : (s.pmc code n).linkB = s.linkB := by rw [(regsOnly_pmc s code n).out]
@[simp] theorem pmc_comp (code n : Nat) : (s.pmc code n).comp = s.comp := by rw [(regsOnly_pmc s code n).out]
@[simp] theorem pmc_scan (code n : Nat) : (s.pmc code n).scan = s.scan := by rw [(regsOnly_pmc s code n).out]
@[simp] theorem pmc_frecA (code n : Nat) : (s.pmc code n).frecA = s.frecA := by rw [(regsOnly_pmc s code n).out]
@[simp] theorem pmc_frecB (code n : Nat) : (s.pmc code n).frecB = s.frecB := by rw [(regsOnly_pmc s code n).out]
@[simp] theorem pmc_diag (code n : Nat) : (s.pmc code n).diag = s.diag := by rw [(regsOnly_pmc s code n).out]
@[simp] theorem pmc_cal (code n : Nat) : (s.pmc code n).cal = s.cal := by rw [(regsOnly_pmc s code n).out]
@[simp] theorem pmc_adc (code n : Nat) : (s.pmc code n).adc = s.adc := by rw [(regsOnly_pmc s code n).out]
@[simp] theorem pmc_power (code n : Nat) : (s.pmc code n).power = s.power := by rw [(regsOnly_pmc s code n).out]
@[simp] theorem pmc_guard (code n : Nat) : (s.pmc code n).guard = s.guard := by rw [(regsOnly_pmc s code n).out]
@[simp] theorem pmc_faults (code n : Nat) : (s.pmc code n).faults = s.faults := by rw [(regsOnly_pmc s code n).out]
@[simp] theorem pmc_boot (code n : Nat) : (s.pmc code n).boot = s.boot := by rw [(regsOnly_pmc s code n).out]
@[simp] theorem pmc_scans (code n : Nat) : (s.pmc code n).scans = s.scans := by rw [(regsOnly_pmc s code n).out]
@[simp] theorem pmc_sampler (code n : Nat) : (s.pmc code n).sampler = s.sampler := by rw [(regsOnly_pmc s code n).out]
@[simp] theorem pmc_answer (code n : Nat) : (s.pmc code n).answer = s.answer := by rw [(regsOnly_pmc s code n).out]
@[simp] theorem pmc_tap (code n : Nat) : (s.pmc code n).tap = s.tap := by rw [(regsOnly_pmc s code n).out]
@[simp] theorem pmc_pending (code n : Nat) : (s.pmc code n).pending = s.pending := by rw [(regsOnly_pmc s code n).out]

/-- Time never goes back. -/
@[simp] theorem advance_now (t : Nat) : (s.advance t).now = max s.now t := by
  unfold State.advance
  split <;> simp

@[simp] theorem advance_tbStart (t : Nat) : (s.advance t).tbStart = s.tbStart := by unfold State.advance; split <;> simp
@[simp] theorem advance_free (t : Nat) : (s.advance t).free = s.free := by unfold State.advance; split <;> simp
@[simp] theorem advance_mem (t : Nat) : (s.advance t).mem = s.mem := by unfold State.advance; split <;> simp
@[simp] theorem advance_ecc (t : Nat) : (s.advance t).ecc = s.ecc := by unfold State.advance; split <;> simp
@[simp] theorem advance_portA (t : Nat) : (s.advance t).portA = s.portA := by unfold State.advance; split <;> simp
@[simp] theorem advance_portB (t : Nat) : (s.advance t).portB = s.portB := by unfold State.advance; split <;> simp
@[simp] theorem advance_sems (t : Nat) : (s.advance t).sems = s.sems := by unfold State.advance; split <;> simp
@[simp] theorem advance_nextTie (t : Nat) : (s.advance t).nextTie = s.nextTie := by unfold State.advance; split <;> simp
@[simp] theorem advance_arbFree (t : Nat) : (s.advance t).arbFree = s.arbFree := by unfold State.advance; split <;> simp
@[simp] theorem advance_writing (t : Nat) : (s.advance t).writing = s.writing := by unfold State.advance; split <;> simp
@[simp] theorem advance_linkA (t : Nat) : (s.advance t).linkA = s.linkA := by unfold State.advance; split <;> simp
@[simp] theorem advance_linkB (t : Nat) : (s.advance t).linkB = s.linkB := by unfold State.advance; split <;> simp
@[simp] theorem advance_comp (t : Nat) : (s.advance t).comp = s.comp := by unfold State.advance; split <;> simp
@[simp] theorem advance_scan (t : Nat) : (s.advance t).scan = s.scan := by unfold State.advance; split <;> simp
@[simp] theorem advance_frecA (t : Nat) : (s.advance t).frecA = s.frecA := by unfold State.advance; split <;> simp
@[simp] theorem advance_frecB (t : Nat) : (s.advance t).frecB = s.frecB := by unfold State.advance; split <;> simp
@[simp] theorem advance_diag (t : Nat) : (s.advance t).diag = s.diag := by unfold State.advance; split <;> simp
@[simp] theorem advance_cal (t : Nat) : (s.advance t).cal = s.cal := by unfold State.advance; split <;> simp
@[simp] theorem advance_adc (t : Nat) : (s.advance t).adc = s.adc := by unfold State.advance; split <;> simp
@[simp] theorem advance_power (t : Nat) : (s.advance t).power = s.power := by unfold State.advance; split <;> simp
@[simp] theorem advance_guard (t : Nat) : (s.advance t).guard = s.guard := by unfold State.advance; split <;> simp
@[simp] theorem advance_faults (t : Nat) : (s.advance t).faults = s.faults := by unfold State.advance; split <;> simp
@[simp] theorem advance_boot (t : Nat) : (s.advance t).boot = s.boot := by unfold State.advance; split <;> simp
@[simp] theorem advance_scans (t : Nat) : (s.advance t).scans = s.scans := by unfold State.advance; split <;> simp
@[simp] theorem advance_sampler (t : Nat) : (s.advance t).sampler = s.sampler := by unfold State.advance; split <;> simp
@[simp] theorem advance_answer (t : Nat) : (s.advance t).answer = s.answer := by unfold State.advance; split <;> simp
@[simp] theorem advance_tap (t : Nat) : (s.advance t).tap = s.tap := by unfold State.advance; split <;> simp
@[simp] theorem advance_pending (t : Nat) : (s.advance t).pending = s.pending := by unfold State.advance; split <;> simp

/-! ### Reading a register that was written -/

@[simp] theorem rdp_wrp_same (p : Port) (r : Reg) (v : Word) (k j : Nat) : (s.wrp p r v k j).rdp p r k j = v :=
  tabGet_set_same _ _ _ _

@[simp] theorem rd_wr_same (r : Reg) (v : Word) (k j : Nat) : (s.wr r v k j).rd r k j = v := rdp_wrp_same s .A r v k j

/-- A write leaves every other key of the register file alone. -/
theorem wrp_frame (p : Port) (r : Reg) (v : Word) (k j : Nat) (d : Word) {a : Nat} (h : a ≠ r.key p k j) :
    tabGet d (s.wrp p r v k j).regs a = tabGet d s.regs a :=
  tabGet_set_other _ _ h _ _

end Sys2Proof.Machine
end

