-- ==== Sys2Proof/Safety.lean ====
section
/-! DEFINITION. The terms in which the statements speak of the block: the states between two commands, what one request
does besides its own effect, and what a port has sent. -/

namespace Sys2Proof.Machine

/-! ### Between two commands -/

/-- What holds between two commands. No event waits for the fault arbiter (R501). While the array is held dark (R499)
there is no candidate, no flip and no fallback pass is pending, a running pass has lost its candidate, a relighting
has begun again, the dark lasts until PO1 reads on, and the running diagnostic periods, calibration steps and
flux-monitor interval know it. -/
abbrev State.Inv (s : State) : Prop :=
  s.faults.quiet ∧
  (s.heldDark = true →
    s.comp.cand = none ∧ s.comp.fbAtFlip = false ∧ (∀ r ∈ s.comp.run, r.dropped = true) ∧
    s.scan.flipPend = false ∧ s.power.relightStep = 0 ∧ (s.runLike = true → s.guard.darkWait = true) ∧
    (s.diag.period.isSome = true → s.diag.suspL = true ∧ s.diag.suspR = true) ∧
    ∀ r ∈ s.cal.regions, (r.stepOn = true → r.upset = true) ∧ (s.cal.flux.isSome = true → r.fluxUpset = true))

/-- How a command ends: the fault arbiter has taken its reports, and R499 holds. -/
def State.rests (s : State) : State := s.settle.darken

/-! ### A register request (R275, R281) -/

/-- No link command and no block of one waits in a queue for the arbiter (R49, R274). -/
abbrev State.quiet (s : State) : Prop := s.ready .A = false ∧ s.ready .B = false

/-- The state in which the arbiter begins to serve a register request of port `p` over path `w`: a tie with a request
served in this cycle has been noted (R49), the arbiter is free and takes the request, SCL has been stretched until then
(R283), and a lost port that uses its bus has returned (R277). -/
def State.begun (s : State) (p : Port) (w : Path) : State := (s.retie p).turn.arrives p w s.now

/-- The state after a write request whose effect left `s`: the port sees the status, and the arbiter is held for one
cycle. -/
def State.ended (s : State) (p : Port) (w : Path) (st : Status) : State := (s.writeAnswered p w st).requestServed 1

/-- The state after a write request that is answered `st` and has effect `f`. -/
def State.written (s : State) (p : Port) (w : Path) (st : Status) (f : State → State) : State :=
  (f (s.begun p w)).ended p w st

/-- The control die serves requests, none waits before this one, and the block of register `k` of row `r` answers
(R288). Where requests wait, they are served before (`IdleCycles`). -/
abbrev State.answers (s : State) (r : Reg) (k : Nat) : Prop :=
  s.controlOn = true ∧ s.quiet ∧ ∀ p ∈ [Port.A, Port.B], (s.retie p).turn.blockOn r.row.blk (some r) k = true

/-- Registers that a host reads and writes and that do nothing else (R16). -/
def plainRegs : List Reg :=
  [.glbScratch, .hptLossTmo, .hptAckTmo, .hptEvtMask, .lnkEqCfg, .lnkTxcfg, .lnkErrCfg, .lnkTmo, .szrStgOut, .szrStgHstep,
   .szrStgVstep, .szrStgHinit, .szrStgVinit, .szrStgCtrl, .szrCtap, .cmpPhase, .cmpFenceTmo, .cmpStgFence, .cmpStgFtarget,
   .prfStgOrg, .prfStgSize, .prfStgExp, .drvRefresh, .scnHold, .scnSyncCtrl, .scnCamsyncCtrl, .scnCamsyncOffset,
   .adcDropCfg, .adcUcalTarget, .botCustAddr]

/-- The state after a read request that leaves `u` and answers `v`. -/
def State.readEnded (u : State) (p : Port) (w : Path) (st : Status) (v : Word) : State :=
  (u.answered p w st v).requestServed 1

/-! ### A link command (R262 to R275) -/

/-- A link command stands whole at the front of its port's queue, or has just arrived at an empty one, no request of the
other port contends (R49), and the arbiter serves it: `c` is what is recorded of it, and in `b` its effect begins. -/
def State.offers (s : State) (code : Nat) (h : CmdHead) (payload : List Word) (c : Served) (b : State) : Prop :=
  h.len = payload.length ∧ h.len < 65536 ∧ fixedWords code h.len = none ∧
  s.mayServe h.port (completionSize code h.len payload) = true ∧ s.ready (otherPort h.port) = false ∧
  ∃ q t u, (s.retie h.port).takeFront h.port (headWord code h :: payload) = some (q, t, u) ∧ b = u.turn.takes h.port ∧
    c = { port := h.port, opcode := code + 128 * boolNat h.quiet, tag := h.tag, len := h.len, qpos := q, arrived := t
          streamed := false }

/-- The state after a link command whose effect left `u`: the arbiter is held for `n` CK_FAB cycles, and the command
completes. -/
def State.completed (u : State) (c : Served) (n : Nat) (st : Status) (value : Word) (data : List Word) : State :=
  (u.requestServed n).complete c st value data

/-! ### What commits name (R159, R169) -/

/-- A commit of `l` names item `n` of the list `f`, and all that name it give it the value `v`. -/
abbrev Names {α : Type} (l : List Commit) (f : Commit → List (Nat × α)) (n : Nat) (v : α) : Prop :=
  (∃ c ∈ l, (n, v) ∈ f c) ∧ ∀ c ∈ l, ∀ x, (n, x) ∈ f c → x = v

/-- No commit of `l` names item `n` of the list `f`. -/
abbrev NamesNone {α : Type} (l : List Commit) (f : Commit → List (Nat × α)) (n : Nat) : Prop :=
  ∀ c ∈ l, ∀ x, (n, x) ∉ f c

/-- Item `n` stands with what the commits of `l` give it, and stays at `old` where none names it. -/
abbrev Takes {α : Type} (l : List Commit) (f : Commit → List (Nat × α)) (n : Nat) (old new : α) : Prop :=
  (∀ v, Names l f n v → new = v) ∧ (NamesNone l f n → new = old)

/-- The result of a commit shows an end (R170). -/
abbrev EndsAs (u : State) (c : Commit) (st : CommitState) : Prop :=
  (∀ d ∈ u.comp.commits, d.seq ≠ c.seq) ∧ ∀ x ∈ u.results c.port, x.seq = c.seq → x.state = st ∧ x.status = .ok

/-! ### The attic bus (R68, R359) -/

/-- Attic sink `j` can be taken for a replacement, with rank `r` of R359: a PARKED one, one in TAKEOVER, one in
SHADOW. -/
abbrev State.ranks (s : State) (j r : Nat) : Prop :=
  match s.attic j with
  | .parked => s.atticFailed j = false ∧ r = 1
  | .takeover _ => s.atticFailed j = false ∧ r = 2
  | .shadow _ => (s.atticFailed j = false ∨ s.readmitsAttic j = true) ∧ r = 3
  | .replace _ => False

/-- A connection once its calibration step or its re-admission is over (R392): TAKEOVER and SHADOW return to PARKED. -/
def Attic.over : Attic → Attic
  | .replace n => .replace n
  | _ => .parked

/-! ### What a port has sent -/

/-- The completion records of a port (R263), in the order in which they arose: those on the link and those that wait.
A retransmission (R259) puts a record on the link again. -/
def PortState.records (x : PortState) : List (List Word) :=
  ((x.wire.reverse.filter fun k => k.type = 2).map (·.payload))
    ++ x.outbox.filterMap fun i => match i with
      | .resp ws => some ws
      | .evt _ => none

/-! ### Parts of the state that a command leaves alone -/

/-- Layer memory, the cellar and their check bits. -/
abbrev SameMemory (s t : State) : Prop := t.mem = s.mem ∧ t.ecc = s.ecc

/-- Composition, scan and captured flip records. -/
abbrev SamePicture (s t : State) : Prop :=
  t.comp = s.comp ∧ t.scan = s.scan ∧ t.frecA = s.frecA ∧ t.frecB = s.frecB

/-- Diagnostics, calibration and converters. -/
abbrev SameArray (s t : State) : Prop := t.diag = s.diag ∧ t.cal = s.cal ∧ t.adc = s.adc

/-- Power, guardian, fault collector and the boot, plate and flash state. -/
abbrev SameDevice (s t : State) : Prop :=
  t.power = s.power ∧ t.guard = s.guard ∧ t.faults = s.faults ∧ t.boot = s.boot

/-- Ports, semaphores, links, and the turn of the arbiter in a tie. -/
abbrev SamePorts (s t : State) : Prop :=
  t.portA = s.portA ∧ t.portB = s.portB ∧ t.sems = s.sems ∧ t.nextTie = s.nextTie ∧ t.linkA = s.linkA ∧
  t.linkB = s.linkB

/-- Check-value units and the sampler. -/
abbrev SameUnits (s t : State) : Prop := t.scans = s.scans ∧ t.sampler = s.sampler

/-- The start of the time base, the free values drawn and the queue of commands. -/
abbrev SameRun (s t : State) : Prop := t.tbStart = s.tbStart ∧ t.free = s.free ∧ t.pending = s.pending

/-- Every register outside the performance counters and the keys `ks` keeps its value. -/
abbrev SameRegs (ks : List Nat) (s t : State) : Prop :=
  ∀ (d : Word) (a : Nat), a ∉ ks → (a < 0x100000 ∨ 0x100104 ≤ a) → tabGet d t.regs a = tabGet d s.regs a

/-- Registers that the beginning of a service of port `p` may change: CMD_ARB by a tie, and where port `p` returns over
its bus, the registers of an event that the other port drops. -/
def returnKeys (p : Port) : List Nat :=
  [Reg.key .cmdArb .A 0 0, Reg.key .hptEvtDrop (otherPort p) 0 0, Reg.key .hptEvent (otherPort p) 0 0]

/-- Registers that the bookkeeping of a request of port `p` may change, besides performance counters. -/
def requestKeys (p : Port) : List Nat := Reg.key .hptMbStatus p 0 0 :: returnKeys p

end Sys2Proof.Machine
end

