-- ==== Sys2Proof/Laws/Finish.lean ====
section
/-! SUPPORT. How a command ends: the fault arbiter has nothing to take, and the array held dark changes nothing, between
two commands. -/

namespace Sys2Proof.Machine

/-- Without an event the fault arbiter changes nothing. -/
theorem settle_of_quiet {s : State} (h : s.faults.quiet) : s.settle = s := by
  rw [State.settle, settleLoop, if_pos h]

/-- The array is not held dark: nothing is dropped. -/
theorem darken_of_lit {s : State} (h : s.heldDark = false) : s.darken = s := by
  simp [State.darken, h]

/-- Whether the array is held dark depends on the guardian, the fault collector and the power state alone. -/
theorem heldDark_congr {s t : State} (hg : t.guard = s.guard) (hf : t.faults = s.faults) (hp : t.power = s.power) :
    t.heldDark = s.heldDark := by
  simp [State.heldDark, State.darkCause, State.kill, State.darkLatched, State.runLike, hg, hf, hp]

theorem mapIdx_id {α : Type} (f : Nat → α → α) (l : List α) (h : ∀ i, ∀ x ∈ l, f i x = x) : l.mapIdx f = l := by
  apply List.ext_getElem
  · simp
  · intro i h1 h2
    simp only [List.getElem_mapIdx]
    exact h i _ (List.getElem_mem _)

/-- Noting a suspension changes nothing where every running period and step knows it. -/
theorem suspend_of_known {s : State} (d : Die)
    (hp : s.diag.period.isSome = true → s.diag.suspL = true ∧ s.diag.suspR = true)
    (hr : ∀ r ∈ s.cal.regions, (r.stepOn = true → r.upset = true) ∧ (s.cal.flux.isSome = true → r.fluxUpset = true)) :
    s.suspend d = s := by
  have hdiag : ∀ b : Bool, (s.diag.period.isSome = true → b = true) → (b || s.diag.period.isSome) = b := by
    intro b; cases s.diag.period.isSome <;> cases b <;> simp
  have hreg : (s.cal.regions.mapIdx fun g r =>
      if dieOf g = d then
        { r with upset := r.upset || r.stepOn, fluxUpset := r.fluxUpset || s.cal.flux.isSome } else r) =
      s.cal.regions := by
    apply mapIdx_id
    intro i r hm
    have := hr r hm
    split
    · cases hs : r.stepOn <;> cases hu : r.upset <;> cases hx : r.fluxUpset <;> cases hf : s.cal.flux.isSome <;>
        cases r <;> simp_all
    · rfl
  unfold State.suspend
  simp only [State.onDiag, State.onCal, hreg]
  cases d
  · rw [hdiag _ fun h => (hp h).1]
  · rw [hdiag _ fun h => (hp h).2]

/-- A pass that has lost its candidate loses nothing more. -/
theorem lost_again (o : Option Pass) (h : ∀ r ∈ o, r.dropped = true) : o.map Pass.lost = o := by
  cases o with
  | none => rfl
  | some r =>
    have := h r rfl
    cases r
    simp_all [Pass.lost]

theorem comp_dark (c : Comp) (hc : c.cand = none) (hb : c.fbAtFlip = false) (hr : ∀ r ∈ c.run, r.dropped = true) :
    { c with
      cand := none
      fbAtFlip := false
      run := c.run.map Pass.lost } = c := by
  rw [lost_again c.run hr]
  cases c
  simp_all

theorem scan_dark (c : Scan) (h : c.flipPend = false) : { c with flipPend := false } = c := by cases c; simp_all

theorem power_dark (w : Power) (h : w.relightStep = 0) : { w with relightStep := 0 } = w := by cases w; simp_all

theorem guard_dark (g : Guard) (b : Bool) (h : b = true → g.darkWait = true) :
    { g with darkWait := g.darkWait || b } = g := by
  cases g
  cases b <;> simp_all

/-- Between two commands, what R499 asks for has been done. -/
theorem darken_of_inv {s : State} (h : s.Inv) : s.darken = s := by
  cases hd : s.heldDark with
  | false => exact darken_of_lit hd
  | true =>
    obtain ⟨hc, hb, hr, hf, hw, hg, hp, hs⟩ := h.2 hd
    unfold State.darken
    rw [if_pos hd]
    simp only [suspend_of_known .L hp hs, suspend_of_known .R hp hs]
    rw [comp_dark s.comp hc hb hr, scan_dark s.scan hf, power_dark s.power hw, guard_dark s.guard s.runLike hg]

/-- A command whose effect ends between two commands ends there. -/
theorem finish_of_inv {s : State} (h : s.Inv) : finish s = .next s := by
  rw [finish, settle_of_quiet h.1, darken_of_inv h]

/-- What holds between two commands depends on these parts of the state alone. -/
theorem inv_congr {s t : State} (hf : t.faults = s.faults) (hg : t.guard = s.guard) (hp : t.power = s.power)
    (hc : t.comp = s.comp) (hn : t.scan = s.scan) (hd : t.diag = s.diag) (hl : t.cal = s.cal) (h : s.Inv) : t.Inv := by
  have hr : t.runLike = s.runLike := by simp [State.runLike, hp]
  refine ⟨by rw [hf]; exact h.1, fun hx => ?_⟩
  rw [heldDark_congr hg hf hp] at hx
  have := h.2 hx
  rw [hc, hn, hp, hg, hd, hl, hr]
  exact this

/-- The parts of the state on which `State.Inv` depends. -/
def State.invView (s : State) :=
  (s.faults.reports, s.faults.injected, s.heldDark, s.runLike, s.comp.cand, s.comp.fbAtFlip, s.comp.run, s.scan.flipPend,
    s.power.relightStep, s.guard.darkWait, s.diag.period, s.diag.suspL, s.diag.suspR, s.cal.regions, s.cal.flux)

/-- What holds between two commands holds of every state with the same view. -/
theorem inv_of_view {s t : State} (h : t.invView = s.invView) (hi : s.Inv) : t.Inv := by
  simp only [State.invView, Prod.mk.injEq] at h
  obtain ⟨h1, h0, h2, h3, h4, h5, h6, h7, h8, h9, h10, h11, h12, h13, h14⟩ := h
  refine ⟨⟨h1 ▸ hi.1.1, h0 ▸ hi.1.2⟩, fun hd => ?_⟩
  rw [h2] at hd
  have := hi.2 hd
  rw [h3, h4, h5, h6, h7, h8, h9, h10, h11, h12, h13, h14]
  exact this

/-- Every command ends between two commands. -/
theorem settle_quiet (s : State) : s.settle.faults.quiet := by
  suffices h : ∀ n (s : State), (settleLoop n s).faults.quiet from h 16 s
  intro n
  induction n with
  | zero => intro s; exact ⟨rfl, rfl⟩
  | succ n ih =>
    intro s
    unfold settleLoop
    split
    · assumption
    · exact ih _

end Sys2Proof.Machine
end

