-- ==== Sys2Proof/Laws/Requests.lean ====
section
/-! SUPPORT. A register request (R25, R275, R281): what the port arbiter does around its effect, and where its effect
is that of the register. -/

namespace Sys2Proof.Machine

variable (s : State)

/-! ### The beginning of a service -/

@[simp] theorem turn_tbStart : s.turn.tbStart = s.tbStart := by simp [State.turn]
@[simp] theorem turn_free : s.turn.free = s.free := by simp [State.turn]
@[simp] theorem turn_mem : s.turn.mem = s.mem := by simp [State.turn]
@[simp] theorem turn_ecc : s.turn.ecc = s.ecc := by simp [State.turn]
@[simp] theorem turn_portA : s.turn.portA = s.portA := by simp [State.turn]
@[simp] theorem turn_portB : s.turn.portB = s.portB := by simp [State.turn]
@[simp] theorem turn_sems : s.turn.sems = s.sems := by simp [State.turn]
@[simp] theorem turn_nextTie : s.turn.nextTie = s.nextTie := by simp [State.turn]
@[simp] theorem turn_arbFree : s.turn.arbFree = s.arbFree := by simp [State.turn]
@[simp] theorem turn_linkA : s.turn.linkA = s.linkA := by simp [State.turn]
@[simp] theorem turn_linkB : s.turn.linkB = s.linkB := by simp [State.turn]
@[simp] theorem turn_comp : s.turn.comp = s.comp := by simp [State.turn]
@[simp] theorem turn_scan : s.turn.scan = s.scan := by simp [State.turn]
@[simp] theorem turn_frecA : s.turn.frecA = s.frecA := by simp [State.turn]
@[simp] theorem turn_frecB : s.turn.frecB = s.frecB := by simp [State.turn]
@[simp] theorem turn_diag : s.turn.diag = s.diag := by simp [State.turn]
@[simp] theorem turn_cal : s.turn.cal = s.cal := by simp [State.turn]
@[simp] theorem turn_adc : s.turn.adc = s.adc := by simp [State.turn]
@[simp] theorem turn_power : s.turn.power = s.power := by simp [State.turn]
@[simp] theorem turn_guard : s.turn.guard = s.guard := by simp [State.turn]
@[simp] theorem turn_faults : s.turn.faults = s.faults := by simp [State.turn]
@[simp] theorem turn_boot : s.turn.boot = s.boot := by simp [State.turn]
@[simp] theorem turn_scans : s.turn.scans = s.scans := by simp [State.turn]
@[simp] theorem turn_sampler : s.turn.sampler = s.sampler := by simp [State.turn]
@[simp] theorem turn_answer : s.turn.answer = s.answer := by simp [State.turn]
@[simp] theorem turn_tap : s.turn.tap = s.tap := by simp [State.turn]
@[simp] theorem turn_pending : s.turn.pending = s.pending := by simp [State.turn]
@[simp] theorem turn_now : s.turn.now = max s.now s.arbFree := by simp [State.turn]

/-- A late tie changes registers, the record of the cycle and the turn of the next tie only. -/
theorem retie_frame (p : Port) : ∃ r c n, s.retie p = { s with regs := r, cyc := c, nextTie := n } := by
  unfold State.retie
  split
  · unfold State.tie
    exact ⟨_, _, _, (regsOnly_pmc _ _ _).out⟩
  · exact ⟨s.regs, s.cyc, s.nextTie, rfl⟩

/-- The beginning of a service changes registers and the record of the cycle only. -/
theorem takes_frame (p : Port) : ∃ r c, s.takes p = { s with regs := r, cyc := c } := by
  unfold State.takes
  exact ⟨_, _, (regsOnly_pmc _ _ _).out⟩

/-- An event bit is noted in the record of the running cycle, beside the domains that came on in it. -/
@[simp] theorem noteFlags_rose (key : Nat) (m : Word) : (s.noteFlags key m).thisCycle.rose = s.thisCycle.rose := by
  have h : s.thisCycle.cycle = s.fab := by unfold State.thisCycle; split <;> simp_all
  have h' : (s.noteFlags key m).thisCycle = (s.noteFlags key m).cyc := by
    rw [State.thisCycle, if_pos]
    exact h
  rw [h']
  rfl

@[simp] theorem onPort_thisCycle (p : Port) (f : PortState → PortState) : (s.onPort p f).thisCycle = s.thisCycle := by
  cases p <;> rfl

@[simp] theorem wrp_thisCycle (p : Port) (r : Reg) (v : Word) (k j : Nat) : (s.wrp p r v k j).thisCycle = s.thisCycle := rfl

theorem pmcAdd_rose (code n fuel : Nat) :
    ∀ (k carry : Nat) (s : State), (pmcAdd code n fuel k carry s).thisCycle.rose = s.thisCycle.rose := by
  induction fuel with
  | zero => intro k carry s; rfl
  | succ fuel ih =>
    intro k carry s
    unfold pmcAdd
    by_cases hb : bit (s.rd .pmcSel k) 9 = true
    · simp only [hb, if_true]
      rw [ih]
      repeat' split
      all_goals first | rfl | (unfold State.flag; rw [noteFlags_rose]; rfl)
    · simp only [hb]
      exact ih _ _ _

/-- Performance events bring no domain on. -/
@[simp] theorem pmc_rose (code n : Nat) : (s.pmc code n).thisCycle.rose = s.thisCycle.rose := by
  unfold State.pmc
  split
  · rfl
  · exact pmcAdd_rose code n 32 0 0 s

/-- What the transmit lane sends changes its port only. -/
theorem transmit_frame (p : Port) (ks : List TxPacket) : ∃ x, s.transmit p ks = s.setPort p x := ⟨_, rfl⟩

theorem flush_frame (p : Port) : ∃ x, s.flush p = s.setPort p x := by
  unfold State.flush
  split
  · obtain ⟨x, hx⟩ := transmit_frame (s.onPort p fun x => sendItems s.now s.ackTmo x.outbox x) p
      (((s.onPort p fun x => sendItems s.now s.ackTmo x.outbox x).port p).wire.take
        (((s.onPort p fun x => sendItems s.now s.ackTmo x.outbox x).port p).wire.length - (s.port p).wire.length)).reverse
    refine ⟨x, hx.trans ?_⟩
    cases p <;> rfl
  · refine ⟨s.port p, ?_⟩
    cases p <;> rfl

/-- A posted item changes its port only. -/
theorem post_frame (p : Port) (i : OutItem) : ∃ x, s.post p i = s.setPort p x := by
  obtain ⟨x, hx⟩ := flush_frame (s.onPort p fun x => { x with outbox := x.outbox ++ [i] }) p
  refine ⟨x, ?_⟩
  rw [State.post, hx]
  cases p <;> rfl

/-- An event changes its port, or registers and the record of the same cycle where it is dropped. -/
theorem event_frame (p : Port) (code detail : Nat) :
    ∃ x r c, s.event p code detail = { s.setPort p x with regs := r, cyc := c } := by
  unfold State.event
  split
  · split
    · exact ⟨s.port p, ((s.pcount p .hptEvtDrop 0 32).pflag p .hptEvent 3).regs,
        ((s.pcount p .hptEvtDrop 0 32).pflag p .hptEvent 3).cyc, by cases p <;> rfl⟩
    · obtain ⟨x, hx⟩ := post_frame s p (.evt (word (code + 256 * (detail % 2 ^ 24))))
      exact ⟨x, s.regs, s.cyc, by rw [hx]; cases p <;> rfl⟩
  · exact ⟨s.port p, s.regs, s.cyc, by cases p <;> rfl⟩

@[simp] theorem retie_now (p : Port) : (s.retie p).now = s.now := by
  obtain ⟨r, c, n, h⟩ := retie_frame s p; rw [h]
@[simp] theorem retie_tbStart (p : Port) : (s.retie p).tbStart = s.tbStart := by
  obtain ⟨r, c, n, h⟩ := retie_frame s p; rw [h]
@[simp] theorem retie_free (p : Port) : (s.retie p).free = s.free := by
  obtain ⟨r, c, n, h⟩ := retie_frame s p; rw [h]
@[simp] theorem retie_mem (p : Port) : (s.retie p).mem = s.mem := by
  obtain ⟨r, c, n, h⟩ := retie_frame s p; rw [h]
@[simp] theorem retie_ecc (p : Port) : (s.retie p).ecc = s.ecc := by
  obtain ⟨r, c, n, h⟩ := retie_frame s p; rw [h]
@[simp] theorem retie_portA (p : Port) : (s.retie p).portA = s.portA := by
  obtain ⟨r, c, n, h⟩ := retie_frame s p; rw [h]
@[simp] theorem retie_portB (p : Port) : (s.retie p).portB = s.portB := by
  obtain ⟨r, c, n, h⟩ := retie_frame s p; rw [h]
@[simp] theorem retie_sems (p : Port) : (s.retie p).sems = s.sems := by
  obtain ⟨r, c, n, h⟩ := retie_frame s p; rw [h]
@[simp] theorem retie_arbFree (p : Port) : (s.retie p).arbFree = s.arbFree := by
  obtain ⟨r, c, n, h⟩ := retie_frame s p; rw [h]
@[simp] theorem retie_writing (p : Port) : (s.retie p).writing = s.writing := by
  obtain ⟨r, c, n, h⟩ := retie_frame s p; rw [h]
@[simp] theorem retie_linkA (p : Port) : (s.retie p).linkA = s.linkA := by
  obtain ⟨r, c, n, h⟩ := retie_frame s p; rw [h]
@[simp] theorem retie_linkB (p : Port) : (s.retie p).linkB = s.linkB := by
  obtain ⟨r, c, n, h⟩ := retie_frame s p; rw [h]
@[simp] theorem retie_comp (p : Port) : (s.retie p).comp = s.comp := by
  obtain ⟨r, c, n, h⟩ := retie_frame s p; rw [h]
@[simp] theorem retie_scan (p : Port) : (s.retie p).scan = s.scan := by
  obtain ⟨r, c, n, h⟩ := retie_frame s p; rw [h]
@[simp] theorem retie_frecA (p : Port) : (s.retie p).frecA = s.frecA := by
  obtain ⟨r, c, n, h⟩ := retie_frame s p; rw [h]
@[simp] theorem retie_frecB (p : Port) : (s.retie p).frecB = s.frecB := by
  obtain ⟨r, c, n, h⟩ := retie_frame s p; rw [h]
@[simp] theorem retie_diag (p : Port) : (s.retie p).diag = s.diag := by
  obtain ⟨r, c, n, h⟩ := retie_frame s p; rw [h]
@[simp] theorem retie_cal (p : Port) : (s.retie p).cal = s.cal := by
  obtain ⟨r, c, n, h⟩ := retie_frame s p; rw [h]
@[simp] theorem retie_adc (p : Port) : (s.retie p).adc = s.adc := by
  obtain ⟨r, c, n, h⟩ := retie_frame s p; rw [h]
@[simp] theorem retie_power (p : Port) : (s.retie p).power = s.power := by
  obtain ⟨r, c, n, h⟩ := retie_frame s p; rw [h]
@[simp] theorem retie_guard (p : Port) : (s.retie p).guard = s.guard := by
  obtain ⟨r, c, n, h⟩ := retie_frame s p; rw [h]
@[simp] theorem retie_faults (p : Port) : (s.retie p).faults = s.faults := by
  obtain ⟨r, c, n, h⟩ := retie_frame s p; rw [h]
@[simp] theorem retie_boot (p : Port) : (s.retie p).boot = s.boot := by
  obtain ⟨r, c, n, h⟩ := retie_frame s p; rw [h]
@[simp] theorem retie_scans (p : Port) : (s.retie p).scans = s.scans := by
  obtain ⟨r, c, n, h⟩ := retie_frame s p; rw [h]
@[simp] theorem retie_sampler (p : Port) : (s.retie p).sampler = s.sampler := by
  obtain ⟨r, c, n, h⟩ := retie_frame s p; rw [h]
@[simp] theorem retie_answer (p : Port) : (s.retie p).answer = s.answer := by
  obtain ⟨r, c, n, h⟩ := retie_frame s p; rw [h]
@[simp] theorem retie_tap (p : Port) : (s.retie p).tap = s.tap := by
  obtain ⟨r, c, n, h⟩ := retie_frame s p; rw [h]
@[simp] theorem retie_pending (p : Port) : (s.retie p).pending = s.pending := by
  obtain ⟨r, c, n, h⟩ := retie_frame s p; rw [h]

@[simp] theorem takes_now (p : Port) : (s.takes p).now = s.now := by
  obtain ⟨r, c, h⟩ := takes_frame s p; rw [h]
@[simp] theorem takes_tbStart (p : Port) : (s.takes p).tbStart = s.tbStart := by
  obtain ⟨r, c, h⟩ := takes_frame s p; rw [h]
@[simp] theorem takes_free (p : Port) : (s.takes p).free = s.free := by
  obtain ⟨r, c, h⟩ := takes_frame s p; rw [h]
@[simp] theorem takes_mem (p : Port) : (s.takes p).mem = s.mem := by
  obtain ⟨r, c, h⟩ := takes_frame s p; rw [h]
@[simp] theorem takes_ecc (p : Port) : (s.takes p).ecc = s.ecc := by
  obtain ⟨r, c, h⟩ := takes_frame s p; rw [h]
@[simp] theorem takes_portA (p : Port) : (s.takes p).portA = s.portA := by
  obtain ⟨r, c, h⟩ := takes_frame s p; rw [h]
@[simp] theorem takes_portB (p : Port) : (s.takes p).portB = s.portB := by
  obtain ⟨r, c, h⟩ := takes_frame s p; rw [h]
@[simp] theorem takes_sems (p : Port) : (s.takes p).sems = s.sems := by
  obtain ⟨r, c, h⟩ := takes_frame s p; rw [h]
@[simp] theorem takes_nextTie (p : Port) : (s.takes p).nextTie = s.nextTie := by
  obtain ⟨r, c, h⟩ := takes_frame s p; rw [h]
@[simp] theorem takes_arbFree (p : Port) : (s.takes p).arbFree = s.arbFree := by
  obtain ⟨r, c, h⟩ := takes_frame s p; rw [h]
@[simp] theorem takes_writing (p : Port) : (s.takes p).writing = s.writing := by
  obtain ⟨r, c, h⟩ := takes_frame s p; rw [h]
@[simp] theorem takes_linkA (p : Port) : (s.takes p).linkA = s.linkA := by
  obtain ⟨r, c, h⟩ := takes_frame s p; rw [h]
@[simp] theorem takes_linkB (p : Port) : (s.takes p).linkB = s.linkB := by
  obtain ⟨r, c, h⟩ := takes_frame s p; rw [h]
@[simp] theorem takes_comp (p : Port) : (s.takes p).comp = s.comp := by
  obtain ⟨r, c, h⟩ := takes_frame s p; rw [h]
@[simp] theorem takes_scan (p : Port) : (s.takes p).scan = s.scan := by
  obtain ⟨r, c, h⟩ := takes_frame s p; rw [h]
@[simp] theorem takes_frecA (p : Port) : (s.takes p).frecA = s.frecA := by
  obtain ⟨r, c, h⟩ := takes_frame s p; rw [h]
@[simp] theorem takes_frecB (p : Port) : (s.takes p).frecB = s.frecB := by
  obtain ⟨r, c, h⟩ := takes_frame s p; rw [h]
@[simp] theorem takes_diag (p : Port) : (s.takes p).diag = s.diag := by
  obtain ⟨r, c, h⟩ := takes_frame s p; rw [h]
@[simp] theorem takes_cal (p : Port) : (s.takes p).cal = s.cal := by
  obtain ⟨r, c, h⟩ := takes_frame s p; rw [h]
@[simp] theorem takes_adc (p : Port) : (s.takes p).adc = s.adc := by
  obtain ⟨r, c, h⟩ := takes_frame s p; rw [h]
@[simp] theorem takes_power (p : Port) : (s.takes p).power = s.power := by
  obtain ⟨r, c, h⟩ := takes_frame s p; rw [h]
@[simp] theorem takes_guard (p : Port) : (s.takes p).guard = s.guard := by
  obtain ⟨r, c, h⟩ := takes_frame s p; rw [h]
@[simp] theorem takes_faults (p : Port) : (s.takes p).faults = s.faults := by
  obtain ⟨r, c, h⟩ := takes_frame s p; rw [h]
@[simp] theorem takes_boot (p : Port) : (s.takes p).boot = s.boot := by
  obtain ⟨r, c, h⟩ := takes_frame s p; rw [h]
@[simp] theorem takes_scans (p : Port) : (s.takes p).scans = s.scans := by
  obtain ⟨r, c, h⟩ := takes_frame s p; rw [h]
@[simp] theorem takes_sampler (p : Port) : (s.takes p).sampler = s.sampler := by
  obtain ⟨r, c, h⟩ := takes_frame s p; rw [h]
@[simp] theorem takes_answer (p : Port) : (s.takes p).answer = s.answer := by
  obtain ⟨r, c, h⟩ := takes_frame s p; rw [h]
@[simp] theorem takes_tap (p : Port) : (s.takes p).tap = s.tap := by
  obtain ⟨r, c, h⟩ := takes_frame s p; rw [h]
@[simp] theorem takes_pending (p : Port) : (s.takes p).pending = s.pending := by
  obtain ⟨r, c, h⟩ := takes_frame s p; rw [h]

@[simp] theorem retie_port (p q : Port) : (s.retie p).port q = s.port q := by cases q <;> simp [State.port]
@[simp] theorem takes_port (p q : Port) : (s.takes p).port q = s.port q := by cases q <;> simp [State.port]
/-- The record of the cycle keeps the domains that came on in it. -/
@[simp] theorem takes_rose (p : Port) : (s.takes p).thisCycle.rose = s.thisCycle.rose := by
  unfold State.takes
  rw [pmc_rose]
  have h : s.thisCycle.cycle = s.fab := by unfold State.thisCycle; split <;> simp_all
  rw [State.thisCycle, if_pos]
  exact h

@[simp] theorem retie_ready (p q : Port) : (s.retie p).ready q = s.ready q := by
  unfold State.ready State.mayServe State.controlOn
  rw [retie_port, retie_power]

@[simp] theorem retie_controlOn (p : Port) : (s.retie p).controlOn = s.controlOn := by
  unfold State.controlOn
  rw [retie_power]

@[simp] theorem begun_link (p : Port) : s.begun p .link = ((s.retie p).turn).takes p := rfl

@[simp] theorem event_now (p : Port) (code detail : Nat) : (s.event p code detail).now = s.now := by
  obtain ⟨y, r, c, h⟩ := event_frame s p code detail
  rw [h]; cases p <;> rfl
@[simp] theorem event_tbStart (p : Port) (code detail : Nat) : (s.event p code detail).tbStart = s.tbStart := by
  obtain ⟨y, r, c, h⟩ := event_frame s p code detail
  rw [h]; cases p <;> rfl
@[simp] theorem event_free (p : Port) (code detail : Nat) : (s.event p code detail).free = s.free := by
  obtain ⟨y, r, c, h⟩ := event_frame s p code detail
  rw [h]; cases p <;> rfl
@[simp] theorem event_mem (p : Port) (code detail : Nat) : (s.event p code detail).mem = s.mem := by
  obtain ⟨y, r, c, h⟩ := event_frame s p code detail
  rw [h]; cases p <;> rfl
@[simp] theorem event_ecc (p : Port) (code detail : Nat) : (s.event p code detail).ecc = s.ecc := by
  obtain ⟨y, r, c, h⟩ := event_frame s p code detail
  rw [h]; cases p <;> rfl
@[simp] theorem event_sems (p : Port) (code detail : Nat) : (s.event p code detail).sems = s.sems := by
  obtain ⟨y, r, c, h⟩ := event_frame s p code detail
  rw [h]; cases p <;> rfl
@[simp] theorem event_nextTie (p : Port) (code detail : Nat) : (s.event p code detail).nextTie = s.nextTie := by
  obtain ⟨y, r, c, h⟩ := event_frame s p code detail
  rw [h]; cases p <;> rfl
@[simp] theorem event_arbFree (p : Port) (code detail : Nat) : (s.event p code detail).arbFree = s.arbFree := by
  obtain ⟨y, r, c, h⟩ := event_frame s p code detail
  rw [h]; cases p <;> rfl
@[simp] theorem event_writing (p : Port) (code detail : Nat) : (s.event p code detail).writing = s.writing := by
  obtain ⟨y, r, c, h⟩ := event_frame s p code detail
  rw [h]; cases p <;> rfl
@[simp] theorem event_linkA (p : Port) (code detail : Nat) : (s.event p code detail).linkA = s.linkA := by
  obtain ⟨y, r, c, h⟩ := event_frame s p code detail
  rw [h]; cases p <;> rfl
@[simp] theorem event_linkB (p : Port) (code detail : Nat) : (s.event p code detail).linkB = s.linkB := by
  obtain ⟨y, r, c, h⟩ := event_frame s p code detail
  rw [h]; cases p <;> rfl
@[simp] theorem event_comp (p : Port) (code detail : Nat) : (s.event p code detail).comp = s.comp := by
  obtain ⟨y, r, c, h⟩ := event_frame s p code detail
  rw [h]; cases p <;> rfl
@[simp] theorem event_scan (p : Port) (code detail : Nat) : (s.event p code detail).scan = s.scan := by
  obtain ⟨y, r, c, h⟩ := event_frame s p code detail
  rw [h]; cases p <;> rfl
@[simp] theorem event_frecA (p : Port) (code detail : Nat) : (s.event p code detail).frecA = s.frecA := by
  obtain ⟨y, r, c, h⟩ := event_frame s p code detail
  rw [h]; cases p <;> rfl
@[simp] theorem event_frecB (p : Port) (code detail : Nat) : (s.event p code detail).frecB = s.frecB := by
  obtain ⟨y, r, c, h⟩ := event_frame s p code detail
  rw [h]; cases p <;> rfl
@[simp] theorem event_diag (p : Port) (code detail : Nat) : (s.event p code detail).diag = s.diag := by
  obtain ⟨y, r, c, h⟩ := event_frame s p code detail
  rw [h]; cases p <;> rfl
@[simp] theorem event_cal (p : Port) (code detail : Nat) : (s.event p code detail).cal = s.cal := by
  obtain ⟨y, r, c, h⟩ := event_frame s p code detail
  rw [h]; cases p <;> rfl
@[simp] theorem event_adc (p : Port) (code detail : Nat) : (s.event p code detail).adc = s.adc := by
  obtain ⟨y, r, c, h⟩ := event_frame s p code detail
  rw [h]; cases p <;> rfl
@[simp] theorem event_power (p : Port) (code detail : Nat) : (s.event p code detail).power = s.power := by
  obtain ⟨y, r, c, h⟩ := event_frame s p code detail
  rw [h]; cases p <;> rfl
@[simp] theorem event_guard (p : Port) (code detail : Nat) : (s.event p code detail).guard = s.guard := by
  obtain ⟨y, r, c, h⟩ := event_frame s p code detail
  rw [h]; cases p <;> rfl
@[simp] theorem event_faults (p : Port) (code detail : Nat) : (s.event p code detail).faults = s.faults := by
  obtain ⟨y, r, c, h⟩ := event_frame s p code detail
  rw [h]; cases p <;> rfl
@[simp] theorem event_boot (p : Port) (code detail : Nat) : (s.event p code detail).boot = s.boot := by
  obtain ⟨y, r, c, h⟩ := event_frame s p code detail
  rw [h]; cases p <;> rfl
@[simp] theorem event_scans (p : Port) (code detail : Nat) : (s.event p code detail).scans = s.scans := by
  obtain ⟨y, r, c, h⟩ := event_frame s p code detail
  rw [h]; cases p <;> rfl
@[simp] theorem event_sampler (p : Port) (code detail : Nat) : (s.event p code detail).sampler = s.sampler := by
  obtain ⟨y, r, c, h⟩ := event_frame s p code detail
  rw [h]; cases p <;> rfl
@[simp] theorem event_answer (p : Port) (code detail : Nat) : (s.event p code detail).answer = s.answer := by
  obtain ⟨y, r, c, h⟩ := event_frame s p code detail
  rw [h]; cases p <;> rfl
@[simp] theorem event_tap (p : Port) (code detail : Nat) : (s.event p code detail).tap = s.tap := by
  obtain ⟨y, r, c, h⟩ := event_frame s p code detail
  rw [h]; cases p <;> rfl
@[simp] theorem event_pending (p : Port) (code detail : Nat) : (s.event p code detail).pending = s.pending := by
  obtain ⟨y, r, c, h⟩ := event_frame s p code detail
  rw [h]; cases p <;> rfl

@[simp] theorem begun_tbStart (p : Port) (w : Path) : (s.begun p w).tbStart = s.tbStart := by
  cases w <;> simp [State.begun, State.arrives, State.busActive, State.portReturns] <;> split <;> simp
@[simp] theorem begun_free (p : Port) (w : Path) : (s.begun p w).free = s.free := by
  cases w <;> simp [State.begun, State.arrives, State.busActive, State.portReturns] <;> split <;> simp
@[simp] theorem begun_mem (p : Port) (w : Path) : (s.begun p w).mem = s.mem := by
  cases w <;> simp [State.begun, State.arrives, State.busActive, State.portReturns] <;> split <;> simp
@[simp] theorem begun_ecc (p : Port) (w : Path) : (s.begun p w).ecc = s.ecc := by
  cases w <;> simp [State.begun, State.arrives, State.busActive, State.portReturns] <;> split <;> simp
@[simp] theorem begun_sems (p : Port) (w : Path) : (s.begun p w).sems = s.sems := by
  cases w <;> simp [State.begun, State.arrives, State.busActive, State.portReturns] <;> split <;> simp
@[simp] theorem begun_arbFree (p : Port) (w : Path) : (s.begun p w).arbFree = s.arbFree := by
  cases w <;> simp [State.begun, State.arrives, State.busActive, State.portReturns] <;> split <;> simp
@[simp] theorem begun_linkA (p : Port) (w : Path) : (s.begun p w).linkA = s.linkA := by
  cases w <;> simp [State.begun, State.arrives, State.busActive, State.portReturns] <;> split <;> simp
@[simp] theorem begun_linkB (p : Port) (w : Path) : (s.begun p w).linkB = s.linkB := by
  cases w <;> simp [State.begun, State.arrives, State.busActive, State.portReturns] <;> split <;> simp
@[simp] theorem begun_comp (p : Port) (w : Path) : (s.begun p w).comp = s.comp := by
  cases w <;> simp [State.begun, State.arrives, State.busActive, State.portReturns] <;> split <;> simp
@[simp] theorem begun_scan (p : Port) (w : Path) : (s.begun p w).scan = s.scan := by
  cases w <;> simp [State.begun, State.arrives, State.busActive, State.portReturns] <;> split <;> simp
@[simp] theorem begun_frecA (p : Port) (w : Path) : (s.begun p w).frecA = s.frecA := by
  cases w <;> simp [State.begun, State.arrives, State.busActive, State.portReturns] <;> split <;> simp
@[simp] theorem begun_frecB (p : Port) (w : Path) : (s.begun p w).frecB = s.frecB := by
  cases w <;> simp [State.begun, State.arrives, State.busActive, State.portReturns] <;> split <;> simp
@[simp] theorem begun_diag (p : Port) (w : Path) : (s.begun p w).diag = s.diag := by
  cases w <;> simp [State.begun, State.arrives, State.busActive, State.portReturns] <;> split <;> simp
@[simp] theorem begun_cal (p : Port) (w : Path) : (s.begun p w).cal = s.cal := by
  cases w <;> simp [State.begun, State.arrives, State.busActive, State.portReturns] <;> split <;> simp
@[simp] theorem begun_adc (p : Port) (w : Path) : (s.begun p w).adc = s.adc := by
  cases w <;> simp [State.begun, State.arrives, State.busActive, State.portReturns] <;> split <;> simp
@[simp] theorem begun_power (p : Port) (w : Path) : (s.begun p w).power = s.power := by
  cases w <;> simp [State.begun, State.arrives, State.busActive, State.portReturns] <;> split <;> simp
@[simp] theorem begun_guard (p : Port) (w : Path) : (s.begun p w).guard = s.guard := by
  cases w <;> simp [State.begun, State.arrives, State.busActive, State.portReturns] <;> split <;> simp
@[simp] theorem begun_faults (p : Port) (w : Path) : (s.begun p w).faults = s.faults := by
  cases w <;> simp [State.begun, State.arrives, State.busActive, State.portReturns] <;> split <;> simp
@[simp] theorem begun_boot (p : Port) (w : Path) : (s.begun p w).boot = s.boot := by
  cases w <;> simp [State.begun, State.arrives, State.busActive, State.portReturns] <;> split <;> simp
@[simp] theorem begun_scans (p : Port) (w : Path) : (s.begun p w).scans = s.scans := by
  cases w <;> simp [State.begun, State.arrives, State.busActive, State.portReturns] <;> split <;> simp
@[simp] theorem begun_sampler (p : Port) (w : Path) : (s.begun p w).sampler = s.sampler := by
  cases w <;> simp [State.begun, State.arrives, State.busActive, State.portReturns] <;> split <;> simp
@[simp] theorem begun_answer (p : Port) (w : Path) : (s.begun p w).answer = s.answer := by
  cases w <;> simp [State.begun, State.arrives, State.busActive, State.portReturns] <;> split <;> simp
@[simp] theorem begun_tap (p : Port) (w : Path) : (s.begun p w).tap = s.tap := by
  cases w <;> simp [State.begun, State.arrives, State.busActive, State.portReturns] <;> split <;> simp
@[simp] theorem begun_pending (p : Port) (w : Path) : (s.begun p w).pending = s.pending := by
  cases w <;> simp [State.begun, State.arrives, State.busActive, State.portReturns] <;> split <;> simp

@[simp] theorem begun_nextTie (p : Port) (w : Path) : (s.begun p w).nextTie = (s.retie p).nextTie := by
  cases w <;> simp [State.begun, State.arrives, State.busActive, State.portReturns] <;> split <;> simp

@[simp] theorem begun_now (p : Port) (w : Path) : (s.begun p w).now = max s.now s.arbFree := by
  cases w <;> simp [State.begun, State.arrives, State.busActive, State.portReturns] <;> split <;> simp

/-! ### The end of a service -/

@[simp] theorem ended_now (p : Port) (w : Path) (st : Status) : (s.ended p w st).now = s.now := by
  cases w <;> simp [State.ended, State.writeAnswered, State.answered, State.requestServed]
@[simp] theorem ended_tbStart (p : Port) (w : Path) (st : Status) : (s.ended p w st).tbStart = s.tbStart := by
  cases w <;> simp [State.ended, State.writeAnswered, State.answered, State.requestServed]
@[simp] theorem ended_free (p : Port) (w : Path) (st : Status) : (s.ended p w st).free = s.free := by
  cases w <;> simp [State.ended, State.writeAnswered, State.answered, State.requestServed]
@[simp] theorem ended_mem (p : Port) (w : Path) (st : Status) : (s.ended p w st).mem = s.mem := by
  cases w <;> simp [State.ended, State.writeAnswered, State.answered, State.requestServed]
@[simp] theorem ended_ecc (p : Port) (w : Path) (st : Status) : (s.ended p w st).ecc = s.ecc := by
  cases w <;> simp [State.ended, State.writeAnswered, State.answered, State.requestServed]
@[simp] theorem ended_portA (p : Port) (w : Path) (st : Status) : (s.ended p w st).portA = s.portA := by
  cases w <;> simp [State.ended, State.writeAnswered, State.answered, State.requestServed]
@[simp] theorem ended_portB (p : Port) (w : Path) (st : Status) : (s.ended p w st).portB = s.portB := by
  cases w <;> simp [State.ended, State.writeAnswered, State.answered, State.requestServed]
@[simp] theorem ended_sems (p : Port) (w : Path) (st : Status) : (s.ended p w st).sems = s.sems := by
  cases w <;> simp [State.ended, State.writeAnswered, State.answered, State.requestServed]
@[simp] theorem ended_nextTie (p : Port) (w : Path) (st : Status) : (s.ended p w st).nextTie = s.nextTie := by
  cases w <;> simp [State.ended, State.writeAnswered, State.answered, State.requestServed]
@[simp] theorem ended_writing (p : Port) (w : Path) (st : Status) : (s.ended p w st).writing = s.writing := by
  cases w <;> simp [State.ended, State.writeAnswered, State.answered, State.requestServed]
@[simp] theorem ended_linkA (p : Port) (w : Path) (st : Status) : (s.ended p w st).linkA = s.linkA := by
  cases w <;> simp [State.ended, State.writeAnswered, State.answered, State.requestServed]
@[simp] theorem ended_linkB (p : Port) (w : Path) (st : Status) : (s.ended p w st).linkB = s.linkB := by
  cases w <;> simp [State.ended, State.writeAnswered, State.answered, State.requestServed]
@[simp] theorem ended_comp (p : Port) (w : Path) (st : Status) : (s.ended p w st).comp = s.comp := by
  cases w <;> simp [State.ended, State.writeAnswered, State.answered, State.requestServed]
@[simp] theorem ended_scan (p : Port) (w : Path) (st : Status) : (s.ended p w st).scan = s.scan := by
  cases w <;> simp [State.ended, State.writeAnswered, State.answered, State.requestServed]
@[simp] theorem ended_frecA (p : Port) (w : Path) (st : Status) : (s.ended p w st).frecA = s.frecA := by
  cases w <;> simp [State.ended, State.writeAnswered, State.answered, State.requestServed]
@[simp] theorem ended_frecB (p : Port) (w : Path) (st : Status) : (s.ended p w st).frecB = s.frecB := by
  cases w <;> simp [State.ended, State.writeAnswered, State.answered, State.requestServed]
@[simp] theorem ended_diag (p : Port) (w : Path) (st : Status) : (s.ended p w st).diag = s.diag := by
  cases w <;> simp [State.ended, State.writeAnswered, State.answered, State.requestServed]
@[simp] theorem ended_cal (p : Port) (w : Path) (st : Status) : (s.ended p w st).cal = s.cal := by
  cases w <;> simp [State.ended, State.writeAnswered, State.answered, State.requestServed]
@[simp] theorem ended_adc (p : Port) (w : Path) (st : Status) : (s.ended p w st).adc = s.adc := by
  cases w <;> simp [State.ended, State.writeAnswered, State.answered, State.requestServed]
@[simp] theorem ended_power (p : Port) (w : Path) (st : Status) : (s.ended p w st).power = s.power := by
  cases w <;> simp [State.ended, State.writeAnswered, State.answered, State.requestServed]
@[simp] theorem ended_guard (p : Port) (w : Path) (st : Status) : (s.ended p w st).guard = s.guard := by
  cases w <;> simp [State.ended, State.writeAnswered, State.answered, State.requestServed]
@[simp] theorem ended_faults (p : Port) (w : Path) (st : Status) : (s.ended p w st).faults = s.faults := by
  cases w <;> simp [State.ended, State.writeAnswered, State.answered, State.requestServed]
@[simp] theorem ended_boot (p : Port) (w : Path) (st : Status) : (s.ended p w st).boot = s.boot := by
  cases w <;> simp [State.ended, State.writeAnswered, State.answered, State.requestServed]
@[simp] theorem ended_scans (p : Port) (w : Path) (st : Status) : (s.ended p w st).scans = s.scans := by
  cases w <;> simp [State.ended, State.writeAnswered, State.answered, State.requestServed]
@[simp] theorem ended_sampler (p : Port) (w : Path) (st : Status) : (s.ended p w st).sampler = s.sampler := by
  cases w <;> simp [State.ended, State.writeAnswered, State.answered, State.requestServed]
@[simp] theorem ended_tap (p : Port) (w : Path) (st : Status) : (s.ended p w st).tap = s.tap := by
  cases w <;> simp [State.ended, State.writeAnswered, State.answered, State.requestServed]
@[simp] theorem ended_pending (p : Port) (w : Path) (st : Status) : (s.ended p w st).pending = s.pending := by
  cases w <;> simp [State.ended, State.writeAnswered, State.answered, State.requestServed]

/-- The arbiter is held for one CK_FAB cycle (R275). -/
@[simp] theorem ended_arbFree (p : Port) (w : Path) (st : Status) : (s.ended p w st).arbFree = (s.fab + 1) * fabCycle := by
  cases w <;> simp [State.ended, State.writeAnswered, State.answered, State.requestServed, State.fab]

@[simp] theorem ended_answer (p : Port) (w : Path) (st : Status) :
    (s.ended p w st).answer = some { port := p, path := w, status := st, value := 0 } := by
  cases w <;> simp [State.ended, State.writeAnswered, State.answered, State.requestServed]

/-! ### Where a request is decided -/

/-- An event brings no domain on. -/
@[simp] theorem event_rose (p : Port) (code detail : Nat) :
    (s.event p code detail).thisCycle.rose = s.thisCycle.rose := by
  unfold State.event
  split
  · split
    · simp [State.pflag, State.pcount]
    · obtain ⟨x, hx⟩ := post_frame s p (.evt (word (code + 256 * (detail % 2 ^ 24))))
      rw [hx]; cases p <;> rfl
  · rfl

@[simp] theorem begun_rose (p : Port) (w : Path) : (s.begun p w).thisCycle.rose = (s.retie p).turn.thisCycle.rose := by
  cases w <;> simp [State.begun, State.arrives, State.busActive, State.portReturns]
  split <;> simp

/-- Which blocks answer depends on the power and boot state and on the domains that came on in this cycle (R288). -/
theorem blockOn_congr {s t : State} (hp : t.power = s.power) (hb : t.boot = s.boot)
    (hr : t.thisCycle.rose = s.thisCycle.rose) (b : Block) (r : Option Reg)
    (g : Nat) : t.blockOn b r g = s.blockOn b r g := by
  simp only [State.blockOn, State.stageAnswers, State.domainsAnswer, State.arrayAnswers, State.pipeAnswers,
    State.bulkAnswers, State.cellarAnswers, State.underTest, State.domServes, State.domOn, State.domainsShown, hp, hb, hr]

@[simp] theorem begun_blockOn (p : Port) (w : Path) (b : Block) (r : Option Reg) (g : Nat) :
    (s.begun p w).blockOn b r g = (s.retie p).turn.blockOn b r g := blockOn_congr (by simp) (by simp) (by simp) b r g

variable {s}

/-- A block that answers answers a request of either port. -/
theorem answers_begun {r : Reg} {k : Nat} (h : s.answers r k) (p : Port) (w : Path) :
    (s.begun p w).blockOn r.row.blk (some r) k = true := by
  rw [begun_blockOn]
  exact h.2.2 p (by cases p <;> simp)

/-- Where no request waits, a register request is the next one (R49). -/
theorem presents_quiet (hq : s.quiet) (p : Port) : s.presents p = s.retie p := by
  have h : s.ready p = false ∧ s.ready (otherPort p) = false := by
    cases p
    · exact hq
    · exact ⟨hq.2, hq.1⟩
  simp [State.presents, State.linkFirst, State.contend, h]

/-- A write request before which none waits is its effect between `begun` and `ended`. -/
theorem writeRequest_eq {p : Port} {w : Path} {a : Nat} {v : Word} {st : Status} {u : State}
    (hc : s.controlOn = true) (hq : s.quiet) (h : (s.begun p w).regWrite p a v = (st, u)) :
    s.writeRequest p w a v = u.ended p w st := by
  have h' : ((s.retie p).turn.arrives p w s.now).regWrite p a v = (st, u) := h
  simp [State.writeRequest, presents_quiet hq, State.serveWrite, hc, h', State.ended]

/-- A write of a register of an answering block that no code of R25 turns away early is that register's own. -/
theorem regWrite_reg {p : Port} {a : Nat} {v : Word} {b : Block} {r : Reg} {k j : Nat}
    (ha : place a = .reg b r k j) (he : s.earlyRefusal r k v = none) (hb : s.blockOn b (some r) k = true) :
    s.regWrite p a v = s.writeReg p r k j v := by
  simp [State.regWrite, ha, he, hb]

/-- What a request leaves keeps the invariant where its effect leaves these parts alone. -/
theorem inv_ended {s u : State} (p : Port) (w : Path) (st : Status) (hf : u.faults = s.faults) (hg : u.guard = s.guard)
    (hp : u.power = s.power) (hc : u.comp = s.comp) (hn : u.scan = s.scan) (hd : u.diag = s.diag) (hl : u.cal = s.cal)
    (h : s.Inv) : (u.ended p w st).Inv :=
  inv_congr (by simpa) (by simpa) (by simpa) (by simpa) (by simpa) (by simpa) (by simpa) h

/-! ### Controls over a write (R17, R18, R286) -/

/-- The holder of the semaphore passes its gate. -/
theorem gated_of_holds {p : Port} {k : Nat} (h : s.owner k = some p) (t : Status × State) : s.gated p k t = t := by
  simp [State.gated, State.gate, h]

/-- A value without reserved encodings passes; its reserved bits are dropped. -/
theorem checked_of_legal {r : Reg} {v : Word} (h : r.legal v = true) (t : Word → Status × State) :
    s.checked r v t = t (r.kept v) := by
  simp [State.checked, h]

end Sys2Proof.Machine
end

