-- ==== Sys2Proof/Laws/Registers.lean ====
section
/-! SUPPORT. What the bookkeeping of a request changes in the register file: performance counters, the status of the
management bus, and the counts of a dropped event. -/

namespace Sys2Proof.Machine

theorem SameRegs.refl (ks : List Nat) (s : State) : SameRegs ks s s := fun _ _ _ _ => rfl

theorem SameRegs.trans {ks : List Nat} {s t u : State} (h : SameRegs ks s t) (k : SameRegs ks t u) :
    SameRegs ks s u := fun d a ha hr => (k d a ha hr).trans (h d a ha hr)

theorem SameRegs.mono {ks ls : List Nat} {s t : State} (hl : ∀ a ∈ ks, a ∈ ls) (h : SameRegs ks s t) :
    SameRegs ls s t := fun d a ha hr => h d a (fun hk => ha (hl a hk)) hr

theorem SameRegs.of_regs {ks : List Nat} {s t u : State} (e : u.regs = t.regs) (h : SameRegs ks s t) :
    SameRegs ks s u := fun d a ha hr => by rw [e]; exact h d a ha hr

/-- A write of a register of the list. -/
theorem sameRegs_wrp {ks : List Nat} (s : State) (p : Port) (r : Reg) (v : Word) (k j : Nat) (h : r.key p k j ∈ ks) :
    SameRegs ks s (s.wrp p r v k j) :=
  fun d _ ha _ => wrp_frame s p r v k j d (fun e => ha (e ▸ h))

theorem sameRegs_pmcAdd (ks : List Nat) (code n : Nat) :
    ∀ (fuel k carry : Nat) (s : State), k + fuel ≤ 32 → SameRegs ks s (pmcAdd code n fuel k carry s) := by
  intro fuel
  induction fuel with
  | zero => intro k carry s _; exact .refl ks s
  | succ fuel ih =>
    intro k carry s hk
    have hw (c : Prop) [Decidable c] (u : State) (v : Word) : SameRegs ks u (if c then u else u.wr .pmcCnt v k) := by
      split
      · exact .refl ks u
      · refine fun d a _ hr => wrp_frame u .A .pmcCnt v k 0 d ?_
        show a ≠ 0x100000 + 0 + 4 * k + 0 * 0
        omega
    have hf (c : Prop) [Decidable c] (u : State) : SameRegs ks u (if c then u.flag .pmcOvf k else u) := by
      split
      · refine fun d a _ hr => wrp_frame u .A .pmcOvf _ 0 0 d ?_
        show a ≠ 0x100000 + 0x100 + 0 * 0 + 0 * 0
        omega
      · exact .refl ks u
    unfold pmcAdd
    by_cases hb : bit (s.rd .pmcSel k) 9 = true
    · simp only [hb, if_true]
      exact (hw _ s _).trans ((hf _ _).trans (ih _ _ _ (by omega)))
    · simp only [hb]
      exact ih _ _ _ (by omega)

/-- Performance events change performance counters only. -/
theorem sameRegs_pmc (ks : List Nat) (s : State) (code n : Nat) : SameRegs ks s (s.pmc code n) := by
  unfold State.pmc
  split
  · exact .refl ks s
  · exact sameRegs_pmcAdd ks code n 32 0 0 s (by omega)

theorem sameRegs_advance (ks : List Nat) (s : State) (t : Nat) : SameRegs ks s (s.advance t) := by
  unfold State.advance
  refine .of_regs rfl ?_
  split
  · exact (sameRegs_pmc ks s _ _).trans (sameRegs_pmc ks _ _ _)
  · exact .refl ks s

theorem sameRegs_turn (ks : List Nat) (s : State) : SameRegs ks s s.turn :=
  .of_regs rfl (sameRegs_advance ks s s.arbFree)

theorem sameRegs_event {ks : List Nat} (s : State) (p : Port) (code detail : Nat)
    (h1 : Reg.key .hptEvtDrop p 0 0 ∈ ks) (h2 : Reg.key .hptEvent p 0 0 ∈ ks) :
    SameRegs ks s (s.event p code detail) := by
  unfold State.event
  split
  · split
    · generalize hu : s.pcount p .hptEvtDrop 0 32 = u
      refine .trans (t := u) (hu ▸ sameRegs_wrp s p .hptEvtDrop _ 0 0 h1) ?_
      exact .of_regs (t := u.wrp p .hptEvent (u.rdp p .hptEvent ||| bitWord 3)) rfl (sameRegs_wrp u p .hptEvent _ 0 0 h2)
    · obtain ⟨x, hx⟩ := post_frame s p (.evt (word (code + 256 * (detail % 2 ^ 24))))
      refine .of_regs ?_ (.refl ks s)
      rw [hx]
      cases p <;> rfl
  · exact .refl ks s

/-- A late tie changes performance counters and CMD_ARB. -/
theorem sameRegs_retie {ks : List Nat} (s : State) (p : Port) (h : Reg.key .cmdArb .A 0 0 ∈ ks) :
    SameRegs ks s (s.retie p) := by
  unfold State.retie
  split
  · unfold State.tie
    refine .trans (t := ({ s with nextTie := otherPort s.nextTie } : State).count .cmdArb 16 16) ?_ (sameRegs_pmc ks _ _ _)
    exact sameRegs_wrp { s with nextTie := otherPort s.nextTie } .A .cmdArb _ 0 0 h
  · exact .refl ks s

/-- What begins changes performance counters only. -/
theorem sameRegs_takes (ks : List Nat) (s : State) (p : Port) : SameRegs ks s (s.takes p) := by
  have h : SameRegs ks s { s with cyc := { s.thisCycle with chosen := some p } } := fun _ _ _ _ => rfl
  exact h.trans (sameRegs_pmc ks _ _ _)

/-- The beginning of a service changes performance counters and, in a tie and where a port returns, the registers of
these. -/
theorem sameRegs_begun {ks : List Nat} (s : State) (p : Port) (w : Path) (h : ∀ a ∈ returnKeys p, a ∈ ks) :
    SameRegs ks s (s.begun p w) := by
  refine .trans ((sameRegs_retie s p (h _ (by simp [returnKeys]))).trans (sameRegs_turn ks (s.retie p))) ?_
  cases w
  · exact sameRegs_takes ks _ p
  · generalize ht : (s.retie p).turn = t
    have hb (u : State) : SameRegs ks u (u.busActive p) := by
      unfold State.busActive
      refine .of_regs (t := u.portReturns p) (by cases p <;> rfl) ?_
      unfold State.portReturns
      split
      · refine .trans (t := u.onPort p fun x => { x with lost := false }) (.of_regs (by cases p <;> rfl) (.refl ks _)) ?_
        exact sameRegs_event _ _ _ _ (h _ (by simp [returnKeys])) (h _ (by simp [returnKeys]))
      · exact .refl ks _
    unfold State.begun
    rw [ht]
    refine .trans (sameRegs_takes ks t p) (.trans ?_ (hb _))
    exact .of_regs (by cases p <;> rfl) (.refl ks _)

/-- The end of a service changes the status of the bus. -/
theorem sameRegs_ended {ks : List Nat} (s : State) (p : Port) (w : Path) (st : Status)
    (h : Reg.key .hptMbStatus p 0 0 ∈ ks) : SameRegs ks s (s.ended p w st) := by
  unfold State.ended State.requestServed
  cases w
  · exact .of_regs rfl (.refl ks s)
  · exact .of_regs rfl (sameRegs_wrp s p .hptMbStatus _ 0 0 h)

end Sys2Proof.Machine
end

