-- ==== Sys2Proof/Laws/Words.lean ====
section
/-! SUPPORT. Fields of words, and lists of a fixed number of things. -/

namespace Sys2Proof.Machine

/-- A mask that covers a field leaves it. -/
theorem field_and (v m : Word) (lsb n : Nat) (h : field m lsb n = 2 ^ n - 1) : field (v &&& m) lsb n = field v lsb n := by
  unfold field at *
  simp only [BitVec.toNat_and] at *
  apply Nat.eq_of_testBit_eq
  intro i
  have hi := congrArg (·.testBit i) h
  simp only [Nat.testBit_mod_two_pow, Nat.testBit_shiftRight, Nat.testBit_and, Nat.testBit_two_pow_sub_one] at hi ⊢
  by_cases hn : i < n
  · simp_all
  · simp [hn]

theorem bit_and (v m : Word) (i : Nat) (h : bit m i = true) : bit (v &&& m) i = bit v i := by
  unfold bit at *
  simp_all

/-- A number below 2^n fills the lowest field of n bits. -/
theorem field_word (n k : Nat) (h : k < 2 ^ n) (hn : n ≤ 32) : field (word k) 0 n = k := by
  have big : k < 2 ^ 32 := Nat.lt_of_lt_of_le h (Nat.pow_le_pow_right (by decide) hn)
  have e : (word k).toNat = k := (BitVec.toNat_ofNat k 32).trans (Nat.mod_eq_of_lt big)
  unfold field
  rw [e, Nat.shiftRight_zero]
  exact Nat.mod_eq_of_lt h

theorem getD_modifyAt {α : Type} (f : α → α) (d : α) (k j : Nat) (l : List α) :
    (modifyAt f k l).getD j d = if j = k ∧ k < l.length then f (l.getD j d) else l.getD j d := by
  induction l generalizing k j with
  | nil => simp [modifyAt]
  | cons a t ih =>
    cases k <;> cases j <;> simp [modifyAt]
    rename_i n m
    have := ih n m
    simpa using this

@[simp] theorem length_modifyAt {α : Type} (f : α → α) (k : Nat) (l : List α) :
    (modifyAt f k l).length = l.length := by
  induction l generalizing k with
  | nil => simp [modifyAt]
  | cons a t ih => cases k <;> simp [modifyAt, ih]

end Sys2Proof.Machine
end

