-- ==== Sys2Proof/Certificates/Slice0/Obligations.lean ====
section
/-! DEFINITION. The statements for the provers. `s.begun p w` and `s.written p w st f` (Safety.lean) are the states at the
beginning and at the end of a register request; `RequestBookkeeping` says what they change. `s.rests` is how a command
ends. A next state that is written out as an update of `s` changes nothing else: that is its frame. -/

open Sys2Proof Sys2Proof.Machine

/-! ## Register requests -/

/-- An acquire of semaphore `k` over HPT_SEM_ACQ: a free one goes to the port, one's own stays, and a failure at the
other port's is counted. A release over HPT_SEM_REL: one's own becomes free, the other port is told, and with UPDATE
open sessions end; another's, or a free one, stays (R284). A write of CMP_FENCEk sets the fence, a write of
CMP_FENCE_SIG adds 1 to the fence it names, and waiting commits whose fences are met become READY (R167).
CMP_FENCE_TMO expires for a commit or a group (R171, R172): exactly the commits that still wait for their fence are
discarded, CMP_EVENT[1] and 0x43 report it; where none waits any more nothing happens. -/
def Obligations.SemaphoresAndFences : Prop :=
  (∀ (s : State) (p : Port) (w : Path) (v : Word), s.Inv →
    let k := field v 0 4
    (s.answers .hptSemAcq 0 →
      (s.owner k = none →
        exec (.semAcqWrite p w v) s = .next (s.written p w .ok fun b =>
          { b with sems := modifyAt (fun _ => some p) k b.sems })) ∧
      (s.owner k = some p → exec (.semAcqWrite p w v) s = .next (s.written p w .ok id)) ∧
      (s.owner k = some (otherPort p) →
        exec (.semAcqWrite p w v) s = .next (s.written p w .semHeld fun b =>
          b.count .hptSemFailCnt (16 * portIx p) 16))) ∧
    (s.answers .hptSemRel 0 →
      (s.owner k = some p →
        exec (.semRelWrite p w v) s = .next (s.written p w .ok fun b =>
          (State.semFreed { b with sems := modifyAt (fun _ => none) k b.sems } k).event (otherPort p) 0x04 k)) ∧
      (s.owner k = some (otherPort p) → exec (.semRelWrite p w v) s = .next (s.written p w .refusedOwner id)) ∧
      (s.owner k = none → exec (.semRelWrite p w v) s = .next (s.written p w .state id)))) ∧
  (∀ (s : State) (p : Port) (w : Path) (k : Nat) (v : Word), s.Inv →
    (k < 16 → s.answers .cmpFence k →
      exec (.fenceSet p w k v) s = .next (s.written p w .ok fun b => (b.wr .cmpFence v k).readyCommits)) ∧
    (s.answers .cmpFenceSig 0 → s.boot.plate.isSome →
      exec (.fenceSigWrite p w v) s = .next (s.written p w .ok fun b =>
        (b.wr .cmpFence (b.rd .cmpFence (field v 0 4) + 1) (field v 0 4)).readyCommits)) ∧
    (s.controlOn = true → s.quiet → s.boot.plate = none →
      exec (.fenceSigWrite p w v) s = .next (s.written p w .notPlated id))) ∧
  (∀ (s : State) (w : TimerOf) (t n : Nat), s.Inv → s.timerOf w = some (t, n) →
    let gone := s.timedOut w
    let u := s.fenceTimeout w
    exec (.fenceTimeout w) s = .next u.rests ∧ u.now = max s.now (t + n) ∧
    u.comp.commits = s.comp.commits.filter (fun d => gone.all fun c => decide (d.seq ≠ c.seq)) ∧
    (gone ≠ [] → u.faults.reports = [⟨0x43, 0⟩] ∧ bit (u.rd .cmpEvent) 1 = true ∧
      ∀ p, u.results p = (s.results p).map fun r =>
        if gone.any fun c => decide (c.port = p ∧ c.seq = r.seq) then { r with state := .discarded, status := .fenceTimeout }
        else r) ∧
    (gone = [] → u = s.advance (t + n)))

/-- OPEN, READY and RELEASE of memory slot `k` by a port that may act on it: the table of R212. A SCANNING or RETIRING
slot refuses all three and counts (R214). A slot that a write is in progress to, or that is READY and named by a
waiting commit, refuses OPEN and RELEASE (R212, R216). -/
def Obligations.SlotActions : Prop :=
  ∀ (s : State) (p : Port) (w : Path) (k : Nat) (pl : Plate), s.Inv → s.answers .lyrSlotCmd 0 → s.boot.plate = some pl →
    k < pl.slots.length → k < 64 → ((plateSlot pl k).2.2 = true → pl.sealOwner = p) →
    (((s.slot k).mode = .free ∨ (s.slot k).mode = .filling ∨ (s.slot k).mode = .ready) →
      exec (.slotReady p w k) s = .next (s.written p w .ok fun b => b.onSlot k fun y => { y with mode := .ready }) ∧
      (((s.begun p w).slotWriting k = false ∧ ((s.slot k).mode = .ready → s.claimed k = false)) →
        exec (.slotOpen p w k) s = .next (s.written p w .ok fun b => b.onSlot k fun y => { y with mode := .filling }) ∧
        exec (.slotRelease p w k) s = .next (s.written p w .ok fun b =>
          b.onSlot k fun _ => { mode := .free, incomplete := false })) ∧
      (((s.begun p w).slotWriting k = true ∨ ((s.slot k).mode = .ready ∧ s.claimed k = true)) →
        exec (.slotOpen p w k) s = .next (s.written p w .busy id) ∧
        exec (.slotRelease p w k) s = .next (s.written p w .busy id))) ∧
    (((s.slot k).mode = .scanning ∨ (s.slot k).mode = .retiring) →
      exec (.slotOpen p w k) s = .next (s.written p w .slotLeased (·.leased p)) ∧
      exec (.slotReady p w k) s = .next (s.written p w .slotLeased (·.leased p)) ∧
      exec (.slotRelease p w k) s = .next (s.written p w .slotLeased (·.leased p)))

/-- Selectors capture for the writing port: a flip record (R58), a commit result (R199), coefficients of a scaler
phase (R247), a sampled command (R577), a record of the log (R515; words of 0 with CRC_FAIL and source 0x2A where
flash holds it with an uncorrectable error, R524) and the state of a pixel (R375). Choices of the model it rests on:
log 15, 62, 102. -/
def Obligations.Captures : Prop :=
  ∀ (s : State) (p : Port) (w : Path) (v : Word), s.Inv →
    let b := s.begun p w
    (s.answers .scnFrecSel 0 →
      ∃ u : State, exec (.scnFrecSelWrite p w v) s = .next (u.ended p w .ok) ∧ u.regs = (b.wrp p .scnFrecSel (v &&& 0xF)).regs ∧
        u.frec p = s.scan.flips[field v 0 4]? ∧ u.frec (otherPort p) = s.frec (otherPort p) ∧
        u = { b with regs := u.regs, frecA := u.frecA, frecB := u.frecB }) ∧
    (s.answers .cmpCresSel 0 →
      ∃ u : State, exec (.cmpCresSelWrite p w v) s = .next (u.ended p w .ok) ∧ u = { b with regs := u.regs } ∧
        u.rdp p .cmpCresSel = v &&& 0xF ∧
        (∀ r, (s.results p)[field v 0 4]? = some r →
          u.rdp p .cmpCresSeq = word r.seq ∧
          u.rdp p .cmpCresState = word (statusCode r.status + 256 * commitCode r.state)) ∧
        ((s.results p)[field v 0 4]? = none → u.rdp p .cmpCresSeq = 0 ∧ u.rdp p .cmpCresState = 0) ∧
        SameRegs [Reg.key .cmpCresSel p 0 0, Reg.key .cmpCresSeq p 0 0, Reg.key .cmpCresState p 0 0] b u) ∧
    (s.answers .szrCsel 0 →
      ∃ u : State, exec (.szrCselWrite p w v) s = .next (u.ended p w .ok) ∧ u = { b with regs := u.regs } ∧
        u.rdp p .szrCsel = v &&& 0x333F ∧ (∀ k, k < 4 → u.rdp p .szrCval k = s.cval v k) ∧
        SameRegs (Reg.key .szrCsel p 0 0 :: (List.range 4).map fun k => Reg.key .szrCval p k 0) b u) ∧
    (s.answers .pmcSmpSel 0 →
      (∀ r, (s.sampler.held.find? fun r => r.seq == v.toNat) = some r →
        ∃ u : State, exec (.pmcSmpSelWrite p w v) s = .next (u.ended p w .ok) ∧ u = { b with regs := u.regs } ∧
          u.rdp p .pmcSmpSel = v ∧ (∀ i, i < 4 → u.rdp p .pmcSmpData i = r.words.getD i 0) ∧
          SameRegs (Reg.key .pmcSmpSel p 0 0 :: (List.range 4).map fun i => Reg.key .pmcSmpData p i 0) b u) ∧
      ((s.sampler.held.find? fun r => r.seq == v.toNat) = none →
        exec (.pmcSmpSelWrite p w v) s = .next (s.written p w .addrRange id))) ∧
    (s.answers .fltLogSel 0 →
      (∀ r, s.logFind v.toNat = some r →
        ∃ u : State, u = { b with regs := u.regs } ∧ u.rdp p .fltLogSel = v ∧
          SameRegs (Reg.key .fltLogSel p 0 0 :: (List.range 8).map fun i => Reg.key .fltLogData p i 0) b u ∧
          (s.logSpoilt v.toNat = false →
            exec (.logSelWrite p w v) s = .next (u.ended p w .ok) ∧ ∀ i, i < 8 → u.rdp p .fltLogData i = r.getD i 0) ∧
          (s.logSpoilt v.toNat = true →
            exec (.logSelWrite p w v) s = .next ((u.report 0x2A).ended p w .crcFail).rests ∧
            ∀ i, i < 8 → u.rdp p .fltLogData i = 0)) ∧
      (s.logFind v.toNat = none → exec (.logSelWrite p w v) s = .next (s.written p w .addrRange id))) ∧
    (∀ g, g < 16 → s.answers .tilPixsel g →
      ∃ u : State, exec (.pixselWrite p w g v) s = .next (u.ended p w .ok) ∧ u = { b with regs := u.regs } ∧
        u.rdp p .tilPixsel g = v &&& 0x3F03FF ∧
        u.rdp p .tilPixinfo g = b.pixInfo (1024 * (g / 8) + field v 0 10) (64 * (g % 8) + field v 16 6) ∧
        SameRegs [Reg.key .tilPixsel p g 0, Reg.key .tilPixinfo p g 0] b u)

/-- SCN_TMODE and SCN_BLANK, written by the holder of TIMING: a mode that the plate allows, S3 only in HOLD, and a
blanking of 64 to 1,024 in steps of 16, at least 128 in the follower role, are taken and wait for a flip of a pass
begun after the write; another value is refused (R78, R87, R88). While the other port holds TIMING either write is
refused with SEM_HELD, while none does with STATE (R286). SCN_IFS is taken, and refused with STATE where the plate
locks it (R16, R80). -/
def Obligations.TimingRegisters : Prop :=
  ∀ (s : State) (p : Port) (w : Path) (v : Word), s.Inv →
    let run := field v 0 2
    let hold := field v 2 2
    let n := field v 0 11
    (s.answers .scnTmode 0 →
      (s.owner 1 = some p → run ≠ 3 → s.modeAllowed run = true → s.modeAllowed hold = true →
        exec (.scnTmodeWrite p w v) s = .next (s.written p w .ok fun b =>
          let newRun := run != b.fld .scnTmode 0 2
          let newHold := hold != b.fld .scnTmode 2 2
          let c := (b.wr .scnTmode (v &&& 0xF)).onScan fun x =>
            { x with pendRun := if newRun then some b.comp.passes else x.pendRun
                     pendHold := if newHold then some b.comp.passes else x.pendHold }
          let d := if newRun then c.refreshRun else c
          if newHold then d.refreshHold else d)) ∧
      (s.owner 1 = some p → (run = 3 ∨ s.modeAllowed run = false ∨ s.modeAllowed hold = false) →
        exec (.scnTmodeWrite p w v) s = .next (s.written p w .state id)) ∧
      (s.owner 1 = some (otherPort p) → exec (.scnTmodeWrite p w v) s = .next (s.written p w .semHeld id)) ∧
      (s.owner 1 = none → exec (.scnTmodeWrite p w v) s = .next (s.written p w .state id))) ∧
    (s.answers .scnBlank 0 →
      (s.owner 1 = some p → 64 ≤ n → n ≤ 1024 → n % 16 = 0 → (s.scan.role = 2 → 128 ≤ n) →
        exec (.scnBlankWrite p w v) s = .next (s.written p w .ok fun b =>
          if word n = b.rd .scnBlank then b
          else ((b.wr .scnBlank (word n)).onScan fun x => { x with pendBlank := some b.comp.passes }).refreshBoth)) ∧
      (s.owner 1 = some p → (n < 64 ∨ 1024 < n ∨ n % 16 ≠ 0 ∨ (s.scan.role = 2 ∧ n < 128)) →
        exec (.scnBlankWrite p w v) s = .next (s.written p w .state id)) ∧
      (s.owner 1 = some (otherPort p) → exec (.scnBlankWrite p w v) s = .next (s.written p w .semHeld id)) ∧
      (s.owner 1 = none → exec (.scnBlankWrite p w v) s = .next (s.written p w .state id))) ∧
    (s.answers .scnIfs 0 →
      (s.locked .scnIfs = false →
        exec (.scnIfsWrite p w v) s = .next (s.written p w .ok fun b =>
          if s.power.state = .hold then (b.wr .scnIfs v).refreshHold
          else if v = b.rd .scnIfs then b.wr .scnIfs v else (b.wr .scnIfs v).refreshRun)) ∧
      (s.locked .scnIfs = true → exec (.scnIfsWrite p w v) s = .next (s.written p w .state id)))

/-- Palettes and coefficient banks: the first write of a staging palette copies the applied one (R223), a palette that
a waiting commit carries is locked (R224), the Seal palette is not staged (R175), a discard drops staging palettes
(R226), and SZR_CLOAD loads one phase of a bank that is not in use, with taps that add up to 512 (R238, R239). -/
def Obligations.PalettesAndBanks : Prop :=
  ∀ (s : State) (p : Port) (w : Path) (q i : Nat) (v : Word), s.Inv →
    (q < 8 → i < 256 → s.answers .drvPal q →
      (s.isSealPal q = false → s.palLocked p q = false →
        exec (.paletteWrite p w q i v) s = .next (s.written p w .ok fun b =>
          b.onStage p q fun x =>
            { entries := tabSet 0 (if x.dirty then x.entries else b.palette q) i (v &&& 0x1FFFF), dirty := true })) ∧
      (s.isSealPal q = true → exec (.paletteWrite p w q i v) s = .next (s.written p w .state id)) ∧
      (s.isSealPal q = false → s.palLocked p q = true →
        exec (.paletteWrite p w q i v) s = .next (s.written p w .busy id))) ∧
    (s.answers .drvPalDiscard 0 →
      ((∀ k, k < 8 → bit v k = true → s.palLocked p k = false) →
        exec (.palDiscard p w v) s = .next (s.written p w .ok fun b =>
          (List.range 8).foldl (fun t k => if bit v k then t.onStage p k fun _ => {} else t) b)) ∧
      ((∃ k, k < 8 ∧ bit v k = true ∧ s.palLocked p k = true) →
        exec (.palDiscard p w v) s = .next (s.written p w .busy id))) ∧
    (s.answers .szrCload 0 →
      let taps := if bit v 8 then (s.ctaps p).take 6 else s.ctaps p
      let j := field v 12 2
      let n := field v 9 1
      let ph := field v 0 6
      (sumTaps taps = 512 → s.bankInUse j n = false →
        exec (.szrCload p w v) s = .next (s.written p w .ok fun b =>
          b.onComp fun c => { c with banks := c.banks |> modifyAt (fun x =>
            if bit v 8 then
              { x with cv := setTaps (6 * ph) taps x.cv
                       vload := x.vload ||| ((1 : BitVec 64) <<< ph) }
            else
              { x with ch := setTaps (8 * ph) taps x.ch
                       hload := x.hload ||| ((1 : BitVec 64) <<< ph) }) (2 * j + n) })) ∧
      (sumTaps taps ≠ 512 → exec (.szrCload p w v) s = .next (s.written p w .state id)) ∧
      (sumTaps taps = 512 → s.bankInUse j n = true → exec (.szrCload p w v) s = .next (s.written p w .busy id)))

/-- TIL_MASK_CMD sets or clears the HOST cause of one pixel, CLEAR also the FAULT cause, unless hardware has set it in
the same CK_FAB cycle (R22), and leaves every other pixel (R357); here the region's masked pixels do not come to
exceed MASKMAX (R371). TIL_READMIT of a failed unit waits for its test; a unit that has not failed is refused, and a
busy region answers BUSY (R365). Choices of the model it rests on: log 79. -/
def Obligations.MaskAndReadmit : Prop :=
  ∀ (s : State) (p : Port) (w : Path) (g : Nat), s.Inv → g < 16 →
    (∀ (x y : Nat), x < 1024 → y < 64 → s.answers .tilMaskCmd g →
      let n := pixelNo (1024 * (g / 8) + x) (64 * (g % 8) + y)
      let stay := if (s.begun p w).thisCycle.faults.contains n then columnCause ||| faultCause else columnCause
      let masked (c : BitVec 3) : State := { s with diag := { s.diag with mask := tabSet 0 s.diag.mask n c } }
      ((masked (s.causes n ||| hostCause)).maskedIn (regionOfPixel n) ≤ s.maskMax →
        ∃ u : State, exec (.maskSetHost p w g x y) s = .next (u.ended p w .ok) ∧ u.causes n = s.causes n ||| hostCause ∧
          (∀ m, m ≠ n → u.causes m = s.causes m) ∧
          u = { s.begun p w with comp := u.comp, diag := u.diag } ∧ u.comp.cand = s.comp.cand ∧
          u.comp.commits = s.comp.commits) ∧
      ((masked (s.causes n &&& stay)).maskedIn (regionOfPixel n) ≤ s.maskMax →
        ∃ u : State, exec (.maskClear p w g x y) s = .next (u.ended p w .ok) ∧ u.causes n = s.causes n &&& stay ∧
          (∀ m, m ≠ n → u.causes m = s.causes m) ∧
          u = { s.begun p w with comp := u.comp, diag := u.diag } ∧ u.comp.cand = s.comp.cand ∧
          u.comp.commits = s.comp.commits)) ∧
    (∀ (v : Word), s.answers .tilReadmit g → Reg.legal .tilReadmit v = true →
      let u : Readmit := { tile := tileOfLocal g (field v 0 5), unit := field v 8 8, attic := bit v 16 }
      (s.unitFailed u = true → (u.attic = true → u.unit < 8) → s.diag.readmit.getD g none = none →
        exec (.readmit p w g v) s = .next (s.written p w .ok fun b =>
          b.onDiag fun d => { d with readmit := modifyAt (fun _ => some u) g d.readmit })) ∧
      (s.unitFailed u = false → s.diag.readmit.getD g none = none →
        exec (.readmit p w g v) s = .next (s.written p w .state id)) ∧
      (s.unitFailed u = true → (u.attic = true → u.unit < 8) → (s.diag.readmit.getD g none).isSome →
        exec (.readmit p w g v) s = .next (s.written p w .busy id)))

/-- Host conversions: START of an idle converter in service leaves a request of 2^AVG conversions; a retired one
answers STATE, a changed setting of a busy one BUSY, and the same START again changes nothing but what R21 says of its
CK_FAB cycle (R429, R437). GO of a group starts every chosen converter at its first sample instant when all are free,
idle and awaited by no urgent request, counts a miss otherwise, and is one with a trigger of the same CK_ADC cycle,
whose group it joins or whose miss it is (R440, R442); while GO reads 1 a further write of 1 only counts for R21.
ADC_UCAL starts an operation on an input 0 to 5 of a system converter in service: ZERO and RESET at once, FULL where
the zero of that channel is held; a zero of another channel is lost (R445). A group whose SYNCIN trigger has come due
starts or is skipped before each of these. Choices of the model it rests on: log 3, 9. -/
def Obligations.ConversionRequests : Prop :=
  (∀ (s : State) (p : Port) (w : Path) (n : Nat) (v : Word), s.Inv →
    let b := s.begun p w
    let a := b.syncGroup b.now
    let done (st : Status) (u : State) : Host.Outcome State Fault Refusal := .next (u.ended p w st).rests
    (n < 16 → s.answers .tilAdcCtl n → Reg.legal .tilAdcCtl v = true → bit v 0 = true →
      (bit (a.rd .tilAdcCtl n) 0 = false → (a.conv n).retired = false →
        exec (.tilAdcStart p w n v) s = done .ok ((a.wr .tilAdcCtl (v &&& 0xFF1) n).onConv n fun c =>
          { c with req := some { input := field v 4 4, avg := field v 8 4, left := 2 ^ field v 8 4, sum := 0 } })) ∧
      (bit (a.rd .tilAdcCtl n) 0 = false → (a.conv n).retired = true →
        exec (.tilAdcStart p w n v) s = done .state a) ∧
      (bit (a.rd .tilAdcCtl n) 0 = true → v &&& 0xFF1 ≠ a.rd .tilAdcCtl n →
        exec (.tilAdcStart p w n v) s = done .busy a) ∧
      (bit (a.rd .tilAdcCtl n) 0 = true → v &&& 0xFF1 = a.rd .tilAdcCtl n →
        exec (.tilAdcStart p w n v) s = done .ok (a.noteOne (Reg.tilAdcCtl.key .A n 0)))) ∧
    (n < 4 → s.answers .adcSctl n → Reg.legal .adcSctl v = true → bit v 0 = true →
      (bit (a.rd .adcSctl n) 0 = false → (a.conv (16 + n)).retired = false →
        exec (.adcStart p w n v) s = done .ok ((a.wr .adcSctl (v &&& 0xF71) n).onConv (16 + n) fun c =>
          { c with req := some { input := field v 4 3, avg := field v 8 4, left := 2 ^ field v 8 4, sum := 0 } })) ∧
      (bit (a.rd .adcSctl n) 0 = false → (a.conv (16 + n)).retired = true →
        exec (.adcStart p w n v) s = done .state a) ∧
      (bit (a.rd .adcSctl n) 0 = true → v &&& 0xF71 ≠ a.rd .adcSctl n →
        exec (.adcStart p w n v) s = done .busy a) ∧
      (bit (a.rd .adcSctl n) 0 = true → v &&& 0xF71 = a.rd .adcSctl n →
        exec (.adcStart p w n v) s = done .ok (a.noteOne (Reg.adcSctl.key .A n 0)))) ∧
    (s.answers .adcGrpCtl 0 → (∀ k ∈ b.groupSel, (b.conv k).retired = false) →
      (bit (b.rd .adcGrpCtl) 0 = false →
        let sel := a.groupSel
        let c := sel.foldl (fun u k => u.convBy k (a.sampleAt k b.now)) a
        let fin := sel.foldl (fun m k => max m (c.sampleAt k b.now + convTime k)) b.now
        let can := c.adc.group.isNone && sel.all fun k =>
          c.convFree k (c.sampleAt k b.now) && !c.urgentWaiting k (c.sampleAt k b.now) && c.hostIdle k
        let tried (on : Bool) (x : Adc) : Adc := { x with groupAt := some (b.now / 200, on) }
        ((∀ on, a.adc.groupAt ≠ some (b.now / 200, on)) →
          (can = true →
            exec (.groupGo p w) s = done .ok
              (((sel.foldl (fun t k => t.startConv k (a.groupInput k) .group (c.sampleAt k b.now)) c).onAdc fun x =>
                { tried true x with group := some { sel := sel, fin := fin } }).wr .adcGrpCtl 1)) ∧
          (can = false →
            exec (.groupGo p w) s = done .ok (((c.count .adcGrpMiss 0 32).flag .adcEvent 2).onAdc (tried false)))) ∧
        (a.adc.groupAt = some (b.now / 200, true) → a.adc.group.isSome = true →
          exec (.groupGo p w) s = done .ok (a.wr .adcGrpCtl 1)) ∧
        ((a.adc.groupAt = some (b.now / 200, false) ∨ ((∃ on, a.adc.groupAt = some (b.now / 200, on)) ∧ a.adc.group = none)) →
          exec (.groupGo p w) s = done .ok a)) ∧
      (bit (b.rd .adcGrpCtl) 0 = true →
        exec (.groupGo p w) s = .next (s.written p w .ok (·.noteOne (Reg.adcGrpCtl.key .A 0 0)))))) ∧
  (∀ (s : State) (p : Port) (w : Path) (n i : Nat), s.Inv → s.answers .adcUcal 0 → n < 4 → i < 6 →
    let b := s.begun p w
    let a := b.syncGroup b.now
    let done (st : Status) (u : State) : Host.Outcome State Fault Refusal := .next (u.ended p w st).rests
    let held : Bool := match a.adc.zero with
      | some (c, _) => decide (c = 8 * n + i)
      | none => false
    let begins (op : UcalOp) : State :=
      (a.onAdc fun x => { x with ucal := some { chan := 8 * n + i, op := op }, zero := if held then x.zero else none }).wr
        .adcUcalStat (setField (setField (setField (a.rd .adcUcalStat) 0 1 1) 1 1 (boolNat held)) 2 5 (8 * n + i))
    (a.conv (16 + n)).retired = false →
    (a.adc.ucal = none →
      exec (.calZero p w n i) s = done .ok (begins .zero) ∧
      exec (.ucalReset p w n i) s = done .ok (begins .reset) ∧
      (held = true → exec (.calFull p w n i) s = done .ok (begins .full))) ∧
    (a.adc.ucal.isSome →
      exec (.calZero p w n i) s = done .busy a ∧
      exec (.ucalReset p w n i) s = done .busy a) ∧
    (held = false → exec (.calFull p w n i) s = done .state a))

/-- Power requests by the holder of POWER, with no transition in progress and no refuser of R461: the entry to SLEEP
writes the trim image and the settings (R463), the entry to STANDBY awaits the cycle boundary (R459), the entry to RUN
switches rail 1 on (R460), once the requests made before on it have ended (log 116), and HOLD is left (R458) or
entered, at once where the last flip has its timing (R94). HOLD replays the active buffers in the timing of
SCN_TMODE.HOLD, and with HOLD_LP an UP link begins to park all lanes but one; on exit the timing of SCN_TMODE.RUN
counts again, frames of another timing do not flip, the first pass waits for no interval, and every LPPARK lane enters
CHECK (R94, R458, R329). Choices of the model it rests on: log 34, 35, 37, 39, 70, 116. -/
def Obligations.PowerRequests : Prop :=
  ∀ (s : State) (p : Port) (w : Path), s.Inv → s.answers .pwrReq 0 → s.owner 0 = some p → s.power.trans = none →
    let b := s.begun p w
    (s.power.state = .standby → b.wakeEnabled = true → b.refuser .sleep = none →
      exec (.requestSleep p w) s = .next (s.written p w .ok fun b =>
        ((b.setTrans (some { target := .sleep, source := .standby, port := p, step := 2 })).addJob .trims).addJob
          .settings)) ∧
    ((s.power.state = .run ∨ s.power.state = .hold) → b.refuser .standby = none →
      exec (.requestStandby p w) s = .next (s.written p w .ok fun b =>
        b.setTrans (some { target := .standby, source := s.power.state, port := p, step := 1 }))) ∧
    (s.power.state = .standby → s.boot.plate.isSome →
      ((s.rail 1).req = none → (s.rail 1).next = none →
        exec (.requestRun p w) s = .next (s.written p w .ok fun b =>
          (b.setTrans (some { target := .run, source := .standby, port := p, step := 1 })).railSend 1 (some true) 0
            .entry)) ∧
      (((s.rail 1).req.isSome ∨ (s.rail 1).next.isSome) →
        exec (.requestRun p w) s = .next (s.written p w .ok fun b =>
          b.setTrans (some { target := .run, source := .standby, port := p, step := 0 })))) ∧
    (s.power.state = .hold → s.boot.plate.isSome →
      exec (.requestRun p w) s = .next (s.written p w .ok (·.exitHold)).rests) ∧
    (s.power.state = .run →
      (((∀ r ∈ s.scan.flips.head?, r.frame.timing ≠ b.holdTiming) ∨ b.fld .scnTmode 0 2 ≠ b.fld .scnTmode 2 2) →
        exec (.requestHold p w) s = .next (s.written p w .ok fun b =>
          b.setTrans (some { target := .hold, source := .run, port := p, step := 1 }))) ∧
      (∀ r ∈ s.scan.flips.head?, r.frame.timing = b.holdTiming → b.fld .scnTmode 0 2 = b.fld .scnTmode 2 2 →
        exec (.requestHold p w) s = .next (s.written p w .ok fun b =>
          (b.onScan fun c => { c with pendHold := none }).enterHold).rests)) ∧
    (let u := s.enterHold
     u.power = { s.power with state := .hold, trans := none } ∧ u.scan = { s.scan with replay := true } ∧
     u.passTiming = s.holdTiming ∧ u.comp = s.comp ∧ u.mem = s.mem ∧
     ∀ q,
      ((s.link q).state = .up → bit (s.rd .lnkCtrl (portIx q)) 12 = true → 1 < (s.link q).healthy.length →
        (u.port q).inDiscard = true ∧
        (u.link q).wait = some { why := .holdPark, b4 := (s.link q).lowestMask, b5 := 0, start := s.now, length := s.lnkTmo q } ∧
        (u.link q).lanes = (s.link q).lanes) ∧
      (((s.link q).state ≠ .up ∨ bit (s.rd .lnkCtrl (portIx q)) 12 = false ∨ (s.link q).healthy.length ≤ 1) →
        u.link q = s.link q)) ∧
    (let u := s.exitHold
     let other (f : Frame) : Prop := f.hold = true ∧ f.timing ≠ s.runTiming
     u.power = { s.power with state := .run, trans := none } ∧ u.scan = { s.scan with replay := false, flipPend := u.scan.flipPend } ∧
     u.passTiming = s.runTiming ∧ (∀ t, u.intervalOver t = true) ∧ u.comp.commits = s.comp.commits ∧ u.mem = s.mem ∧
     (∀ c, s.comp.cand = some c →
       (other c.frame → u.comp.cand = none ∧ u.scan.flipPend = false) ∧
       (¬ other c.frame → u.comp.cand = some c ∧ u.scan.flipPend = s.scan.flipPend)) ∧
     (∀ r, s.comp.run = some r →
       (other r.frame → u.comp.run = some { r with dropped := true }) ∧ (¬ other r.frame → u.comp.run = some r)) ∧
     ∀ q k, k < 4 →
      let x := (s.link q).lanes.getD k {}
      (x.role = .lpPark → x.logical.isSome →
        ((u.link q).lanes.getD k {}).role = .check ∧ ((u.link q).lanes.getD k {}).timer = some (s.now, s.lnkTmo q)) ∧
      (x.role ≠ .lpPark → (u.link q).lanes.getD k {} = x))

/-- Power requests that are turned away: a transition in progress answers BUSY, another port's POWER SEM_HELD,
recorded as a refusal of an entry to SLEEP or STANDBY (R461, R462), nobody's STATE (R286, R457); a request for RUN
needs a plate before all others (R457); a request for the present state changes nothing; a move that R456 does not
list answers STATE, and so does SLEEP without an enabled wake source (R457); a refuser of R461 answers BUSY, is
recorded and sets PWR_EVENT[1] (R462). PWR_VCORE_OFS sends a rail-0 request of the speed grade plus the offset, at
most 900 mV (R467, R481), and PWR_PHY_CTRL switches PHY domains (R480), by the holder of POWER; without POWER they are
refused (R286). Choices of the model it rests on: log 54, 73. -/
def Obligations.PowerRefusalsAndRegisters : Prop :=
  (∀ (s : State) (p : Port) (w : Path), s.Inv → s.answers .pwrReq 0 →
    (s.owner 0 = some p → s.power.trans.isSome →
      exec (.requestSleep p w) s = .next (s.written p w .busy id) ∧
      exec (.requestStandby p w) s = .next (s.written p w .busy id) ∧
      exec (.requestRun p w) s = .next (s.written p w .busy id) ∧
      exec (.requestHold p w) s = .next (s.written p w .busy id)) ∧
    (s.owner 0 = none → (s.boot.plate.isSome ∨ s.power.trans.isSome) →
      exec (.requestSleep p w) s = .next (s.written p w .state id) ∧
      exec (.requestStandby p w) s = .next (s.written p w .state id) ∧
      exec (.requestRun p w) s = .next (s.written p w .state id) ∧
      exec (.requestHold p w) s = .next (s.written p w .state id)) ∧
    (s.owner 0 = some (otherPort p) →
      let turnedAway (x : PowerState) (b : State) : State :=
        if s.power.trans = none ∧ allowedMove s.power.state x = true then (b.noteRefusal x 1 p false).flag .pwrEvent 1
        else b
      exec (.requestSleep p w) s = .next (s.written p w .semHeld (turnedAway .sleep)) ∧
      exec (.requestStandby p w) s = .next (s.written p w .semHeld (turnedAway .standby)) ∧
      exec (.requestHold p w) s = .next (s.written p w .semHeld id) ∧
      ((s.boot.plate.isSome ∨ s.power.trans.isSome) →
        exec (.requestRun p w) s = .next (s.written p w .semHeld id))) ∧
    (s.boot.plate = none → s.power.trans = none → exec (.requestRun p w) s = .next (s.written p w .notPlated id)) ∧
    (s.owner 0 = some p → s.power.trans = none →
      (s.power.state = .standby → exec (.requestStandby p w) s = .next (s.written p w .ok id)) ∧
      (s.power.state = .run → s.boot.plate.isSome → exec (.requestRun p w) s = .next (s.written p w .ok id)) ∧
      (s.power.state = .hold → exec (.requestHold p w) s = .next (s.written p w .ok id)) ∧
      ((s.power.state = .run ∨ s.power.state = .hold) →
        exec (.requestSleep p w) s = .next (s.written p w .state id)) ∧
      (s.power.state = .standby → exec (.requestHold p w) s = .next (s.written p w .state id)) ∧
      (s.power.state = .standby → (s.begun p w).wakeEnabled = false →
        exec (.requestSleep p w) s = .next (s.written p w .state id)) ∧
      (∀ c, s.power.state = .standby → (s.begun p w).wakeEnabled = true → (s.begun p w).refuser .sleep = some c →
        exec (.requestSleep p w) s = .next (s.written p w .busy fun b =>
          (b.noteRefusal .sleep c p false).flag .pwrEvent 1)) ∧
      (∀ c, (s.power.state = .run ∨ s.power.state = .hold) → (s.begun p w).refuser .standby = some c →
        exec (.requestStandby p w) s = .next (s.written p w .busy fun b =>
          (b.noteRefusal .standby c p false).flag .pwrEvent 1)))) ∧
  (∀ (s : State) (p : Port) (w : Path) (v : Word), s.Inv →
    (s.answers .pwrVcoreOfs 0 →
      (s.owner 0 = some p → Reg.legal .pwrVcoreOfs v = true →
        exec (.vcoreOfsWrite p w v) s = .next (s.written p w .ok fun b =>
          (b.wr .pwrVcoreOfs (v &&& 0xFF)).railAsk 0 (min 900 (s.boot.otp.speed + field v 0 8)) .other)) ∧
      (s.owner 0 = some p → Reg.legal .pwrVcoreOfs v = false →
        exec (.vcoreOfsWrite p w v) s = .next (s.written p w .state id)) ∧
      (s.owner 0 = some (otherPort p) → exec (.vcoreOfsWrite p w v) s = .next (s.written p w .semHeld id)) ∧
      (s.owner 0 = none → exec (.vcoreOfsWrite p w v) s = .next (s.written p w .state id))) ∧
    (s.answers .pwrPhyCtrl 0 →
      (s.owner 0 = some p →
        exec (.pwrPhyCtrlWrite p w v) s = .next (s.written p w .ok fun b =>
          let change (q : Port) (t : State) : State :=
            if bit v (portIx q) && !bit (b.rd .pwrPhyCtrl) (portIx q) then t.phyOff q
            else if !bit v (portIx q) && bit (b.rd .pwrPhyCtrl) (portIx q) then t.phyOn q
            else t
          change .B (change .A (b.wr .pwrPhyCtrl (v &&& 3)))).rests) ∧
      (s.owner 0 = some (otherPort p) → exec (.pwrPhyCtrlWrite p w v) s = .next (s.written p w .semHeld id)) ∧
      (s.owner 0 = none → exec (.pwrPhyCtrlWrite p w v) s = .next (s.written p w .state id))))

/-- FLT_CLEAR: without HALT, FALLBACK and DARK are cleared once no source that latched them is still present, DARK
with both overload latches, and FIRST always; otherwise the write answers STATE and nothing changes (R508). Which
sources are still present the model decides (log 41). -/
def Obligations.FaultClears : Prop :=
  ∀ (s : State) (p : Port) (w : Path), s.Inv → s.answers .fltClear 0 →
    let b := s.begun p w
    (s.faults.halt = false →
      ((∀ k ∈ s.faults.fbBy, b.cond k = false) →
        exec (.clearFallback p w) s = .next (s.written p w .ok fun b =>
          { b with faults := { b.faults with fallback := false, fbBy := [] } })) ∧
      ((∃ k ∈ s.faults.fbBy, b.cond k = true) → exec (.clearFallback p w) s = .next (s.written p w .state id)) ∧
      ((∀ k ∈ s.faults.darkBy, b.cond k = false) →
        exec (.clearDark p w) s = .next (s.written p w .ok fun b =>
          State.guardOutputs { b with
            faults := { b.faults with dark := false, darkBy := [] }
            guard := { b.guard with po1 := { b.guard.po1 with ovl := false }
                                    po2 := { b.guard.po2 with ovl := false } } }).rests) ∧
      ((∃ k ∈ s.faults.darkBy, b.cond k = true) → exec (.clearDark p w) s = .next (s.written p w .state id)) ∧
      exec (.clearFirst p w) s = .next (s.written p w .ok fun b =>
        ((b.wr .fltFirst 0).wr .fltFirstTimeLo 0).wr .fltFirstTimeHi 0)) ∧
    (s.faults.halt = true →
      exec (.clearFallback p w) s = .next (s.written p w .state id) ∧
      exec (.clearDark p w) s = .next (s.written p w .state id) ∧
      exec (.clearFirst p w) s = .next (s.written p w .state id))

/-- FLT_INJ and SAF_INJ in FACTORY: an injected event is counted, graded, reacted to and logged as the source's own
and marked INJ, real events of its cycle mask it (R516); SAF_INJ forces the guardian's inputs from the next CK_AON
cycle on (R517). An unused source answers ADDR_RANGE, and outside FACTORY both answer LIFECYCLE. -/
def Obligations.Injections : Prop :=
  ∀ (s : State) (p : Port) (w : Path) (v : Word), s.Inv →
    (s.answers .fltInj 0 → s.boot.otp.lc = 1 → unusedSource (field v 0 7) = false →
      exec (.fltInjWrite p w v []) s = .next (s.written p w .ok fun b =>
        (b.count .fltInjCnt 0 16).onFaults fun f =>
          { f with injected := some { source := field v 0 7, detail := field v 16 16 } }).rests ∧
      (∀ u : State, u.faults.reports = [] → u.faults.injected = some { source := field v 0 7, detail := field v 16 16 } →
        u.takeReports = State.arbitrate (u.onFaults fun f => { f with injected := none })
          [{ source := field v 0 7, detail := field v 16 16 }] true) ∧
      ∀ real, real ≠ [] →
        exec (.fltInjWrite p w v real) s = .next (s.written p w .ok fun b =>
          ((b.count .fltInjCnt 16 16).flag .fltEvent 3).onFaults fun f => { f with reports := f.reports ++ real }).rests) ∧
    (s.answers .fltInj 0 → s.boot.otp.lc = 1 → unusedSource (field v 0 7) = true → ∀ real,
      exec (.fltInjWrite p w v real) s = .next (s.written p w .addrRange fun b =>
        b.onFaults fun f => { f with reports := f.reports ++ real }).rests) ∧
    (s.controlOn = true → s.quiet → s.boot.otp.lc ≠ 1 →
      exec (.fltInjWrite p w v []) s = .next (s.written p w .lifecycle id) ∧
      exec (.safInjWrite p w v) s = .next (s.written p w .lifecycle id)) ∧
    (s.answers .safInj 0 → s.boot.otp.lc = 1 →
      exec (.safInjWrite p w v) s = .next (s.written p w .ok fun b =>
        let t := (b.wr .safInj (v &&& 0x1F)).onGuard fun g =>
          { g with inj := BitVec.ofNat 5 (field v 0 5), injAt := b.now / aonCycle
                   injWas := (if b.now / aonCycle ≤ g.injAt then g.injWas else g.inj) &&& BitVec.ofNat 5 (field v 0 5) }
        t))

/-- BOT_RESET with its key begins a start of cause 4, another key answers STATE (R528, R553). BOT_LC_REQ to the next
state, in STANDBY without an open session and, for the last state, with a good token, wipes, moves on and begins a
start of cause 6; to another state it answers LIFECYCLE, outside STANDBY or with an open session STATE, and with a
token that fails AUTH_FAIL; every attempt takes a new nonce (R548, R549). What it wipes: both settings copies always,
the fault log but for RETURN, the customer area but for FIELD, and for RETURN both plates with their roles in the boot
record; every other byte of the flash, the firmware images and the fuses stay. Choices of the model it rests on: log
3, 46, 48. -/
def Obligations.ResetAndLifeCycle : Prop :=
  ∀ (s : State) (p : Port) (w : Path) (v : Word) (n : Nat), s.Inv →
    (s.answers .botReset 0 →
      (field v 8 8 = 0x5A → exec (.botResetWrite p w v) s = .next (s.written p w .ok (·.beginStart 4)).rests) ∧
      (field v 8 8 ≠ 0x5A → exec (.botResetWrite p w v) s = .next (s.written p w .state id))) ∧
    (s.answers .botLcReq 0 → n < 4 →
      (n = s.boot.otp.lc + 1 → s.power.cpuHalt = false → s.power.state = .standby → s.boot.sessionFw = none →
        s.boot.sessionPl = none → (n = 3 → (s.begun p w).tokenOk 3 = true) →
        exec (.lcReq p w n) s = .next (s.written p w .ok fun b =>
          ((b.lifeWipe n).onBoot fun x => { x with otp := { x.otp with lc := n } }).beginStart 6).rests) ∧
      (n ≠ s.boot.otp.lc + 1 → exec (.lcReq p w n) s = .next (s.written p w .lifecycle (·.newNonce))) ∧
      (n = s.boot.otp.lc + 1 →
        (s.power.cpuHalt = true ∨ s.power.state ≠ .standby ∨ s.boot.sessionFw.isSome ∨ s.boot.sessionPl.isSome) →
        exec (.lcReq p w n) s = .next (s.written p w .state (·.newNonce))) ∧
      (n = 3 → s.boot.otp.lc = 2 → s.power.cpuHalt = false → s.power.state = .standby → s.boot.sessionFw = none →
        s.boot.sessionPl = none → (s.begun p w).tokenOk 3 = false →
        exec (.lcReq p w n) s = .next (s.written p w .authFail (·.newNonce)))) ∧
    (1 ≤ n → n ≤ 3 → s.boot.slots.length = 4 →
      let u := s.lifeWipe n
      let customer (i : Nat) : Prop := customerBase ≤ i ∧ i < customerBase + 0x400000
      let plates (i : Nat) : Prop := imageBase 2 ≤ i ∧ i < imageBase 2 + 0x100000
      u.boot.copyA = none ∧ u.boot.copyB = none ∧ u.boot.otp = s.boot.otp ∧
      u = { s with boot := u.boot, faults := u.faults } ∧
      (n ≠ 3 → u.faults = { s.faults with logHead := 0, buffer := [], ring := [], ringPos := 0, logBad := [] } ∧
        u.boot.slots = s.boot.slots ∧ u.newestRecord = s.newestRecord) ∧
      (n = 3 → u.faults = s.faults ∧
        u.boot.slots = [s.image 0, s.image 1, { state := .empty, role := .active }, { state := .empty, role := .none }] ∧
        ∃ r, u.newestRecord = some r ∧ r.2.roles = u.boot.slots.map (·.role)) ∧
      (∀ i, u.flashByte i = if (n ≠ 2 ∧ customer i) ∨ (n = 3 ∧ plates i) then 0xFF else s.flashByte i))

/-- BOT_ACTIVATE by the holder of UPDATE: a VALID image of the slot that is not ACTIVE becomes PENDING, and with NOW
in STANDBY a start of cause 5 begins (R542). BOT_CONFIRM makes the TRIAL image ACTIVE and raises the security version
(R543); without one it answers STATE. Choices of the model it rests on: log 37, 46, 48, 96. -/
def Obligations.ActivateAndConfirm : Prop :=
  ∀ (s : State) (p : Port) (w : Path) (t n : Nat), s.Inv → s.answers .botActivate 0 → s.answers .botConfirm 0 →
    s.owner 2 = some p → t < 2 → n < 2 →
    let k := 2 * t + n
    (s.power.cpuHalt = false → k ≠ s.activeSlot (t == 1) → (s.image k).state = .valid → (s.image k).role = .none →
      exec (.activate p w t n) s = .next (s.written p w .ok fun b =>
        (b.onImage k fun x => { x with role := .pending }).addJob .bootRecord) ∧
      (s.power.state = .standby →
        exec (.activateNow p w t n) s = .next (s.written p w .ok fun b =>
          ((b.onImage k fun x => { x with role := .pending }).writeRecord).beginStart 5).rests) ∧
      (s.power.state ≠ .standby → exec (.activateNow p w t n) s = .next (s.written p w .state id))) ∧
    (∀ q, s.inRole false .trial = some q →
      exec (.confirmFirmware p w) s = .next (s.written p w .ok fun b =>
        (((b.onImage (b.activeSlot false) fun x => { x with role := .none }).onImage q fun x =>
          { x with role := .active }).onBoot fun x =>
            { x with fwTrial := false
                     otp := { x.otp with fwsec := max x.otp.fwsec (min 63 (s.image q).secver) } }).addJob .bootRecord)) ∧
    (∀ q, s.inRole true .trial = some q →
      exec (.confirmPlate p w) s = .next (s.written p w .ok fun b =>
        (((b.onImage (b.activeSlot true) fun x => { x with role := .none }).onImage q fun x =>
          { x with role := .active }).onBoot fun x =>
            { x with plTrial := false
                     otp := { x.otp with plsec := max x.otp.plsec (min 63 (s.image q).secver) } }).addJob .bootRecord)) ∧
    (s.inRole false .trial = none → exec (.confirmFirmware p w) s = .next (s.written p w .state id)) ∧
    (s.inRole true .trial = none → exec (.confirmPlate p w) s = .next (s.written p w .state id))

/-- BOT_KEY_CMD in FACTORY programs plate key slot 2 or 3 once from BOT_KEY_DATA, or revokes it; outside FACTORY it
answers LIFECYCLE (R553). BOT_BIST_CTL.GO in STANDBY, without an open session or a write of the flash, starts the
self-tests of the named groups, and while they run a write of it changes the group field only (R550). BOT_CUST_CMD
starts an operation at an aligned address below 4 MiB (R552). Choices of the model it rests on: log 62. -/
def Obligations.KeysTestsCustomerArea : Prop :=
  ∀ (s : State) (p : Port) (w : Path) (k : Nat), s.Inv →
    let b := s.begun p w
    (s.answers .botKeyCmd 0 → s.boot.otp.lc = 1 → 2 ≤ k → k < 4 →
      (s.boot.otp.keys.getD k none = none →
        exec (.keyProgram p w k) s = .next (s.written p w .ok fun b =>
          b.onBoot fun x => { x with otp := { x.otp with
            keys := modifyAt (fun _ => some (b.wideReg .botKeyData 0 8, b.wideReg .botKeyData 8 8)) k x.otp.keys } })) ∧
      exec (.keyRevoke p w k) s = .next (s.written p w .ok fun b =>
        b.onBoot fun x => { x with otp := { x.otp with revoked := x.otp.revoked ||| ((1 : BitVec 4) <<< k) } })) ∧
    (s.controlOn = true → s.quiet → s.boot.otp.lc ≠ 1 →
      exec (.keyProgram p w k) s = .next (s.written p w .lifecycle id) ∧
      exec (.keyRevoke p w k) s = .next (s.written p w .lifecycle id)) ∧
    (s.answers .botBistCtl 0 → s.boot.bist = none → s.power.cpuHalt = false → s.power.state = .standby → 0 < k →
      k < 256 → s.boot.sessionFw = none → s.boot.sessionPl = none → s.flashBusy = false →
      exec (.bistGo p w k) s = .next (s.written p w .ok fun b =>
        let c := (List.range 8).foldl (fun t i => t.wr .botBistSig 0 i) ((b.wr .botBistCtl (word k)).wr .botBistRes 0)
        let d := c.onBoot fun x => { x with bist := some (BitVec.ofNat 8 k) }
        let e := if k.testBit 3 then d.phyOff .A else d
        if k.testBit 4 then e.phyOff .B else e).rests) ∧
    (s.answers .botBistCtl 0 → s.boot.bist.isSome → 0 < k → k < 256 →
      exec (.bistGo p w k) s = .next (s.written p w .ok (·.wr .botBistCtl (word k)))) ∧
    (s.answers .botCustCmd 0 → (b.rd .botCustAddr).toNat % 4096 = 0 → (b.rd .botCustAddr).toNat < 0x400000 →
      s.power.cpuHalt = false → s.boot.cust = none →
      let begins (op : CustOp) (b : State) : State :=
        (b.onBoot fun x => { x with cust := some op, custAt := (b.rd .botCustAddr).toNat }).wr .botCustStat 0
      exec (.custRead p w) s = .next (s.written p w .ok (begins .read)) ∧
      (s.owner 2 = some p →
        exec (.custErase p w) s = .next (s.written p w .ok (begins .erase)) ∧
        exec (.custProgram p w) s = .next (s.written p w .ok (begins .program))) ∧
      (s.owner 2 = some (otherPort p) →
        exec (.custErase p w) s = .next (s.written p w .semHeld id) ∧
        exec (.custProgram p w) s = .next (s.written p w .semHeld id)))

/-- CAL_CMD and CAL_CTRL by the holder of CAL: SAVE_NOW asks for a write of the trim image (R418), RELOAD in STANDBY
reads the storeroom again and answers STATE elsewhere (R385), and a region that CAL_CTRL no longer enables ends its
round after its step (R407); without CAL they are refused, with SEM_HELD while the other port holds it and with STATE
while no port does (R286). Choices of the model it rests on: log 37, 38. -/
def Obligations.CalibrationRegisters : Prop :=
  ∀ (s : State) (p : Port) (w : Path) (v : Word), s.Inv →
    (s.answers .calCmd 0 → s.owner 3 = some p →
      exec (.saveNow p w) s = .next (s.written p w .ok (·.addJob .trims)) ∧
      (s.power.state = .standby →
        exec (.reload p w) s = .next (s.written p w .ok fun b => b.onCal fun c => { c with loading := true })) ∧
      (s.power.state ≠ .standby → exec (.reload p w) s = .next (s.written p w .state id))) ∧
    (s.answers .calCtrl 0 → s.owner 3 = some p →
      exec (.calCtrlWrite p w v) s = .next (s.written p w .ok fun b =>
        (List.range 16).foldl (fun t g =>
          if t.calEnabled g || !(t.region g).running then t
          else if (t.region g).stepOn then t.onRegion g fun r => { r with ending := true }
          else t.calOff g) (b.wr .calCtrl (v &&& 0xFFFF0001))).rests) ∧
    (s.owner 3 = some (otherPort p) →
      (s.answers .calCmd 0 →
        exec (.saveNow p w) s = .next (s.written p w .semHeld id) ∧
        exec (.reload p w) s = .next (s.written p w .semHeld id)) ∧
      (s.answers .calCtrl 0 → exec (.calCtrlWrite p w v) s = .next (s.written p w .semHeld id))) ∧
    (s.owner 3 = none →
      (s.answers .calCmd 0 →
        exec (.saveNow p w) s = .next (s.written p w .state id) ∧
        exec (.reload p w) s = .next (s.written p w .state id)) ∧
      (s.answers .calCtrl 0 → exec (.calCtrlWrite p w v) s = .next (s.written p w .state id)))

/-- An accepted write of CHK_CFG sets the algorithm, loads its initial value and clears the count, whatever the
algorithm was (R557), but for what hardware has updated in the same CK_FAB cycle (R22), and CHK_DATA8, CHK_DATA16 and
CHK_DATA32 feed 1, 2 and 4 bytes, the lowest first (R559). -/
def Obligations.CheckUnitWrites : Prop :=
  ∀ (s : State) (p : Port) (w : Path) (u : Nat) (v : Word), s.Inv → u < 4 → s.chkBusy u = false →
    let feeds (n : Nat) (b : State) : State :=
      ((b.wr .chkState (crcFeed (b.chkAlg u) (b.rd .chkState u) ((bytesOfWord v).take n)) u).count .chkCount 0 32 n u).pmc
        0x48 n
    (s.answers .chkCfg u →
      exec (.chkCfgWrite p w u v) s = .next (s.written p w .ok fun b =>
        ((b.wr .chkCfg (v &&& 3) u).swWr .A .chkState (crcInit (field v 0 2)) u).swWr .A .chkCount 0 u)) ∧
    (s.answers .chkData8 u → exec (.chkData8 p w u v) s = .next (s.written p w .ok (feeds 1))) ∧
    (s.answers .chkData16 u → exec (.chkData16 p w u v) s = .next (s.written p w .ok (feeds 2))) ∧
    (s.answers .chkData32 u → exec (.chkData32 p w u v) s = .next (s.written p w .ok (feeds 4)))

/-- Check-value units: CHK_STATE loads a running value that fits the algorithm (R558), and GO starts a scan, which at
length 0 ends at once (R561, R562). While a scan of the unit runs, writes answer BUSY (R563), GO too. A scan feeds the
bytes that are left to it, and an uncorrectable word among them restores the unit and is reported (R564, R565; how far
a scan has come before its end, and that it does not end in the CK_FAB cycle of a GO that was refused, are choices of
the model, log 13, 80); the end of a scan that does not run changes nothing (log 9). Performance counters: a stopped
counter is written and a counting one answers STATE (R569); PMC_SEL chooses an event, and CHAIN in PMC_SEL0 answers
STATE (R567); each first counts what running passes and scans have done (log 13, 18). A write of PMC_SMP_CFG starts
the interval again and, from EN 0 to 1, empties the buffer (R574, R576). Choices of the model it rests on: log 9, 13,
15, 18, 79, 80. -/
def Obligations.ChecksAndCounters : Prop :=
  (∀ (s : State) (p : Port) (w : Path) (u : Nat) (v : Word), s.Inv → u < 4 →
    let b := s.begun p w
    (s.chkBusy u = false → s.answers .chkState u → v.toNat < 2 ^ crcWidth (b.chkAlg u) →
      exec (.chkStateWrite p w u v) s = .next (s.written p w .ok (·.swWr .A .chkState v u))) ∧
    (s.chkBusy u = true →
      (s.answers .chkCfg u → exec (.chkCfgWrite p w u v) s = .next (s.written p w .busy id)) ∧
      (s.answers .chkData8 u → exec (.chkData8 p w u v) s = .next (s.written p w .busy id)) ∧
      (s.answers .chkData16 u → exec (.chkData16 p w u v) s = .next (s.written p w .busy id)) ∧
      (s.answers .chkData32 u → exec (.chkData32 p w u v) s = .next (s.written p w .busy id))) ∧
    (s.answers .chkState u → 2 ^ crcWidth (b.chkAlg u) ≤ v.toNat →
      exec (.chkStateWrite p w u v) s = .next (s.written p w .state id)) ∧
    (s.answers .chkScanCtl u → s.boot.plate.isSome →
      b.scanRefusal u (b.rd .chkScanAddr u).toNat (b.fld .chkScanLen 0 24 u) = some .busy →
      exec (.chkScanGo p w u) s = .next (s.written p w .busy (·.noteOne (Reg.chkScanCtl.key .A u 0)))) ∧
    (s.answers .chkScanCtl u → s.boot.plate.isSome →
      b.scanRefusal u (b.rd .chkScanAddr u).toNat (b.fld .chkScanLen 0 24 u) = none →
      (b.fld .chkScanLen 0 24 u = 0 →
        exec (.chkScanGo p w u) s = .next (s.written p w .ok (·.setFld .chkStatus 1 2 1 u))) ∧
      (b.fld .chkScanLen 0 24 u ≠ 0 →
        exec (.chkScanGo p w u) s = .next (s.written p w .ok fun b =>
          { b with scans := modifyAt (fun _ => some { addr := (b.rd .chkScanAddr u).toNat, left := b.fld .chkScanLen 0 24 u
                                                      saved := b.rd .chkState u, savedCount := b.rd .chkCount u }) u
                              b.scans })))) ∧
  (∀ (s : State) (p : Port) (w : Path) (k : Nat) (v : Word), s.Inv → k < 32 →
    let b := s.begun p w
    let a := b.countsNow
    (s.answers .pmcCnt k →
      (bit (a.rd .pmcSel k) 9 = false →
        exec (.pmcCntWrite p w k v) s = .next ((a.wr .pmcCnt v k).ended p w .ok).rests) ∧
      (bit (a.rd .pmcSel k) 9 = true → exec (.pmcCntWrite p w k v) s = .next (a.ended p w .state).rests)) ∧
    (s.answers .pmcSel k → Reg.legal .pmcSel v = true →
      (¬(k = 0 ∧ bit v 8 = true) →
        exec (.pmcSelWrite p w k v) s = .next ((a.wr .pmcSel (v &&& 0x3FF) k).ended p w .ok).rests) ∧
      (k = 0 → bit v 8 = true → exec (.pmcSelWrite p w k v) s = .next (a.ended p w .state).rests)) ∧
    (s.answers .pmcSmpCfg 0 →
      ((bit v 0 = false ∨ bit (b.rd .pmcSmpCfg) 0 = true) →
        exec (.pmcSmpCfgWrite p w v) s = .next (s.written p w .ok fun b =>
          { b.wr .pmcSmpCfg (v &&& 0xFFFF7F1F) with sampler := { b.sampler with tally := 0 } })) ∧
      (bit v 0 = true → bit (b.rd .pmcSmpCfg) 0 = false →
        exec (.pmcSmpCfgWrite p w v) s = .next (s.written p w .ok fun b =>
          State.setFld { b.wr .pmcSmpCfg (v &&& 0xFFFF7F1F) with
            sampler := { b.sampler with tally := 0, held := [] } } .pmcSmpStatus 0 1 0)))) ∧
  (∀ (s : State) (u : Nat), s.Inv → u < 4 →
    (s.chkScan u = none → exec (.chkScanEnd u) s = .next s) ∧
    (∀ x, s.chkScan u = some x →
      let t := (if s.wroteOne (Reg.chkScanCtl.key .A u 0) then s.advance ((s.fab + 1) * fabCycle) else s).setScan u none
      let b := t.chkFeed u (memBytes s.mem x.addr (s.cleanBytes x.addr x.left))
      let shows (c : State) : State := (c.hwWr .chkState (c.rd .chkState u) u).hwWr .chkCount (c.rd .chkCount u) u
      (s.eccHit x.addr x.left = false → s.cleanBytes x.addr x.left = x.left ∧
        exec (.chkScanEnd u) s = .next (shows (b.setFld .chkStatus 1 2 1 u))) ∧
      (s.eccHit x.addr x.left = true → exec (.chkScanEnd u) s = .next (State.rests (shows
        ((((b.wr .chkState x.saved u).wr .chkCount x.savedCount u).setFld .chkStatus 1 2 2 u).report
          (if x.addr < cellarBase then 0x22 else 0x24)))))))

/-- Registers of a serial link `q`: RETRAIN takes an enabled link that is not DISABLED back to TRAIN, from UP with
cause 6 (R314, R318, R323); EN disables it, or lets it train while no loopback is set (R314, R331); a rejoin checks
the named PARKED lanes of a link that is UP and answers STATE elsewhere (R325); loopback and pattern settings are
taken while the link is disabled, a lane whose CHK bit is 0 ends its run, and CLR clears the error counts (R331,
R332). Choices of the model it rests on: log 25, 106. -/
def Obligations.LinkRegisters : Prop :=
  ∀ (s : State) (p : Port) (w : Path) (q : Port) (v : Word), s.Inv →
    let b := s.begun p w
    let ix := portIx q
    let ctl := b.rd .lnkCtrl ix
    (s.answers .lnkCtrl ix → Reg.legal .lnkCtrl ctl = true → ctl &&& 0x1773 = ctl →
      (bit ctl 0 = true → (s.link q).state = .up →
        exec (.retrain p w q) s = .next (s.written p w .ok fun b => (b.wr .lnkCtrl (setField ctl 1 1 1) ix).linkDown q 6).rests) ∧
      (bit ctl 0 = true → (s.link q).state ≠ .up → (s.link q).state ≠ .disabled →
        exec (.retrain p w q) s = .next (s.written p w .ok fun b =>
          ((b.wr .lnkCtrl (setField ctl 1 1 1) ix).onLink q fun l => { l with failed := 0 }).enterTrain q false).rests) ∧
      (bit ctl 0 = true →
        exec (.linkEnWrite p w q false) s = .next (s.written p w .ok fun b =>
          (b.wr .lnkCtrl (setField (setField ctl 0 1 0) 1 1 (boolNat (bit ctl 1))) ix).linkOff q 6).rests) ∧
      (bit ctl 0 = false → field (b.rd .lnkLoop ix) 0 2 = 0 →
        exec (.linkEnWrite p w q true) s = .next (s.written p w .ok fun b =>
          ((b.wr .lnkCtrl (setField (setField ctl 0 1 1) 1 1 (boolNat (bit ctl 1))) ix).onLink q fun l =>
            { l with failed := 0 }).linkOn q).rests) ∧
      (bit ctl 0 = false → field (b.rd .lnkLoop ix) 0 2 ≠ 0 →
        exec (.linkEnWrite p w q true) s = .next (s.written p w .state id)) ∧
      (bit ctl 1 = false →
        exec (.linkEnWrite p w q (bit ctl 0)) s = .next (s.written p w .ok (·.wr .lnkCtrl ctl ix)))) ∧
    (s.answers .lnkRejoin ix →
      ((s.link q).state = .up →
        exec (.lnkRejoinWrite p w q v) s = .next (s.written p w .ok fun b =>
          b.startCheck q ((List.range 4).filter fun k =>
            bit v k && decide (((s.link q).lanes.getD k {}).role = .parked)))) ∧
      ((s.link q).state ≠ .up → exec (.lnkRejoinWrite p w q v) s = .next (s.written p w .state id))) ∧
    (bit ctl 0 = false →
      (s.answers .lnkLoop ix →
        exec (.lnkLoopWrite p w q false v) s = .next (s.written p w .ok (·.wr .lnkLoop (v &&& 0x1F) ix))) ∧
      (s.answers .lnkPrbs ix →
        exec (.lnkLoopWrite p w q true v) s = .next (s.written p w .ok fun b =>
          let x := v &&& 0x13F1
          let c := (b.wr .lnkPrbs (setField x 12 1 0) ix).onLanes q fun k y =>
            if bit x (4 + k) then y else { y with checking := false, bits := [], streak := 0 }
          if bit x 12 then (List.range 4).foldl (fun t k => t.wr .lnkPrbsErr 0 ix k) c else c) ∧
        exec (.prbsClr p w q) s = .next (s.written p w .ok fun b =>
          let x := (b.rd .lnkPrbs ix ||| 0x1000) &&& 0x13F1
          (List.range 4).foldl (fun t k => t.wr .lnkPrbsErr 0 ix k)
            ((b.wr .lnkPrbs (setField x 12 1 0) ix).onLanes q fun k y =>
              if bit x (4 + k) then y else { y with checking := false, bits := [], streak := 0 })))) ∧
    (bit ctl 0 = true →
      (s.answers .lnkLoop ix → exec (.lnkLoopWrite p w q false v) s = .next (s.written p w .state id)) ∧
      (s.answers .lnkPrbs ix →
        exec (.lnkLoopWrite p w q true v) s = .next (s.written p w .state id) ∧
        exec (.prbsClr p w q) s = .next (s.written p w .state id)))

/-! ## Register access and link commands -/

/-- A register write by kind of access (R16): a plain register takes the value without its reserved bits, and refuses
a reserved encoding with STATE (R17, R18); a read-only one is left alone; a write of 1 clears bits of a W1C one; a
locked RWL one answers STATE. Bits that hardware updates, or sets, in the CK_FAB cycle of the write stay as hardware
leaves them (R19, R22). A block that does not answer gives BLOCK_OFF, which counts (R289), and an address outside
every block ADDR_RANGE. Choices of the model it rests on: log 79. -/
def Obligations.RegisterWrites : Prop :=
  ∀ (s : State) (p : Port) (w : Path) (r : Reg) (k j : Nat) (v : Word), s.Inv → s.controlOn = true → s.quiet →
    k < r.row.count → j < r.row.each →
    (s.answers r k →
      (r ∈ plainRegs → r.legal v = true →
        exec (.registerWrite p w (r.addr k j) v) s = .next (s.written p w .ok (·.swWr p r (v &&& r.row.mask) k j))) ∧
      (r ∈ plainRegs → r.legal v = false →
        exec (.registerWrite p w (r.addr k j) v) s = .next (s.written p w .state id)) ∧
      (r.row.acc = .ro → exec (.registerWrite p w (r.addr k j) v) s = .next (s.written p w .ok id)) ∧
      (r.row.acc = .w1c →
        exec (.registerWrite p w (r.addr k j) v) s = .next (s.written p w .ok fun b =>
          let c := if r = .adcEvent then b.syncGroup b.now else if r = .pmcOvf then b.countsNow else b
          c.wrp p r (c.rdp p r k j &&& ~~~(v &&& ~~~c.flagsNow (r.key p k j))) k j).rests) ∧
      (r = .botCustBuf →
        exec (.registerWrite p w (r.addr k j) v) s = .next (s.written p w .ok fun b =>
          (b.swWr p r v k).onBoot fun x => { x with custBad := false })) ∧
      (r ∈ [.scnDiagVth, .safInCfg, .safTestCfg, .safFaCfg, .safHbCfg] →
        (s.locked r = true → exec (.registerWrite p w (r.addr k j) v) s = .next (s.written p w .state id)) ∧
        (s.locked r = false → r.legal v = true →
          exec (.registerWrite p w (r.addr k j) v) s = .next (s.written p w .ok fun b =>
            if r = .safTestCfg then (b.wr r (v &&& r.row.mask)).takeTestCfg
            else b.swWr p r (v &&& r.row.mask) k j)))) ∧
    ((s.begun p w).blockOn r.row.blk (some r) k = false → s.earlyRefusal r k v = none → r ≠ .chkScanCtl →
      exec (.registerWrite p w (r.addr k j) v) s = .next (s.written p w .blockOff (·.blockOff p))) ∧
    (∀ a, place a = .nowhere → exec (.registerWrite p w a v) s = .next (s.written p w .addrRange id))

/-- A read of the low half of a 64-bit value answers bits 31:0 and captures bits 63:32 for the port, and a read of the
high half answers what the port captured (R624). A read of a performance counter answers its value at the end of the
CK_FAB cycle, with what running passes and scans have done by then (log 13, 18), and captures the counters chained
above it, and a chained counter answers what was captured (R571, R572). Choices of the model it rests on: log 13, 14,
18. -/
def Obligations.CapturingReads : Prop :=
  ∀ (s : State) (p : Port) (w : Path), s.Inv →
    let b := s.begun p w
    (∀ (r hi : Reg), r.highHalf = some hi →
      (s.answers r 0 →
        exec (.loHalfRead p w (r.addr 0 0)) s =
          .next (State.readEnded (b.setShadow p (hi.addr 0 0) (word (b.wide p r / 2 ^ 32))) p w .ok (word (b.wide p r)))) ∧
      (s.answers hi 0 →
        exec (.loHalfRead p w (hi.addr 0 0)) s = .next (b.readEnded p w .ok (b.shadow p (hi.addr 0 0))))) ∧
    let c := b.countsNow
    (∀ k, k < 32 → s.answers .pmcCnt k →
      (c.chained k = false →
        exec (.chainRead p w k) s =
          .next (State.readEnded (copyChain c.cycleEnd p 32 (k + 1) c) p w .ok (c.cycleEnd.rd .pmcCnt k)).rests) ∧
      (c.chained k = true →
        exec (.chainRead p w k) s = .next (c.readEnded p w .ok (c.shadow p (Reg.addr .pmcCnt k 0))).rests))

/-- The management bus (R280 to R283): after a START with the bus's own address and an address phase, a group of a
write transaction is one write request and a word of a read transaction one read request, and each goes on 4 further;
a START for another address is left alone, a read without an address phase in its transaction is not acknowledged, and
groups and words without either do nothing. Once the guardian has withheld an acknowledge, the rest of that
transaction is not taken, and the next START is (R474). A STOP ends the transaction, and one that cuts a group short,
the first or a later one, shows LEN_RANGE in HPT_MB_STATUS; every transaction is activity of its port (R277). Choices
of the model it rests on: log 55. -/
def Obligations.ManagementBus : Prop :=
  ∀ (s : State) (p : Port) (r : Reg) (k j : Nat) (v : Word), s.Inv →
    let a := r.addr k j
    let own : BusHead := { target := s.busAddress, addr := some a }
    let begins := s.busHead p own
    let ends (t : State) : State := t.onPort p fun x => { x with busNack := false, busPtr := none }
    (s.busOn = true → r ∈ plainRegs → k < r.row.count → j < r.row.each →
      (begins.answers r k →
        (r.legal v = true →
          exec (.mbWriteGroup p (some own) v) s =
            .next ((begins.written p .bus .ok (·.swWr p r (v &&& r.row.mask) k j)).busNext p a)) ∧
        exec (.mbReadWord p (some own)) s =
          .next (((begins.begun p .bus).readEnded p .bus .ok ((begins.begun p .bus).rdp p r k j)).busNext p a)) ∧
      (s.answers r k → (s.port p).busNack = false → (s.port p).busPtr = some a →
        (r.legal v = true →
          exec (.mbWriteGroup p none v) s =
            .next ((s.written p .bus .ok (·.swWr p r (v &&& r.row.mask) k j)).busNext p a)) ∧
        exec (.mbReadWord p none) s =
          .next (((s.begun p .bus).readEnded p .bus .ok ((s.begun p .bus).rdp p r k j)).busNext p a))) ∧
    (s.busOn = true →
      (∀ h : BusHead, h.target ≠ s.busAddress →
        exec (.mbWriteGroup p (some h) v) s = .next (ends s) ∧ exec (.mbReadWord p (some h)) s = .next (ends s) ∧
        ∀ cut, exec (.mbStop p ⟨some h, cut⟩) s = .next (ends s)) ∧
      ((s.port p).busPtr = none →
        ((s.port p).busNack = false →
          exec (.mbWriteGroup p none v) s = .next s ∧ exec (.mbReadWord p none) s = .next s) ∧
        exec (.mbReadWord p (some { target := s.busAddress, addr := none })) s =
          .next ((s.busActive p).onPort p fun x => { x with busNack := false, busRefused := true, busPtr := none }) ∧
        ∀ cut, exec (.mbStop p ⟨none, cut⟩) s = .next (ends s)) ∧
      ((s.port p).busPtr.isSome →
        exec (.mbStop p ⟨none, false⟩) s = .next (ends (s.busActive p)) ∧
        exec (.mbStop p ⟨none, true⟩) s = .next (ends ((s.busActive p).writeAnswered p .bus .lenRange))) ∧
      exec (.mbStop p ⟨some own, false⟩) s = .next (ends begins) ∧
      exec (.mbStop p ⟨some own, true⟩) s = .next (ends (begins.writeAnswered p .bus .lenRange))) ∧
    ((s.port p).busNack = true →
      exec (.mbWriteGroup p none v) s = .next (ends s) ∧ exec (.mbReadWord p none) s = .next (ends s)) ∧
    (s.busOn = false →
      (∀ head, (s.port p).busNack = false ∨ head.isSome →
        exec (.mbWriteGroup p head v) s = .next s ∧ exec (.mbReadWord p head) s = .next s) ∧
      ∀ head cut, exec (.mbStop p ⟨head, cut⟩) s = .next (ends s))

/-- NOP does nothing but complete; ECHO answers its payload, and one of more than 254 words is refused with LEN_RANGE
(R263, R266). REG_WRITE, REG_READ and REG_RMW of one plain register: the value is stored without its reserved bits,
read, or changed under the mask, and the completion's VALUE is the number of words written, of words read, and the
value before the write (R266, R267, R268, R269), also where the write alone is refused, which is an inference from the
VALUE column of R266 (log 53). A reserved encoding stores nothing (R17, R18), and bits that hardware updates in the
same CK_FAB cycle keep its value (R22). Choices of the model it rests on: log 11, 43, 53. -/
def Obligations.PlainCommands : Prop :=
  (∀ (s : State) (h : CmdHead) (l : List Word) (c : Served) (b : State), s.Inv →
    (s.offers 0x00 h l c b → exec (.nop h l) s = .next (b.completed c (blockCycles l.length) .ok 0 [])) ∧
    (s.offers 0x08 h l c b →
      (l.length ≤ 254 →
        exec (.echo h l) s = .next (b.completed c (blockCycles l.length) .ok (word l.length) l)) ∧
      (254 < l.length →
        exec (.echo h l) s = .next (b.completed c (blockCycles l.length) .lenRange 0 [])))) ∧
  (∀ (s : State) (h : CmdHead) (c : Served) (b : State) (r : Reg) (k j : Nat) (m v : Word), s.Inv → r ∈ plainRegs →
    k < r.row.count → j < r.row.each → b.blockOn r.row.blk (some r) k = true →
    let a := word (r.addr k j)
    let p := h.port
    let new := (b.rdp p r k j &&& ~~~m) ||| (v &&& m)
    (s.offers 0x01 h [a, v] c b →
      (r.legal v = true → exec (.regWrite h [a, v]) s =
        .next (State.completed (b.swWr p r (v &&& r.row.mask) k j) c 1 .ok 1 [])) ∧
      (r.legal v = false → exec (.regWrite h [a, v]) s = .next (b.completed c 1 .state 0 []))) ∧
    (s.offers 0x02 h [a, 1] c b →
      exec (.regRead h [a, 1]) s = .next (b.completed c 1 .ok 1 [b.rdp p r k j])) ∧
    (s.offers 0x03 h [a, m, v] c b →
      (r.legal new = true → exec (.regRmw h [a, m, v]) s =
        .next (State.completed (b.swWr p r (new &&& r.row.mask) k j) c 1 .ok (b.rdp p r k j) [])) ∧
      (r.legal new = false → exec (.regRmw h [a, m, v]) s = .next (b.completed c 1 .state (b.rdp p r k j) []))))

/-- A LAYER_WRITE that no code of R25 refuses stores its words in the memory slot, from byte `off` of it upward, and
nothing else in memory changes; a FREE slot becomes FILLING, and an incomplete mark clears (R212, R270, R279). Here no
8-byte word with an uncorrectable error is covered in part (R629). A running scan of bytes that it stores first feeds
those that it has come to (R564, log 13). Choices of the model it rests on: log 11, 13, 43, 78. -/
def Obligations.LayerWrites : Prop :=
  ∀ (s : State) (h : CmdHead) (k off : Word) (ws : List Word) (c : Served) (b : State), s.Inv → ws ≠ [] →
    s.offers 0x10 h (k :: off :: ws) c b → b.blockOn .lyr none 0 = true →
    let n := field k 0 6
    let a := s.slotBase n + off.toNat
    s.slotWriteRefusal h.port n off.toNat (4 * ws.length) = none →
    (∀ e ∈ s.ecc, e + 8 ≤ a ∨ a + 4 * ws.length ≤ e ∨ (a ≤ e ∧ e + 8 ≤ a + 4 * ws.length)) →
      ∃ u : State, exec (.layerWrite h (k :: off :: ws)) s =
          .next (u.completed c (blockCycles (ws.length + 2)) .ok (word ws.length) []) ∧
        (∀ i, i < ws.length → memWord u.mem (a + 4 * i) = ws.getD i 0) ∧
        (∀ i, i < a ∨ a + 4 * ws.length ≤ i → memByte u.mem i = memByte s.mem i) ∧
        (∀ e, e ∈ u.ecc ↔ e ∈ s.ecc ∧ ¬ (a ≤ e ∧ e + 8 ≤ a + 4 * ws.length)) ∧
        u.comp = { s.comp with slots := modifyAt (fun x =>
          { x with mode := if x.mode = .free then .filling else x.mode, incomplete := false }) n s.comp.slots } ∧
        u = { b with regs := u.regs, mem := u.mem, ecc := u.ecc, comp := u.comp, writing := some n, scans := u.scans
                     free := u.free } ∧
        (∀ i, i < 4 → (∀ x, s.chkScan i = some x → x.addr + x.left ≤ a ∨ a + 4 * ws.length ≤ x.addr) →
          u.chkScan i = s.chkScan i ∧ u.rd .chkState i = b.rd .chkState i ∧ u.rd .chkCount i = b.rd .chkCount i) ∧
        SameRegs ((List.range 4).flatMap fun i => [Reg.key .chkState .A i 0, Reg.key .chkCount .A i 0]) b u

/-- A LAYER_WRITE, a REG_WRITE into the bulk window or a NOP with more than 1,024 payload words is streamed: its
header and fixed words begin it, and a FREE slot becomes FILLING; each block of 16 words is stored as it is served,
and nothing else in memory changes where no word of the block lies in one with an uncorrectable error (R629); the last
one completes it and clears the incomplete mark, and until then a write to the slot is in progress (R212, R216, R274,
R276, R279). The words of a NOP, and those of a refused command, are discarded (R265). Choices of the model it rests
on: log 11, 42, 43, 78, 111. -/
def Obligations.StreamedWrites : Prop :=
  ∀ (s : State) (h : CmdHead) (k off : Word), s.Inv →
    let begun (row : CmdHead → List Word → Instr) (ws : List Word) (t : State) (y : Stream) : Prop :=
      exec (row h ws) s = .next (t.onPort h.port fun x => { x with stream := some y })
    let opens (u : State) (n : Nat) : Prop :=
      (u.turn.slotTouched n).slot n =
        { s.slot n with mode := if (s.slot n).mode = .free then .filling else (s.slot n).mode }
    let ended (p : Port) (x : Stream) (t : State) (st : Status) (value : Nat) : State :=
      State.complete (t.onPort p fun z => { z with stream := none })
        { port := p, opcode := x.opcode, tag := x.tag, len := x.len, qpos := x.qpos, arrived := x.arrived
          streamed := true } st (word value) []
    (1024 < h.len → h.len < 65536 → s.mayServe h.port 2 = true → s.ready (otherPort h.port) = false →
      s.slotWriteRefusal h.port (field k 0 6) off.toNat (4 * (h.len - 2)) = none →
      ∀ q t u, (s.retie h.port).takeFront h.port [headWord 0x10 h, k, off] = some (q, t, u) → u.turn.blockOn .lyr none 0 = true →
        let y : Stream :=
          { opcode := 0x10 + 128 * boolNat h.quiet, tag := h.tag, quiet := h.quiet, len := h.len
            kind := .layer (field k 0 6) off.toNat, named := some (field k 0 6), remain := h.len - 2, served := 0, refused := none, qpos := q
            arrived := t }
        begun .layerWrite [k, off] (u.turn.slotTouched (field k 0 6)) y ∧ opens u (field k 0 6)) ∧
    (∀ a : Word, 1024 < h.len → h.len < 65536 → s.mayServe h.port 2 = true → s.ready (otherPort h.port) = false →
      ∀ q t u, (s.retie h.port).takeFront h.port [headWord 0x01 h, a] = some (q, t, u) →
      ∀ o n, runPlace a.toNat = .window o → u.turn.bulkRefusal o = none → u.turn.slotAt o = some n →
        u.turn.windowRefusal h.port n o (4 * (h.len - 1)) = none →
        let y : Stream :=
          { opcode := 0x01 + 128 * boolNat h.quiet, tag := h.tag, quiet := h.quiet, len := h.len
            kind := .window n (bulkBase + o - s.slotBase n), named := some n, remain := h.len - 1, served := 0, refused := none
            qpos := q, arrived := t }
        begun .regWrite [a] (u.turn.slotTouched n) y ∧ opens u n) ∧
    (1024 < h.len → h.len < 65536 → s.mayServe h.port 2 = true → s.ready (otherPort h.port) = false →
      ∀ q t u, (s.retie h.port).takeFront h.port [headWord 0x00 h] = some (q, t, u) →
        let y : Stream :=
          { opcode := 128 * boolNat h.quiet, tag := h.tag, quiet := h.quiet, len := h.len, kind := .nop, remain := h.len
            served := 0, refused := none, qpos := q, arrived := t }
        begun .nop [] u.turn y) ∧
    (∀ (p : Port) (ws : List Word) (x : Stream) (n o : Nat) (window : Bool), s.controlOn = true → (s.port p).stream = some x →
      s.ready (otherPort p) = false → x.refused = none → x.kind = (if window then .window n o else .layer n o) → ws ≠ [] →
      ws.length = min 16 x.remain → ∀ q t u, (s.retie p).takeFront p ws = some (q, t, u) →
        let at_ := o + 4 * ws.length
        let y : Stream :=
          { x with remain := x.remain - ws.length, served := x.served + ws.length
                   kind := if window then .window n at_ else .layer n at_ }
        let b := (((u.turn.takes p).slotStore n o ws x.served (x.remain - ws.length)).onPort p fun z =>
          { z with stream := some y }).requestServed (if window then ws.length else 1)
        let a := s.slotBase n + o
        (16 < x.remain → exec (.streamBlock p ws) s = .next b.rests ∧ b.slotWriting n = true) ∧
        (x.remain ≤ 16 → exec (.streamBlock p ws) s =
          .next (ended p x (b.slotWritten n) .ok (x.served + ws.length)).rests) ∧
        (∀ i, i < ws.length → memWord b.mem (a + 4 * i) = ws.getD i 0) ∧
        ((∀ e ∈ s.ecc, e + 8 ≤ a ∨ a + 4 * ws.length ≤ e) →
          b.ecc = s.ecc ∧ ∀ i, i < a ∨ a + 4 * ws.length ≤ i → memByte b.mem i = memByte s.mem i) ∧
        b.comp = s.comp ∧ (b.slotWritten n).slot n = { s.slot n with incomplete := false }) ∧
    (∀ (p : Port) (ws : List Word) (x : Stream), s.controlOn = true → (s.port p).stream = some x →
      s.ready (otherPort p) = false → x.kind = .nop → ws ≠ [] → ws.length = min 16 x.remain →
      ∀ q t u, (s.retie p).takeFront p ws = some (q, t, u) →
        let done := if x.refused.isSome then x.served else 0
        let b := State.requestServed ((u.turn.takes p).onPort p fun z =>
          { z with stream := some { x with remain := x.remain - ws.length, served := done } }) 1
        (16 < x.remain → exec (.streamBlock p ws) s = .next b) ∧
        (x.remain ≤ 16 → exec (.streamBlock p ws) s = .next (ended p x b (x.refused.getD .ok) done)))

/-- SLOT_CTRL, COMMIT, FENCE_SIGNAL, SEM_ACQUIRE and SEM_RELEASE act as a write of their payload word to LYR_SLOT_CMD,
CMP_COMMIT, CMP_FENCE_SIG, HPT_SEM_ACQ and HPT_SEM_REL (R159, R167, R211, R284): the effect and the status are those
of the write, and the completion's VALUE is the slot's state, the commit's sequence number, the fence's value and the
owner code after it. Choices of the model it rests on: log 11, 43, 53. -/
def Obligations.CommandsThatWrite : Prop :=
  ∀ (s : State) (h : CmdHead) (v : Word) (c : Served) (b : State), s.Inv →
    let write (r : Reg) := b.regWrite h.port (r.addr 0 0) v
    let ends (t : Status × State) (value : Word) : State := (t.2.completed c 1 t.1 value []).rests
    (s.offers 0x11 h [v] c b →
      let t := write .lyrSlotCmd
      exec (.slotCtrl h [v]) s = .next (ends t (word (slotCode (t.2.slot (field v 0 6)).mode)))) ∧
    (s.offers 0x18 h [v] c b →
      let t := write .cmpCommit
      exec (.commit h [v]) s = .next (ends t (if t.1 = .ok then t.2.rd .cmpCommitCnt else 0))) ∧
    (s.offers 0x19 h [v] c b →
      let t := write .cmpFenceSig
      exec (.fenceSignal h [v]) s = .next (ends t (if t.1 = .ok then t.2.rd .cmpFence (field v 0 4) else 0))) ∧
    (s.offers 0x20 h [v] c b →
      let t := write .hptSemAcq
      exec (.semAcquire h [v]) s = .next (ends t (word (ownerCode (t.2.owner (field v 0 4)))))) ∧
    (s.offers 0x21 h [v] c b →
      let t := write .hptSemRel
      exec (.semRelease h [v]) s = .next (ends t (word (ownerCode (t.2.owner (field v 0 4))))))

/-- A commit that passes the checks of R161 gets the next sequence number, its staged values are taken, it enters the
list of waiting commits and the results of its port (R159, R160, R170), and is READY at once when it belongs to no
group and its fence is met. A Seal commit is READY at once, supersedes an earlier one whose Seal layer is not applied,
and leaves HOLD, but for an entry to STANDBY; where it stages EN = 1, its content check value is the CRC-32C of the
Seal source rows (R176, R177, R178). A commit that fails a check changes nothing; an uncorrectable word in the Seal
content of one that fails with CRC_FAIL is reported (R503, log 26). Choices of the model it rests on: log 26. -/
def Obligations.CommitAcceptance : Prop :=
  ∀ (s : State) (p : Port) (w : Path) (v : Word) (pl : Plate), s.Inv → s.answers .cmpCommit 0 → s.boot.plate = some pl →
    let x := v &&& 0xFFFF1F7F
    let b := s.begun p w
    let seq := b.nextSeq
    let c := b.newCommit pl p x seq
    (b.commitRefusal p x = none → bit x 6 = false →
      exec (.cmpCommitWrite p w v) s = .next (s.written p w .ok fun b =>
        let d := (((b.wr .cmpCommitCnt (word seq)).wrp p .cmpClast (word seq)).pmc 0x08).onComp fun y =>
          { y with commits := y.commits ++ [c] }
        (d.setResults p (({ seq := seq, state := c.state, status := .ok } :: b.results p).take 16)).readyCommits) ∧
      c.seq = seq ∧ c.port = p ∧ c.layers = (namedLayers x).map (fun n => (n, b.stagedLayer p n)) ∧
      c.rects = (namedRects x).map (fun n => (n, b.stagedRect p n)) ∧ c.hasSeal = false ∧
      (c.state = .ready ↔ groupOf x = 0 ∧ b.fenceMet c = true)) ∧
    (b.commitRefusal p x = none → bit x 6 = true →
      let u := b.acceptCommit pl p x
      let v6 := b.stagedLayer p 6
      let old (d : Commit) : Prop := d ∈ s.comp.commits ∧ d.live = true ∧ d.hasSeal = true ∧ d.sealApplied = false ∧ d.seq ≠ seq
      exec (.cmpCommitWrite p w v) s = .next (u.ended p w .ok).rests ∧
      c.seq = seq ∧ c.port = p ∧ c.layers = (namedLayers x).map (fun n => (n, b.stagedLayer p n)) ∧
      c.rects = (namedRects x).map (fun n => (n, b.stagedRect p n)) ∧ c.hasSeal = true ∧ c.group = 0 ∧ c.fence = none ∧
      c.state = .ready ∧ c ∈ u.comp.commits ∧ u.rd .cmpCommitCnt = word seq ∧
      (u.results p).head? = some { seq := seq, state := .ready, status := .ok } ∧
      (v6.en = true → c.sealCrc = crc32c ((List.range v6.height).flatMap fun r =>
        memBytes s.mem (bulkBase + pageSize * (plateSlot pl v6.slotNo).1 + r * strideOf v6.width (bppOf (pl.fmt.getD 6 0)))
          ((v6.width * bppOf (pl.fmt.getD 6 0) + 7) / 8))) ∧
      (∀ d, old d → EndsAs u d .superseded) ∧
      (∀ d ∈ s.comp.commits, ¬ old d → (∀ e, old e → e.seq ≠ d.seq) →
        ∃ e ∈ u.comp.commits, e.seq = d.seq ∧ e.layers = d.layers ∧ e.sealApplied = d.sealApplied) ∧
      (s.power.state = .hold → s.power.trans = none → u.power = { s.power with state := .run, trans := none }) ∧
      (∀ t, s.power.state = .hold → s.power.trans = some t → t.target = .standby →
        u.power = { s.power with trans := some { t with leave := true } }) ∧
      (s.power.state ≠ .hold → u.power = s.power)) ∧
    (∀ st, b.commitRefusal p x = some st →
      exec (.cmpCommitWrite p w v) s = .next (s.written p w st (·.sealReport p st)).rests ∧
      (b.sealUe pl (b.stagedLayer p 6) = false → exec (.cmpCommitWrite p w v) s = .next (s.written p w st id)))

/-- An update of firmware or plate by the holder of UPDATE: UPDATE_BEGIN opens a session and erases the inactive slot
(R539), UPDATE_BLOCK takes new words into the program buffer (R540), and UPDATE_FINISH makes the image VALID where its
CRC-32C and its signature are right, and INVALID with CRC_FAIL or AUTH_FAIL otherwise (R541); an uncorrectable flash
error in it gives CRC_FAIL and source 0x2A (log 97). The slot then shows the version and the security version of its
header (R523, R553, R554), and 0 while it is WRITING (log 117). Choices of the model it rests on: log 11, 43, 50, 78,
97, 117. -/
def Obligations.UpdateCommands : Prop :=
  ∀ (s : State) (h : CmdHead) (t : Bool) (c : Served) (b : State), s.Inv → s.owner 2 = some h.port →
    let target := word (boolNat t)
    let k := s.inactiveSlot t
    let shows (st : ImageState) (x : ImageSlot) : ImageSlot :=
      { x with state := st, version := (s.header k).version, secver := (s.header k).secver }
    (∀ size : Word, s.offers 0x30 h [target, size] c b → s.power.cpuHalt = false → (t = true → s.boot.otp.lc ≠ 3) → 0x100 ≤ size.toNat →
      size.toNat % 4 = 0 → size.toNat ≤ imageRoom k → (s.image k).role ≠ .pending → s.onTrial t = false →
      (t = true → s.boot.recovery = false) →
        exec (.updateBegin h [target, size]) s = .next (State.completed
          (((State.setSession (b.onImage k fun x => { x with state := .writing, version := 0, secver := 0 }) t
            (some { size := size.toNat, words := [], buffer := [], erasing := true })).wr .botUpdStat
              (word (2 * boolNat t))).wr .botUpdWords 0) c 1 .ok 0 [])) ∧
    (∀ (off d : Word) (ds : List Word) (u : Session), s.offers 0x31 h (target :: off :: d :: ds) c b → ds.length < 1024 →
      s.session t = some u → u.erasing = false → off.toNat % 4 = 0 → off.toNat + 4 * (ds.length + 1) ≤ u.size →
      (∀ i, i ≤ ds.length → u.at (off.toNat / 4 + i) = none) → s.bufferUsed + ds.length + 1 ≤ 16384 →
        let new := (d :: ds).zipIdx.map fun (x, i) => (off.toNat / 4 + i, x)
        exec (.updateBlock h (target :: off :: d :: ds)) s = .next (State.completed
          ((b.setSession t (some { u with words := u.words ++ new, buffer := u.buffer ++ new })).wr .botUpdWords
            (word (u.words.length + (ds.length + 1)))) c (blockCycles (ds.length + 3)) .ok (word (ds.length + 1)) [])) ∧
    (∀ (crc : Word) (u : Session), s.offers 0x32 h [target, crc] c b → s.session t = some u →
      (u.size ≤ 4 * u.words.length → u.buffer = [] →
        (crc32c (s.flashBytes (imageBase k) u.size) = crc → s.flashSpoilt (imageBase k) u.size = false →
          s.imageValid k = true →
          exec (.updateFinish h [target, crc]) s = .next (State.completed
            ((b.endSession t 4).onImage k (shows .valid)) c 1 .ok 0 [])) ∧
        (crc32c (s.flashBytes (imageBase k) u.size) = crc → s.flashSpoilt (imageBase k) u.size = false →
          s.imageValid k = false →
          exec (.updateFinish h [target, crc]) s = .next (State.completed
            ((b.endSession t 5).onImage k (shows .invalid)) c 1 .authFail 0 [])) ∧
        (crc32c (s.flashBytes (imageBase k) u.size) ≠ crc → s.flashSpoilt (imageBase k) u.size = false →
          exec (.updateFinish h [target, crc]) s = .next (State.completed
            ((b.endSession t 5).onImage k (shows .invalid)) c 1 .crcFail 0 [])) ∧
        (s.flashSpoilt (imageBase k) u.size = true →
          exec (.updateFinish h [target, crc]) s = .next (State.rests (State.completed
            (((b.endSession t 5).onImage k (shows .invalid)).report 0x2A) c 1 .crcFail 0 [])))) ∧
      (u.size ≤ 4 * u.words.length → u.buffer ≠ [] →
        exec (.updateFinish h [target, crc]) s = .next (b.completed c 1 .busy 0 [])) ∧
      (4 * u.words.length < u.size → exec (.updateFinish h [target, crc]) s = .next (b.completed c 1 .state 0 [])))

/-! ## Packets, links and lanes -/

/-- Code groups received on the lanes of a port (R254, R255, R258, R259, R300, R302), whichever row brings them: each
lane decodes its own, and what the active lanes hold then is a packet, or a damaged one. On a link that is UP the
expected DATA packet enters the command queue, and every eighth one is acknowledged with the free queue space; one
that is damaged or fails a check counts, reports 0x3A and is answered by a NAK; one behind is acknowledged again, one
ahead and one without room get a NAK, and after a NAK the others are discarded. An ACK and a NAK of the host act on
what the device has sent. Choices of the model it rests on: log 16, 21. -/
def Obligations.InwardPackets : Prop :=
  ∀ (s : State) (p : Port) (lines : List (List LineItem)) (o : Option RxPacket) (c : State), s.Inv →
    (s.lanesReceive p lines).takePacket p = (o, c) →
    let x := c.port p
    ∀ row, row ∈ [Instr.dataPacket p lines, Instr.ackReceived p lines, Instr.nakReceived p lines] →
    (x.linkUp = true → x.inDiscard = false →
      ((o = none ∨ ∃ k, o = some k ∧ k.sound 1 = false ∧
          ((k.sound 4 = false ∧ k.sound 5 = false) ∨ k.payload.length ≠ 1)) →
        exec row s = .next (State.rests
          ((((c.pcount p .hptPktCnt 0 16).pflag p .hptEvent 2).report 0x3A (portIx p)).sendNak p 1))) ∧
      (∀ k, o = some k → k.payload.length = 1 →
        let aseq := field (k.payload.getD 0 0) 0 12
        (k.sound 4 = true → exec row s = .next (c.acknowledge p ((aseq + 1) % 4096)).rests) ∧
        (k.sound 5 = true → exec row s = .next ((c.acknowledge p aseq).retransmit p).rests)) ∧
      (∀ k, o = some k → k.sound 1 = true →
        let seq := field k.header 4 12
        let behind := (x.expSeq + 4096 - seq) % 4096
        (seq = x.expSeq → k.payload.length ≤ 16384 - x.queue.length →
          let y : PortState :=
            { x with queue := x.queue ++ k.payload, expSeq := (seq + 1) % 4096, nakOut := none, nakTimer := none }
          let ack : TxPacket := { type := 4, seq := 0, payload := [word (seq + 65536 * y.credit)] }
          ∃ u : State, exec row s = .next u.rests ∧
            (x.sinceAck < 7 → u.port p =
              { y with arrivals := (u.port p).arrivals, sinceAck := x.sinceAck + 1
                       oldest := some (x.oldest.getD c.now) }) ∧
            (7 ≤ x.sinceAck → u.port p =
              { y with
                arrivals := (u.port p).arrivals
                sinceAck := 0
                oldest := none
                creditSent := y.credit
                wire := ack :: x.wire
                tx := x.tx.put (groupTime (c.link p).rate) c.now false ack.symbols }) ∧
            (k.payload ≠ [] → (u.port p).arrivals =
              x.arrivals ++ [{ left := k.payload.length, time := c.now, ahead := x.queue.length }]) ∧
            u.port (otherPort p) = c.port (otherPort p) ∧
            u = { c with regs := u.regs, portA := u.portA, portB := u.portB } ∧ SameRegs [] c u) ∧
        (seq = x.expSeq → 16384 - x.queue.length < k.payload.length →
          exec row s = .next (c.sendNak p 3).rests) ∧
        (seq ≠ x.expSeq →
          (x.nakOut.isSome → exec row s = .next c.rests) ∧
          (x.nakOut = none → behind ≤ 2048 → exec row s = .next (c.sendAck p).rests) ∧
          (x.nakOut = none → 2048 < behind → exec row s = .next (c.sendNak p 2).rests)))) ∧
    ((x.linkUp = false ∨ x.inDiscard = true) → exec row s = .next c.rests)

/-- Packets that the device sends (R256, R258, R259): an ACK of the host drops what it names and all before, a NAK
sends the rest again, and so does every packet unanswered for HPT_ACK_TMO, until the link goes down after the fourth
time. The device acknowledges 2 us after the oldest packet, and repeats a NAK. A port that is silent for HPT_LOSS_TMO
is lost (R277, R278, R279, R287): its queue and its packets go, its streamed command is abandoned and the memory slot
that it names is marked, its semaphores are freed and nobody else's, SEM_REVOKED is set, and layer memory and the
array keep what they have. Where the last word that the streamed command stored is the first half of a memory word
with an uncorrectable error, that one gets new check bits, its other bytes become 0, and it is reported (R629).
Choices of the model it rests on: log 9, 12, 16, 20, 23. -/
def Obligations.OutwardPackets : Prop :=
  (∀ (s : State) (p : Port) (n : Nat), s.Inv → (s.port p).linkUp = true →
    let x := s.port p
    let seen (next : Nat) : State :=
      let rest := dropAcked next x.unacked
      (s.onPort p fun y =>
        { y with
          unacked := rest
          retries := if rest.length < x.unacked.length then 0 else x.retries
          ackTimer := if rest = [] then none
            else if rest.length < x.unacked.length then some (s.now, s.ackTmo) else x.ackTimer }).flush p
    let again (t : State) : State :=
      (((t.onPort p fun y =>
        { y with
          wire := y.unacked.reverse ++ y.wire
          ackTimer := if y.unacked = [] then none else some (t.now, t.ackTmo) }).transmit p (t.port p).unacked).pcount p
            .hptRetxCnt 0 32 (t.port p).unacked.length).pmc 0x18 (t.port p).unacked.length
    s.hostAck p n = seen ((n + 1) % 4096) ∧
    s.hostNak p n = again (seen (n % 4096)) ∧
    (∀ t d, x.ackTimer = some (t, d) → x.unacked ≠ [] →
      (x.retries < 4 → exec (.ackTimeout p) s =
        .next (again ((s.advance (t + d)).onPort p fun y => { y with retries := y.retries + 1 }))) ∧
      (4 ≤ x.retries → exec (.ackTimeout p) s = .next ((s.advance (t + d)).linkDown p 5).rests)) ∧
    (∀ t, x.oldest = some t → exec (.ackDue p) s = .next ((s.advance (t + 2 * usec)).sendAck p)) ∧
    (∀ r t d, x.nakOut = some r → x.nakTimer = some (t, d) →
      exec (.nakRepeat p) s = .next ((s.advance (t + d)).sendNak p r))) ∧
  (∀ (s : State) (p : Port) (t n : Nat), s.Inv → (s.port p).silent = some (t, n) → (s.port p).linkUp = false →
    (s.port p).lost = false →
    let u := s.lossDue p
    exec (.portLoss p) s = .next u.rests ∧ (u.port p).lost = true ∧ (u.port p).queue = [] ∧
      (u.port p).stream = none ∧ (u.port p).unacked = [] ∧ (u.port p).outbox = [] ∧ (u.port p).expSeq = 0 ∧
      (u.port p).txSeq = 0 ∧ (∀ k, s.owner k = some p → k < 16 → u.owner k = none) ∧
      (∀ k, s.owner k ≠ some p → u.owner k = s.owner k) ∧
      (let stored : Option Nat := (s.port p).stream.bind fun x => if x.served = 0 then none else match x.kind with
         | .layer k off => some (s.slotBase k + off)
         | .window k off => some (s.slotBase k + off)
         | .cellar a => some a
         | _ => none
       ((∀ e ∈ stored, ∀ w ∈ s.ecc, e ≤ w ∨ w + 8 ≤ e) → SameMemory s u) ∧
       (∀ e ∈ stored, ∀ w ∈ s.ecc, w < e → e < w + 8 →
         w ∉ u.ecc ∧ (∀ a, e ≤ a → a < w + 8 → memByte u.mem a = 0) ∧
         (⟨if e < cellarBase then 0x22 else 0x24, 0⟩ : FaultReport) ∈ u.faults.reports)) ∧
      u.scan = s.scan ∧ u.power = s.power ∧
      u.guard = s.guard ∧ u.now = max s.now (t + n) ∧
      bit (u.rdp p .hptEvent) 0 = true ∧ bit (u.rdp p .hptEvent) 5 = true ∧
      (∀ x k, (s.port p).stream = some x → x.named = some k → k < s.comp.slots.length → (u.slot k).incomplete = true))

/-- Bring-up of a link (R304 to R308, R313, R314, R316, R319): at a marker column the lanes that show a marker in time
and within the skew become aligned; two columns with the same aligned lanes end TRAIN, a host CAP ends CAPS with the
best common rate, the transmit lane restarts at that rate 4 us after it stopped, and LNK_TMO starts a failed attempt
again. What a link that enters UP and one that leaves it hold (R312, R316, R318, R323): the aligned lanes become
active and the others PARKED, LNK_EVENT says LINK_UP or LINK_DOWN, the cause is shown, and training follows where EN
and the PHY domain allow it. Choices of the model it rests on: log 9, 21, 25, 113. -/
def Obligations.LinkTraining : Prop :=
  (∀ (s : State) (p : Port) (marks : List LaneMark), s.Inv → (s.link p).state ≠ .disabled →
    let ix := portIx p
    let c := s.lanesReceive p (marks.map (·.items))
    let d := if ((c.link p).lanesWith Lane.showsMarker).all fun k => (c.lane p k).inTime then c else c.flag .lnkEvent 6 ix
    let m := (d.onLanes p fun k x => x.atMarker (marks.getD k default).skew).wr .lnkSkew (skewWord (d.link p).lanes marks) ix
    let l := m.link p
    let set := l.lanesWith fun x => x.aligned
    (l.state = .train →
      (set ≠ [] → l.prevSet = some set → exec (.markerColumn p marks) s = .next (m.onLink p fun l =>
        { l with state := .caps, baseLanes := set.length, prevSet := none, timer := some (m.now, m.lnkTmo p) }).rests) ∧
      ((set = [] ∨ l.prevSet ≠ some set) → exec (.markerColumn p marks) s =
        .next (m.onLink p fun l => { l with prevSet := some set }).rests)) ∧
    (l.state = .caps → exec (.markerColumn p marks) s = .next m.rests) ∧
    (l.state = .rate → l.restarted = true →
      (l.prevSet = some set → m.requiredLanes p ≤ set.length → set ≠ [] →
        exec (.markerColumn p marks) s = .next (m.enterUp p).rests) ∧
      ((l.prevSet ≠ some set ∨ set.length < m.requiredLanes p ∨ set = []) →
        exec (.markerColumn p marks) s = .next (m.onLink p fun l => { l with prevSet := some set }).rests)) ∧
    (∀ w, l.state = .rate → l.restarted = false → l.wait = some w → w.acked = true → l.stopped = none →
      exec (.markerColumn p marks) s = .next (State.rests
        (((m.txPut p false [.marker]).txEnter p .quiet).onLink p fun l => { l with stopped := some m.now }))) ∧
    (l.state = .up → exec (.markerColumn p marks) s = .next (m.markerUp p).rests)) ∧
  (∀ (s : State) (p : Port) (lines : List (List LineItem)), s.Inv →
    let ix := portIx p
    let c := s.lanesReceive p lines
    let e := c.onLanes p fun _ x => if x.framed then x else { x with held := [] }
    let sees (k : Nat) : SetSeen := if c.decodes p k then (c.lane p k).trainSet else .nothing
    exec (.tsAckReceived p lines) s = exec (.hostCap p lines) s ∧ exec (.tsIgnored p lines) s = exec (.hostCap p lines) s ∧
    ((∀ k, k < 4 → sees k = .nothing ∨ sees k = .damaged) →
      exec (.tsIgnored p lines) s = .next (State.rests
        (if sees 0 = .damaged ∨ sees 1 = .damaged ∨ sees 2 = .damaged ∨ sees 3 = .damaged then e.flag .lnkEvent 8 ix else e))) ∧
    (∀ (cap : TrainSet), cap.code = 1 → (∃ k, k < 4 ∧ sees k = .set cap) →
      (∀ k, k < 4 → sees k = .nothing ∨ ∃ n, sees k = .set { cap with lane := n }) →
      exec (.hostCap p lines) s = .next (State.rests
        (e.hostCap p (BitVec.ofNat 5 cap.b4.toNat) ((List.range 4).map fun k => match sees k with
          | .set t => some t.lane.toNat
          | _ => none))))) ∧
  (∀ (s : State) (p : Port) (rates : BitVec 5) (claims : List (Option Nat)),
    let l := s.link p
    let c := s.onLink p fun l => { l with hostRates := rates, lanes := claimNumbers [] claims l.lanes }
    let target := topRate (rates &&& ~~~l.failed) l.maxRate
    (l.state ≠ .caps → s.hostCap p rates claims = c) ∧
    (l.state = .caps → target ≠ 0 → s.hostCap p rates claims = (State.sendTs (c.onLink p fun l =>
      { l with state := .rate, target := target, restarted := false, stopped := none, prevSet := none
               timer := some (s.now, c.lnkTmo p) }) p .rate target 0).txEnter p .idle) ∧
    (l.state = .caps → target = 0 → s.hostCap p rates claims = c.enterUp p)) ∧
  (∀ (s : State) (p : Port), s.Inv →
    let ix := portIx p
    let l := s.link p
    (∀ t, l.stopped = some t →
      let a := s.advance (t + 4 * usec)
      exec (.rateRestart p) s = .next ((a.onLink p fun l =>
        { l with stopped := none, restarted := true, rate := l.target, wait := none, prevSet := none
                 lanes := l.lanes.map fun x => { logical := x.logical, inverted := x.inverted }
                 timer := some (a.now, a.lnkTmo p) }).txEnter p .idle)) ∧
    (∀ t n, l.timer = some (t, n) →
      let a := s.advance (t + n)
      ((l.state = .caps ∨ l.state = .train ∧ ∀ x ∈ l.lanes, x.aligned = false) →
        exec (.trainTimeout p) s = .next (((a.flag .lnkEvent 7 ix).count .lnkCnt 16 16 1 ix).enterTrain p true)) ∧
      (l.state = .rate → l.stopped = none → (∀ w, l.wait = some w → w.acked = false) → exec (.trainTimeout p) s =
        .next (State.enterTrain (a.onLink p fun l => { l with failed := l.failed ||| ((1 : BitVec 5) <<< l.target) }) p true)) ∧
      (l.state = .rate → (l.stopped.isSome ∨ ∃ w, l.wait = some w ∧ w.acked = true) →
        exec (.trainTimeout p) s = .next s)) ∧
    (∀ t, l.idle = some t →
      exec (.transmitIdleEnd p) s =
        .next (((s.advance (t + 20 * usec)).onLink p fun l => { l with idle := none }).txEnter p .train))) ∧
  (∀ (s : State) (p : Port) (k : Nat) (items : List LineItem) (inv : Bool) (eyes : List Nat), s.Inv →
    let l := s.link p
    let a := if (s.lane p k).lock then s else s.onLane p k fun x => { x with inverted := inv }
    let x := a.lane p k
    let y := (Lane.takeAll items x).1
    let lost := (Lane.takeAll items x).2
    let b := (a.onLane p k fun _ => y).count .lnkLcnt 0 16 (y.cv - x.cv) (portIx p) k
    (s.decodes p k = false → exec (.symbolLock p k items inv eyes) s = .next s) ∧
    (s.decodes p k = true →
      ((l.state = .train ∨ l.state = .rate) →
        (y.lock = true → (x.lock = false ∨ lost = true) →
          exec (.symbolLock p k items inv eyes) s = .next (b.equalise p k eyes)) ∧
        ((y.lock = false ∨ (x.lock = true ∧ lost = false)) →
          exec (.symbolLock p k items inv eyes) s = .next b)) ∧
      (l.state = .caps → exec (.symbolLock p k items inv eyes) s = .next b) ∧
      (l.state = .up →
        let f := if lost then b.laneFails p k .lockLost else b
        exec (.symbolLock p k items inv eyes) s =
          .next (State.rests (if s.cvLimit p ≤ y.cv then f.laneFails p k .violations else f))))) ∧
  (∀ (s : State) (p : Port) (cause : Nat),
    let ix := portIx p
    let u := s.enterUp p
    let d := s.linkDown p cause
    ((u.link p).state = .up ∧ (u.port p).linkUp = true ∧ bit (u.rd .lnkEvent ix) 0 = true ∧
      (∀ k, k < (s.link p).lanes.length →
        (u.lane p k).role = if (s.lane p k).aligned then .active else .parked) ∧
      u.link (otherPort p) = s.link (otherPort p) ∧ SameMemory s u ∧ SamePicture s u) ∧
    ((s.link p).state = .up →
      (d.link p).state = (if s.mayTrain p then .train else .disabled) ∧ (d.link p).downCause = cause ∧
      (d.link p).rate = 0 ∧ (d.port p).linkUp = false ∧ (d.port p).unacked = (s.port p).unacked ∧
      (d.port p).queue = (s.port p).queue ∧ bit (d.rd .lnkEvent ix) 1 = true ∧
      d.faults.reports = s.faults.reports ++ (if cause ≤ 5 then [⟨0x30 + ix, ix⟩] else []) ∧
      d.link (otherPort p) = s.link (otherPort p) ∧ d.port (otherPort p) = s.port (otherPort p) ∧ SameMemory s d ∧
      SamePicture s d))

/-- A lane that becomes faulty while the link is UP (R320, R321, R322): half a microsecond later the device decides.
With an active lane left it discards packets and asks the host to go on without the faulty ones, which are then
parked; with none left the link goes down with the cause of R323. A lane that is parked for HOLD counts nothing
(R329), and a cause that does not hold changes nothing. Choices of the model it rests on: log 9, 17. -/
def Obligations.LaneFaults : Prop :=
  ∀ (s : State) (p : Port) (k : Nat) (c : LaneCause), s.Inv →
    let ix := portIx p
    let l := s.link p
    (k < 4 → l.state = .up → (s.lane p k).role = .active → (s.lane p k).faults = [] → s.laneCause p k c = true →
      ∃ u : State, exec (.laneFault p k c) s = .next u ∧ (u.lane p k).faults = [c] ∧
        (u.link p).deciding = some (l.deciding.getD s.now) ∧
        (∀ j, j < 4 → (u.lane p j).role ≠ .check ∧ (u.lane p j).role ≠ .resync) ∧
        u = { s with regs := u.regs, linkA := u.linkA, linkB := u.linkB } ∧
        u.link (otherPort p) = s.link (otherPort p) ∧
        SameRegs ((List.range 4).map fun j => Reg.key .lnkLcnt .A ix j) s u) ∧
    ((4 ≤ k ∨ (s.lane p k).role = .lpPark ∨ s.laneCause p k c = false) → exec (.laneFault p k c) s = .next s) ∧
    (∀ t, l.deciding = some t →
      let a := (s.advance (t + usec / 2)).onLink p fun l => { l with deciding := none }
      let act := l.activeLanes.map fun j => l.lanes.getD j {}
      ((∀ x ∈ act, x.faults ≠ []) →
        let cause := if act.all fun x => decide (.los ∈ x.faults) then 1
          else if act.all fun x => decide (.lol ∈ x.faults ∨ .lockLost ∈ x.faults) then 2 else 3
        exec (.parkDecision p) s = .next (a.linkDown p cause).rests) ∧
      ((∃ x ∈ act, x.faults = []) → (∃ x ∈ act, x.faults ≠ []) → (∀ w, l.wait = some w → w.why ≠ .holdPark) →
        exec (.parkDecision p) s = .next ((a.onPort p fun x => { x with inDiscard := true }).sendTs p .park
          (l.logicalMask (l.lanesWith fun x => decide (x.role = .active ∧ x.faults = []))) 0))) ∧
    (l.state = .up → l.wait = none → earliestLane l [0, 1, 2, 3] = none → exec (.handshakeTimeout p) s = .next s) ∧
    (∀ w, l.state = .up → l.wait = some w → (w.why = .park ∨ w.why = .holdPark ∨ (w.why = .join ∧ w.acked = false)) →
      earliestLane l [0, 1, 2, 3] = none →
      exec (.handshakeTimeout p) s = .next ((s.advance (w.start + w.length)).linkDown p 4).rests)

/-- The host's ACK of a training set (R306, R309): it counts on a lane that may carry it and with the code and both
bytes of the latest set sent. It ends the wait for a rate or a join until the host's marker column, parks the faulty
lanes (R322), parks for HOLD (R329), and starts or ends a pattern check (R325). Checks of parked lanes (R325, R328,
R332): the parked lanes whose rejoin is due ask the host for the pattern, the checker locks on 64 bits without an
error, a window of 2^27 bits with at most as many errors as LNK_ERR_CFG allows lets the lane resynchronise, more
errors or no lock park it again, and a loopback run starts at 0 and adds its errors up. Choices of the model it rests
on: log 9, 17, 21, 25, 82. -/
def Obligations.LaneChecks : Prop :=
  (∀ (s : State) (p : Port) (lines : List (List LineItem)) (b4 b5 b6 : Byte), s.Inv →
    let c := s.lanesReceive p lines
    let e := c.onLanes p fun _ x => if x.framed then x else { x with held := [] }
    let sees (k : Nat) : SetSeen := if c.decodes p k then (c.lane p k).trainSet else .nothing
    (∃ k, k < 4 ∧ sees k ≠ .nothing) →
    (∀ k, k < 4 → sees k = .nothing ∨ ∃ n, sees k = .set { code := 5, lane := n, b4 := b4, b5 := b5, b6 := b6 }) →
      exec (.tsAckReceived p lines) s =
        .next (e.tsAck p ((List.range 4).filter fun k => sees k ≠ .nothing) b4 b5 b6).rests) ∧
  (∀ (s : State) (p : Port) (seen : List Nat) (b4 b5 b6 : Byte) (w : TsWait), (s.link p).awaited b4.toNat = some w →
    let fits : Prop := b4.toNat = tsCode w.why ∧ b5.toNat = w.b4 ∧ b6.toNat = w.b5 ∧ ∃ k ∈ (s.link p).ackLanes w, k ∈ seen
    (¬ fits → s.tsAck p seen b4 b5 b6 = s) ∧
    (fits →
      ((w.why = .rate ∨ w.why = .join) → s.tsAck p seen b4 b5 b6 =
        s.onLink p fun l => { l with wait := some { w with acked := true } }) ∧
      (w.why = .park → s.tsAck p seen b4 b5 b6 = (s.parkFaulty p w.b4).resumePackets p) ∧
      (w.why = .holdPark →
        let u := State.resumePackets ((s.parkFaulty p w.b4).onLanes p fun _ x =>
          if x.role = .active ∧ x.named w.b4 = false then { x with role := .lpPark } else x) p
        (s.power.state = .hold → s.tsAck p seen b4 b5 b6 = u) ∧
        (s.power.state ≠ .hold → s.tsAck p seen b4 b5 b6 = u.lanesUnhold p)) ∧
      (w.why = .prbsStart → s.tsAck p seen b4 b5 b6 = (s.onLanes p fun _ x =>
          if x.role = .check ∧ x.acked = false ∧ x.named w.b4 = true then
            { x with acked := true, timer := some (s.now, 10 * usec) }
          else x).onLink p fun l => { l with prbs := none }) ∧
      (w.why = .prbsStop → s.tsAck p seen b4 b5 b6 = s.onLink p fun l => { l with prbs := none }))) ∧
  (∀ (s : State) (p : Port), s.Inv →
    let l := s.link p
    let due := (l.lanes.filterMap Lane.rejoinAt).min?
    (∀ t, l.state = .up → due = some t →
      let a := s.advance t
      exec (.rejoinDue p) s = .next (a.startCheck p (l.lanesWith fun x => x.rejoinAt.any (decide <| · ≤ a.now)))) ∧
    ((l.state ≠ .up ∨ due = none) → exec (.rejoinDue p) s = .next s)) ∧
  (∀ (s : State) (p : Port) (k : Nat) (bits : List Bool) (runs : List PrbsRun) (eyes : List Nat), s.Inv → k < 4 →
    let ix := portIx p
    let l := s.link p
    let x := s.lane p k
    let failed (t : State) : State :=
      let rj := t.rejoinTimer p
      State.sendTs ((t.onLane p k fun x =>
        { x with role := .parked, timer := none, acked := false, checking := false, good := 0
                 rejoin := rj }).flag .lnkEvent 4 ix) p .prbsStop (l.logicalMask [k]) (2 * l.pattern)
    (x.role = .check → x.acked = true → x.checking = false →
      let y := x.seekPattern l.pattern bits
      let b := (s.onLane p k fun _ => y).equalise p k eyes
      (64 ≤ y.streak → exec (.checkerLock p k bits eyes) s = .next (b.onLane p k fun y =>
        { y with checking := true, timer := some (s.now, windowTime l.rate) })) ∧
      (y.streak < 64 → exec (.checkerLock p k bits eyes) s = .next b) ∧
      ∀ t n, x.timer = some (t, n) → exec (.prbsLockTimeout p k) s = .next (failed (s.advance (t + n)))) ∧
    (∀ t n, x.role = .check → x.checking = true → x.timer = some (t, n) →
      let errors := (prbsCount l.pattern runs x.bits).2
      let a := (s.advance (t + n)).wr .lnkPrbsErr (word (min errors (2 ^ 32 - 1))) ix k
      (errors ≤ s.fld .lnkErrCfg 8 8 ix → exec (.prbsWindowDone p k runs) s = .next (State.sendTs (a.onLane p k fun x =>
        { x with role := .resync, acked := false, checking := false, good := 0
                 timer := some (a.now, a.lnkTmo p) }) p .prbsStop (l.logicalMask [k]) (2 * l.pattern))) ∧
      (s.fld .lnkErrCfg 8 8 ix < errors → exec (.prbsWindowDone p k runs) s = .next (failed a))) ∧
    (s.loopChecks p k = true → x.role ≠ .check →
      let pat := s.fld .lnkPrbs 8 2 ix
      (x.checking = false →
        let y := x.seekPattern pat bits
        ((s.ownPattern p k = true ∨ 64 ≤ y.streak) → exec (.checkerLock p k bits eyes) s =
          .next ((s.onLane p k fun _ => { y with checking := true }).wr .lnkPrbsErr 0 ix k)) ∧
        (s.ownPattern p k = false → y.streak < 64 →
          exec (.checkerLock p k bits eyes) s = .next (s.onLane p k fun _ => y))) ∧
      (x.checking = true →
        (s.ownPattern p k = true → exec (.prbsWindowDone p k runs) s = .next s) ∧
        (s.ownPattern p k = false → exec (.prbsWindowDone p k runs) s =
          .next ((s.onLane p k fun x => { x with bits := (prbsCount pat runs x.bits).1 }).count .lnkPrbsErr 0 32
            (prbsCount pat runs x.bits).2 ix k)))) ∧
    ((x.checking = true ∨ (x.role ≠ .check ∧ s.loopChecks p k = false)) →
      exec (.checkerLock p k bits eyes) s = .next s))

/-! ## Scan, samples and synchronisation -/

/-- Line slots and the decision point (R69, R72, R82, R85, R97): the slots of lines 0 to 6 end one after another, die
R compares both wires of the timebase at each end, the line-7 blanking serves the attic and then the regions in their
order, and at tick W of the line-7 slot a candidate that is ready makes a flip pend. A failed transfer counts, and a
wire that fails again waits for one of the four repair wires, or is reported when none is left. The attic bus (R68 to
R70, R359 to R363, R391, R392): at its confirmed failure a working sink that an attic sink drives gets that one in
REPLACE at once, and another waits for the line-7 blanking, where the attic sink of its row group with the lowest
rank, then number, turns to REPLACE, or the column has no sink. A failed attic sink is PARKED there, and the column
that it held goes to another. A step connects the lowest-numbered free attic sink in TAKEOVER, or the measured one in
SHADOW, and at its end TAKEOVER and SHADOW return to PARKED. Every other connection stays. A tile shows DEGRADED with
a column that has no sink, else FULL where each row group has an attic sink that is neither failed nor in REPLACE.
Choices of the model it rests on: log 9, 36, 87, 109. -/
def Obligations.SlotsAndDecision : Prop :=
  ∀ (s : State) (d : Die), s.Inv →
    let a := (s.advance (s.slotStart + s.scan.cur.len * tickLen)).slotEnds.onScan fun c => { c with slot := c.slot + 1 }
    let w := s.advance (s.decisionAt + 16 * tickLen)
    (s.scan.on = true → s.scan.slot < 7 → s.scan.scanLock = true → s.scan.wire0 = true → s.scan.wire1 = true →
      exec (.slotBoundary true true true) s = .next a.lightSlot ∧
      exec (.slotBoundary false true true) s =
        .next (State.lightSlot (State.report (a.onScan fun c => { c with wire0 := false }) 0x58)).rests ∧
      exec (.slotBoundary false false true) s =
        .next (State.lightSlot (State.report (a.onScan fun c =>
          { c with wire0 := false, wire1 := false, scanLock := false }) 0x59)).rests ∧
      exec (.slotBoundary true true false) s =
        .next (State.lightSlot (State.report (a.onScan fun c => { c with scanLock := false }) 0x59)).rests) ∧
    (s.scan.on = true → s.scan.slot = 7 → s.now ≤ s.decisionAt →
      let b := s.advance s.decisionAt
      (b.candReady = true → s.heldDark = false → s.leaving = false →
        exec .decisionPoint s = .next (b.onScan fun c => { c with flipPend := true })) ∧
      ((b.candReady = false ∨ s.heldDark = true ∨ s.leaving = true) → exec .decisionPoint s = .next b)) ∧
    (s.scan.on = true → s.scan.slot = 7 →
      exec .line7Blanking s = .next (State.rests ((List.range 16).foldl (fun t g => t.calLine7 g)
        (w.onDiag fun x => { x with before := some (x.before.getD w.unserved) }).atticChanges))) ∧
    (s.scan.slot ≠ 7 → exec .line7Blanking s = .next s ∧ exec .decisionPoint s = .next s) ∧
    (∀ n, s.sinkFailed n = false →
      let u := s.sinkFails n
      let rg := groupOfColumn n
      u.sinkFailed n = true ∧
      (∀ k, s.holder n = some k → u.attic k = .replace n ∧ ∀ j, j ≠ k → u.attic j = s.attic j) ∧
      (s.holder n = none → (∀ j, u.attic j = s.attic j) ∧
        ((∃ k r, (k = 2 * rg ∨ k = 2 * rg + 1) ∧ k ∉ s.diag.toDrop ∧ s.ranks k r) → (n, false) ∈ u.diag.toReplace))) ∧
    (∀ n f, s.diag.toDrop = [] → s.diag.toRejoin = [] → s.diag.toReplace = [(n, f)] →
      let u := s.atticChanges
      let rg := groupOfColumn n
      (∀ k r, (k = 2 * rg ∨ k = 2 * rg + 1) → s.ranks k r →
        (∀ j q, (j = 2 * rg ∨ j = 2 * rg + 1) → s.ranks j q → r < q ∨ (r = q ∧ k ≤ j)) →
        u.attic k = .replace n ∧ ∀ j, j ≠ k → u.attic j = s.attic j) ∧
      ((∀ j q, (j = 2 * rg ∨ j = 2 * rg + 1) → ¬ s.ranks j q) → n ∈ u.diag.noSink ∧ ∀ j, u.attic j = s.attic j)) ∧
    (∀ k, s.diag.toDrop = [k] → s.diag.toRejoin = [] → s.diag.toReplace = [] →
      let u := s.atticChanges
      ((s.attic k).replaces = false → u.attic k = .parked ∧ ∀ j, j ≠ k → u.attic j = s.attic j) ∧
      (∀ n j, s.attic k = .replace n → s.atticFailed k = true → groupOfColumn n = k / 2 → j / 2 = k / 2 → j ≠ k →
        s.attic j = .parked → s.atticFailed j = false →
        u.attic k = .parked ∧ u.attic j = .replace n ∧ ∀ i, i ≠ k → i ≠ j → u.attic i = s.attic i)) ∧
    (∀ g, (s.region g).stepOn = false → s.diag.readmit.getD g none = none →
      let u := s.calLine7 g
      let b := s.releaseAttics g
      let rest (j : Nat) : Attic := if regionOfAttic j = g then (s.attic j).over else s.attic j
      let free (j : Nat) : Prop := rest j = .parked ∧ s.atticFailed j = false
      ((s.region g).running = false → ∀ j, u.attic j = rest j) ∧
      (∀ i, (s.region g).running = true → (s.region g).ending = false → s.calPaused (dieOf g) = false →
        (b.seek g).1 = some i →
        (∀ n k, (b.planned g i = .working n ∨ ∃ m, b.planned g i = .replaced m n) →
          let rg := groupOfColumn n
          (k = 2 * rg ∧ free k ∨ k = 2 * rg + 1 ∧ free k ∧ ¬ free (2 * rg)) →
          u.attic k = .takeover n ∧ ∀ j, j ≠ k → u.attic j = rest j) ∧
        (∀ k n, b.planned g i = .attic k → b.shadowColumn (k / 2) = some n →
          u.attic k = .shadow n ∧ ∀ j, j ≠ k → u.attic j = rest j))) ∧
    (∀ t, field (s.tileWord t) 0 4 =
      if s.diag.noSink.any fun n => n / 256 == t then 2
      else if (List.range 4).all fun q => [2 * (4 * t + q), 2 * (4 * t + q) + 1].any fun k =>
        !s.atticFailed k && !(s.attic k).replaces then 0 else 1) ∧
    (s.domOn (arrDomain d) = true →
      let r : Reg := match d with
        | .L => .scnD2dL
        | .R => .scnD2dR
      let c := (s.count r 16 16).pmc 0x29
      let waiting := match d with
        | .L => s.scan.repairL
        | .R => s.scan.repairR
      exec (.d2dTransferFail d none) s = .next c ∧
      (∀ k, k ∈ waiting → exec (.d2dTransferFail d (some k)) s = .next c) ∧
      (∀ k, k ∉ waiting → 4 ≤ field (c.rd r) 0 3 + waiting.length →
        exec (.d2dTransferFail d (some k)) s = .next (c.report 0x5A (dieIx d)).rests) ∧
      (∀ k, k ∉ waiting → field (c.rd r) 0 3 + waiting.length < 4 →
        exec (.d2dTransferFail d (some k)) s = .next (c.onScan fun x => match d with
          | .L => { x with repairL := x.repairL ++ [k] }
          | .R => { x with repairR := x.repairR ++ [k] })))

/-- The cycle boundary (R57, R81, R83, R84, R88, R89, R107): a pending flip exchanges the buffers, writes the flip
record with the next sequence number and the time, puts the frame's timing into force, and ends the wait of the values
that were written before its pass began; without one the same frame stays. Line 0 of the next cycle follows, with the
delays that are taken at its start: CMP_PHASE, and the offset of CAMSYNC, as 0 where the cycle in its own timing is no
longer than it. Choices of the model it rests on: log 9, 35, 57, 71, 85, 108. -/
def Obligations.CycleBoundaries : Prop :=
  ∀ (s : State) (bad : List Nat), s.Inv → s.scan.on = true → s.scan.slot = 7 → s.inStep .standby 1 = false →
    let u := s.cycleBoundary bad
    let a := s.advance s.boundaryAt
    exec (.cycleBoundary bad) s = .next u.rests ∧ u.scan.slot = 0 ∧ u.scan.cycle = s.scan.cycle + 1 ∧
    u.scan.cycleStart = s.boundaryAt ∧ u.now = a.now ∧ u.mem = s.mem ∧ u.scan.phase = s.fld .cmpPhase 0 16 ∧
    (let off := s.fld .scnCamsyncOffset 0 18
     u.scan.cam = some (if u.boundaryAt ≤ s.boundaryAt + off * tickLen then (0, true) else (off, false))) ∧
    (∀ c, s.comp.cand = some c → s.scan.flipPend = true → (s.candChanges = false ∨ s.calDue = false) →
      u.scan.abuf = (!s.scan.abuf) ∧ u.activeBuffer.frame = some c.frame ∧ u.scan.cur = c.frame.timing ∧
      u.scan.flipSeq = s.nextFlip ∧
      u.scan.flips = ({ seq := s.nextFlip, time := a.timeBase, frame := c.frame } :: s.scan.flips).take 16 ∧
      u.scan.flipPend = false ∧
      u.scan.pendRun = (s.scan.pendRun.filter fun n => c.frame.hold || decide (c.frame.pass ≤ n)) ∧
      u.scan.pendBlank = (s.scan.pendBlank.filter fun n => decide (c.frame.pass ≤ n))) ∧
    ((s.comp.cand = none ∨ s.scan.flipPend = false ∨ (s.candChanges = true ∧ s.calDue = true)) →
      u.scan.abuf = s.scan.abuf ∧ u.activeBuffer = s.activeBuffer ∧ u.scan.cur = s.scan.cur ∧
      u.scan.flipSeq = s.scan.flipSeq ∧ u.scan.flips = s.scan.flips ∧ u.scan.flipPend = false)

/-- A lit sample and a dark sample of one pixel (R338 to R344, R353, R354, R357, R369): a sample that is taken
classifies and enters the count of its pixel, and a lit one also that of the sink that drove it; a dark one is taken
where the sink is held off, or neither the pixel's word nor its probe calls for a pulse; a pixel that the command does
not list passes. FAIL_N equal failing results in a row confirm the failure: the pixel gets the FAULT cause and is
driven with no current from the next slot on, the sink is switched off. Choices of the model it rests on: log 9, 30,
31, 86, 88. -/
def Obligations.Samples : Prop :=
  ∀ (s : State) (m : Sample), s.Inv → s.scan.on = true →
    let p := pixelNo m.x m.y
    let g := regionOf m.x m.y
    let col := columnNo m.x m.y
    let lit := s.advance (s.slotStart + 248 * tickLen)
    let dark := s.advance (s.slotStart + (s.slotTicks - 32) * tickLen)
    let litCounts : Prop := bit (lit.rd .scnDiagCfg) 0 = true ∧ lit.columnSampled m.x m.y = true ∧
      250 ≤ (lit.pulse m.x m.y).2
    let darkCounts : Prop := bit (dark.rd .scnDiagCfg) 1 = true ∧ dark.columnSampled m.x m.y = true ∧
      dark.servedInSlot col = true ∧ p ∉ s.diag.returned ∧ dark.pixelState m.x m.y ≠ 3 ∧
      (dark.sinksOff = true ∨ p ∈ s.diag.holdOff ∨ (s.scan.scanLock = false ∧ 1024 ≤ m.x) ∨
        (wMask (dark.stored m.x m.y) = false → (match s.windowOf p with
          | some _ => (dark.probeOf m.x m.y).getD (0, 0)
          | none => wordPulse s.scan.cur s.scan.cycle m.x m.y (dark.stored m.x m.y)).2 = 0))
    let pixel (r : SampleResult) (fails : Bool) (u : State) : Prop :=
      let n := (tabGet noConfirm s.diag.pix p).next r fails
      ((fails = false ∨ n.count < s.failN ∨ s.causes p &&& faultCause ≠ 0) →
        tabGet noConfirm u.diag.pix p = n ∧ u.faults = s.faults ∧ u.diag.mask = s.diag.mask) ∧
      (fails = true → s.failN ≤ n.count → s.causes p &&& faultCause = 0 →
        u.causes p = s.causes p ||| faultCause ∧ p ∈ u.diag.holdNext ∧
        (⟨if r = .opened then 0x50 else if r = .short then 0x51 else 0x52, g⟩ : FaultReport) ∈ u.faults.reports)
    (let px := lit.chargedPixels.filter fun (x, y) => lit.litTaken x y
     let b := lit.pmc 0x30 px.length
     let u := b.litOne m
     let r := b.classifyLit g m.reg m.v
     exec (.litSample [m]) s = .next (State.rests
       ((px.filter fun (x, y) => !(m.x == x && m.y == y)).foldl (fun t (x, y) => t.litResult x y .pass) u)) ∧
     (¬ litCounts → u = b) ∧
     (litCounts → p ∉ s.diag.returned → r ≠ .sink → pixel r (decide (r = .opened ∨ r = .short)) u) ∧
     (litCounts → r = .sink →
       let key := s.driver col
       let n := (tabGet noConfirm s.diag.sinks key).next r true
       (n.count < s.failN → tabGet noConfirm u.diag.sinks key = n ∧ u.diag.failed = s.diag.failed) ∧
       (s.failN ≤ n.count → key < 131072 → u.sinkFailed key = true))) ∧
    (let b := if dark.pmcIdle then dark else dark.pmc 0x31 dark.darkCount
     let u := b.darkOne m
     let r := b.classifyDark g m.v
     exec (.darkSample [m]) s = .next (State.rests
       ((dark.diag.pix.filter fun e => dark.darkTaken (e.1 % 2048) (e.1 / 2048) && !(pixelNo m.x m.y == e.1)).foldl
         (fun t e => t.darkResult (e.1 % 2048) (e.1 / 2048) .pass) u)) ∧
     (¬ darkCounts → u = b) ∧ (darkCounts → pixel r (decide (r = .short ∨ r = .leak)) u))

/-- Synchronisation (R99, R101 to R103, R106, R107, R440): the follower measures the phase error of an edge, corrects
up to 64 ticks in LOCKED, stretches a cycle in ACQUIRE, and runs free after four edges in a row of another spacing or
none for two cycles. The leader's SYNCOUT pulse is 250 ticks long, and CAMSYNC pulses at its offset, or at the
boundary where the offset, taken at the start of the cycle, lies beyond it. Choices of the model it rests on: log 9,
69, 71, 72, 85. -/
def Obligations.Synchronisation : Prop :=
  ∀ (s : State), s.Inv →
    let e := s.phaseError
    let seen (run : Nat) : State :=
      (s.wr .scnSyncErr (word (bitsOf 32 e))).onScan fun c => { c with lastEdge := some s.now, badSpacing := run }
    let bad := s.scan.badSpacing
    let edge (u : State) : Prop := exec .syncinEdge s =
      .next (State.rests (if u.fld .adcGrpCfg 20 2 = 2 then
        (u.syncGroup u.now).onAdc fun a =>
          { a with syncAt := some (u.now + 600, u.groupSel.map fun n => (n, u.groupInput n)) } else u))
    ((s.scan.on = false ∨ s.scan.role ≠ 2 ∨ s.scan.stretching.isSome) → edge s) ∧
    (s.scan.on = true → s.scan.role = 2 → s.scan.stretching = none →
      (s.scan.lastEdge = none → s.scan.sync = .freeRun → edge (seen bad)) ∧
      (∀ t, s.scan.lastEdge = some t → s.scan.stretched = false →
        (s.goodSpacing t = true →
          (s.scan.sync = .freeRun → edge ((seen 0).acquire e)) ∧
          (s.scan.sync = .acquire → s.scan.stretchDue.isSome →
            edge ((seen 0).onScan fun c => { c with stretchDue := some e })) ∧
          (s.scan.sync = .locked → e.natAbs ≤ 250 →
            edge (((seen 0).setDelta (clampInt (-e) (-64) 64)).onScan fun c => { c with badPhase := 0 })) ∧
          (s.scan.sync = .locked → 250 < e.natAbs → s.scan.badPhase = 0 →
            edge (((seen 0).setDelta (clampInt (-e) (-64) 64)).onScan fun c => { c with badPhase := 1 })) ∧
          (s.scan.sync = .locked → 250 < e.natAbs → s.scan.badPhase ≠ 0 → edge ((seen 0).acquire e))) ∧
        (s.goodSpacing t = false → bad ≠ 3 → s.scan.sync = .freeRun → edge (seen (bad + 1))) ∧
        (s.goodSpacing t = false → bad = 3 →
          edge (((((seen 4).flag .scnEvent 1).count .scnSyncCnt 16 16).setSync .freeRun).onScan fun c =>
            { c with badSpacing := 0 }))) ∧
      (∀ t, s.scan.lastEdge = some t → s.scan.sync = .acquire → s.scan.stretched = true →
        (e.natAbs ≤ 250 → edge (((seen bad).setSync .locked).setDelta (clampInt (-e) (-64) 64))) ∧
        (250 < e.natAbs → edge ((seen bad).acquire e))) ∧
      (∀ t, s.scan.lastEdge = some t → s.scan.sync ≠ .freeRun →
        exec .syncLossTimeout s = .next (State.rests
          (((((s.advance (t + 2 * s.scan.cur.cycleTicks * tickLen)).flag .scnEvent 0).count .scnSyncCnt 0 16).report
            0x5B).setSync .freeRun)))) ∧
    (s.scan.syncout = true → exec .syncoutPulseEnd s =
      .next ((s.advance (s.scan.cycleStart + 250 * tickLen)).onScan fun c => { c with syncout := false })) ∧
    (s.scan.syncout = false → exec .syncoutPulseEnd s = .next s) ∧
    (s.camDue = true → ∀ o, s.scan.cam = some o →
      let t := s.scan.cycleStart + o.1 * tickLen
      let pulse (t : Nat) : State := (s.advance t).onScan fun c =>
        { c with cam := none, camEnd := t + 16 * s.fld .scnCamsyncCtrl 8 8 * tickLen }
      (t < s.boundaryAt → s.now ≤ t →
        (o.2 = false → exec .camsyncPulse s = .next (pulse t)) ∧
        (o.2 = true → exec .camsyncPulse s = .next ((pulse t).flag .scnEvent 2))) ∧
      (t < s.boundaryAt → t < s.now → exec .camsyncPulse s = .next s) ∧
      (s.boundaryAt ≤ t →
        exec .camsyncPulse s = .next ((pulse (max s.now s.scan.cycleStart)).flag .scnEvent 2))) ∧
    (s.camDue = false → exec .camsyncPulse s = .next s) ∧
    (let u := s.takeDelays
     let off := s.fld .scnCamsyncOffset 0 18
     u = { s with scan := u.scan } ∧ u.scan.phase = s.fld .cmpPhase 0 16 ∧
     (s.scan.cycleStart + off * tickLen < s.boundaryAt → u.scan.cam = some (off, false)) ∧
     (s.boundaryAt ≤ s.scan.cycleStart + off * tickLen → u.scan.cam = some (0, true)))

/-! ## Composition -/

/-- A pass (R31, R88, R145, R160, R162, R164, R169, R170, R182, R186, R192): its start takes the whole of every commit
that can be applied, but in HOLD none, counts, and fixes the frame's timing; a pending flip delays it. The layers,
scalers, palettes and rectangles that such a commit names stand in the pass's frame with the commit's values, those
that none names stay as they were, coefficient banks and layer memory are read as they are, and the commit shows
APPLIED. In fallback only the Seal layer and the SEAL-class rectangles of a Seal commit are taken; where more is left
of it, the commit stays READY. A commit asks for a pass as soon as it is READY (log 112). The end of a pass shows the
signatures of all proof rectangles and offers the candidate with the voltages it needs, unless the pass has lost it.
Choices of the model it rests on: log 9, 18, 35, 75, 76, 112. -/
def Obligations.Passes : Prop :=
  ∀ (s : State) (pl : Plate), s.Inv → s.boot.plate = some pl →
    let t := s.passPoint
    let a := s.advance t
    (s.now ≤ t → a.passAllowed = true → a.intervalOver t = true → a.passWanted = true →
      (s.scan.flipPend = true → exec .passStart s = .next (a.onComp fun c => { c with fbAtFlip := true })) ∧
      (s.scan.flipPend = false →
        let u := a.startPass
        exec .passStart s = .next u.rests ∧ u.comp.cand = none ∧ u.comp.prevStart = some t ∧
        u.comp.passes = s.comp.passes + 1 ∧ u.rd .cmpPassCnt = word (satAdd 32 (s.rd .cmpPassCnt).toNat 1) ∧
        (∃ r, u.comp.run = some r ∧ r.start = t ∧ r.frame.timing = s.passTiming ∧
          r.frame.headroom = s.fld .pwrHrCfg 0 10 ∧ r.frame.fallback = s.faults.fallback ∧ r.missed = false) ∧
        (s.power.state = .hold → u.comp.commits = s.comp.commits) ∧
        (∀ r, u.comp.run = some r →
          let f := r.frame
          let whole := s.comp.commits.filter a.appliesWhole
          let part := s.comp.commits.filter a.appliesSeal
          let rect (k : Nat) : RectVals := { org := s.rd .prfOrg k, size := s.rd .prfSize k, exp := s.rd .prfExp k }
          let sealed (c : Commit) : Bool := c.hasSeal && c.sealApplied
          f.mem = s.mem ∧ f.banks = s.comp.banks ∧
          (s.power.state = .hold →
            (∀ n, n < 7 → f.layers.getD n {} = s.applied n) ∧ (∀ j, j < 4 → f.scalers.getD j {} = s.scaler j) ∧
            f.palettes = s.comp.pals ∧ ∀ k, k < 16 → f.rects.getD k {} = rect k) ∧
          (s.power.state ≠ .hold → s.faults.fallback = false →
            (∀ n, n < 6 → Takes whole (·.layers) n (s.applied n) (f.layers.getD n {})) ∧
            Takes (whole.filter fun c => c.hasSeal && !c.sealApplied) (·.layers) 6 (s.applied 6) (f.layers.getD 6 {}) ∧
            (∀ j, j < 4 → Takes whole (·.scalers) j (s.scaler j) (f.scalers.getD j {})) ∧
            (∀ q, q < s.comp.pals.length → Takes whole (·.pals) q (s.comp.pals.getD q []) (f.palettes.getD q [])) ∧
            (∀ k, k < 16 → Takes (if pl.prfClass.getLsbD k then whole.filter fun c => !sealed c else whole) (·.rects) k
              (rect k) (f.rects.getD k {})) ∧
            ∀ c ∈ whole, EndsAs u c .applied) ∧
          (s.power.state ≠ .hold → s.faults.fallback = true →
            (∀ n, n < 6 → f.layers.getD n {} = s.applied n) ∧
            Takes part (·.layers) 6 (s.applied 6) (f.layers.getD 6 {}) ∧
            (∀ j, j < 4 → f.scalers.getD j {} = s.scaler j) ∧ f.palettes = s.comp.pals ∧
            (∀ k, k < 16 → Takes (if pl.prfClass.getLsbD k then part else []) (·.rects) k (rect k)
              (f.rects.getD k {})) ∧
            ∀ c ∈ part,
              (c.hasRest pl = false → EndsAs u c .applied) ∧
              (c.hasRest pl = true → (∀ d ∈ s.comp.commits, d.seq = c.seq → d = c) →
                { c with sealApplied := true } ∈ u.comp.commits))))) ∧
    ((t < s.now ∨ a.passAllowed = false ∨ a.intervalOver t = false ∨ a.passWanted = false) →
      exec .passStart s = .next s) ∧
    (∀ r, s.comp.run = some r →
      let u := s.passEnd
      exec .passEnd s = .next u.rests ∧ u.comp.run = none ∧ u.comp.shown = some r.frame ∧
      u.now = max s.now (r.start + passTime) ∧
      (∀ k, k < 16 → k < r.frame.rects.length →
        u.rd .prfSig k = r.frame.signature (r.frame.rects.getD k {})) ∧
      u.rd .prfPassSeq = word (min r.frame.pass 0xFFFFFFFF) ∧
      (r.dropped = true → u.comp.cand = s.comp.cand) ∧
      (r.dropped = false → ∃ c, u.comp.cand = some c ∧ c.frame = r.frame ∧ c.ipkL = r.frame.ipk 0 ∧
        c.ipkR = r.frame.ipk 1 ∧ c.vreqL = s.vreq .L r.frame.headroom c.ipkL ∧
        c.vreqR = s.vreq .R r.frame.headroom c.ipkR ∧
        ((4200 < s.vreqNow .L r.frame.headroom c.ipkL ∨ 4200 < s.vreqNow .R r.frame.headroom c.ipkR) →
          bit (u.rd .drvEvent) 1 = true)) ∧
      u.comp.commits = s.comp.commits ∧ u.scan.flips = s.scan.flips ∧ u.mem = s.mem) ∧
    (s.comp.run = none → exec .passEnd s = .next s)

/-- Checks of a running pass: a proof rectangle whose signature differs from its expected value sets its bit, counts
once a pass, discards the candidate and reports 0x40 (R187, R188); Seal bytes of the pass that differ from what they
must be discard and report 0x41 or, in the output, 0x42, at the instant of their last pixel (R179); a wrong fallback
pattern discards, reports 0x45 and reloads the bank (R196). `disturb` is what has changed on the way to the checker.
Choices of the model it rests on: log 9, 81. -/
def Obligations.PassChecks : Prop :=
  ∀ (s : State) (r : Pass) (disturb : Word), s.Inv → s.comp.run = some r →
    (∀ k, k < 16 → r.frame.fallback = false →
      let v := r.frame.rects.getD k {}
      let a := s.advance (pixelTime r (v.x0 + v.w - 1) (v.y0 + v.h - 1))
      v.w ≠ 0 →
        (r.frame.signature v = v.exp → exec (.proofCompare k) s = .next a) ∧
        (r.frame.signature v ≠ v.exp →
          let b := a.flag .prfMismatch k
          let c := if r.missed then b else b.count .prfMissCnt 0 32
          exec (.proofCompare k) s = .next (State.rests (State.report (State.dropRun (c.onComp fun x =>
            { x with run := some { r with missed := true } })) 0x40 k)))) ∧
    (r.frame.fallback = true → ∀ k, exec (.proofCompare k) s = .next s) ∧
    (∀ part x y,
      (s.sealReads r.frame part x y = none → exec (.sealCheck part x y disturb) s = .next s) ∧
      (∀ got want, s.sealReads r.frame part x y = some (got, want) →
        let a := s.advance (r.sealInstant part x y)
        (got ^^^ disturb = want → exec (.sealCheck part x y disturb) s = .next a) ∧
        (got ^^^ disturb ≠ want → exec (.sealCheck part x y disturb) s =
          .next (((a.flag .cmpEvent 2).dropRun).report (if part = .output then 0x42 else 0x41)).rests))) ∧
    (∀ pl, r.frame.plate = some pl → r.frame.pattern = true → s.comp.fbReload = false →
      (patternGood r.frame.mem pl.fbBank disturb = true → exec (.fallbackPatternCheck disturb) s = .next s) ∧
      (patternGood r.frame.mem pl.fbBank disturb = false → exec (.fallbackPatternCheck disturb) s = .next (State.rests
        ((((s.flag .cmpEvent 3).dropRun).report 0x45).onComp fun c => { c with fbReload := true })))) ∧
    (r.dropped = false → s.dropRun =
      ((s.onComp fun c => { c with run := some { r with dropped := true } }).count .cmpDiscardCnt 0 32).pmc 0x07)

/-- Errors of memories (R8, R196, R384, R503): a corrected error counts and reports; an uncorrectable one in layer
memory marks its word, discards a pass that reads it and reports 0x22, one in the fallback bank reloads it, one in the
tile stores masks the pixel, one in a command queue empties the port. A reload of the fallback bank writes the plate's
pattern and checks it. A trim store error counts for the running pass; without one it changes nothing (log 9). Choices
of the model it rests on: log 9, 59. -/
def Obligations.MemoryErrors : Prop :=
  ∀ (s : State) (a : Nat), s.Inv →
    let marked := { s with ecc := addNat (a / 8 * 8) s.ecc }
    let c := s.pmc 0x41
    (s.passReadsLayer (a / 8 * 8) = true →
      exec (.memoryEccError (.layerMem a) false) s = .next ((marked.report 0x22).dropRun).rests) ∧
    (s.passReadsLayer (a / 8 * 8) = false →
      exec (.memoryEccError (.layerMem a) false) s = .next (marked.report 0x22).rests) ∧
    exec (.memoryEccError (.layerMem a) true) s = .next (c.report 0x23).rests ∧
    exec (.memoryEccError (.cellar a) true) s = .next (c.report 0x25).rests ∧
    exec (.memoryEccError .cpuSram true) s = .next (c.report 0x21).rests ∧
    exec (.memoryEccError .cpuSram false) s = .next ((s.report 0x20).cpuHalts).rests ∧
    exec (.memoryEccError (.flash a) true) s = .next (c.report 0x2B).rests ∧
    exec (.memoryEccError (.flash a) false) s = .next ((s.flashFails a).report 0x2A).rests ∧
    exec (.memoryEccError (.logRecord a) true) s = .next (c.report 0x2B).rests ∧
    exec (.memoryEccError (.logRecord a) false) s =
      .next (State.rests ((s.onFaults fun f => { f with logBad := addNat a f.logBad }).report 0x2A)) ∧
    exec (.memoryEccError .pipeRam false) s = .next (s.report 0x28).dropRun.rests ∧
    (∀ b i, exec (.memoryEccError (.tileStore b i) false) s = .next (State.rests (State.report (s.onScan fun x =>
      let put (y : Buffer) : Buffer := { y with words := y.words.filter (fun e => e.1 != i) ++ [(i, maskWord)] }
      if b then { x with buf1 := put x.buf1 } else { x with buf0 := put x.buf0 }) 0x26))) ∧
    (∀ p, exec (.memoryEccError (.queue p) false) s = .next (((s.abandon p).clearPort p).report 0x29).rests) ∧
    (∀ pl, s.boot.plate = some pl →
      (bankBase pl.fbBank ≤ a → a < bankBase pl.fbBank + 0x10000 → exec (.memoryEccError (.cellar a) false) s =
        .next (State.rests ((if s.passReadsBank pl.fbBank a then (marked.report 0x24).dropRun
          else marked.report 0x24).onComp fun c => { c with fbReload := true }))) ∧
      ((a < bankBase pl.fbBank ∨ bankBase pl.fbBank + 0x10000 ≤ a) →
        exec (.memoryEccError (.cellar a) false) s = .next (marked.report 0x24).rests) ∧
      (s.comp.fbReload = true →
        let u : State := (s.reloadPattern pl).onComp fun c => { c with fbReload := false }
        ∀ disturb : Word,
          (patternGood u.mem pl.fbBank disturb = true → exec (.fallbackReloadDone disturb) s = .next u) ∧
          (patternGood u.mem pl.fbBank disturb = false → exec (.fallbackReloadDone disturb) s =
            .next (State.rests ((u.report 0x45).onComp fun c => { c with fbDead := true }))))) ∧
    (∀ g, g < 16 → s.comp.run.isSome →
      exec (.storeEccError g) s = .next (((s.dropRun.flag .calEvent 8).report 0x67 g).loadBlock g).rests) ∧
    (s.comp.run = none → ∀ g, exec (.storeEccError g) s = .next s)

/-! ## Rails, calibration and converters -/

/-- Answers of the adaptive rails (R146 to R149, R459, R460, R463, R466 to R469): an acknowledged request sets the
rail's target, and an entry of the power manager goes on with it, or begins with it where it waited for the rail; a
failed attempt counts and the request is sent again; the fourth failure leaves the target, is reported, and discards a
candidate that waited for this raise, or ends an entry where it began, and a lower or loop request that has failed is
owed. An entry to SLEEP that aborts gives up its own request on rail 0 and no other, and the one that waited is sent.
The requests of wake step 1 are those of the guardian (R476). With VDone a Status read acknowledges. Choices of the
model it rests on: log 9, 34, 39, 56, 95, 116. -/
def Obligations.RailAnswers : Prop :=
  ∀ (s : State) (k : Nat), s.Inv →
    ((s.rail k).req = none →
      exec (.avsAcknowledge k) s = .next s ∧ exec (.avsNack k) s = .next s ∧ exec (.avsTimeout k) s = .next s ∧
      exec (.avsStatusPoll k true) s = .next s ∧ exec (.avsStatusPoll k false) s = .next s) ∧
    (∀ q, (s.rail k).req = some q →
      (q.why ≠ .wake →
       let u := s.railAck k
       exec (.avsAcknowledge k) s = .next u.rests ∧
       (u.rail k).acked = (match q.power with
         | none => q.mv
         | some true => (s.rail k).acked
         | some false => 0) ∧
       (u.rail k).on = q.power.getD (s.rail k).on ∧
       (∀ j, j ≠ k → (u.rail j).acked = (s.rail j).acked ∧ (u.rail j).on = (s.rail j).on) ∧
       (∀ t, q.why = .entry → s.power.trans = some t →
         (t.target = .run → k = 1 → t.step = 1 →
           (q.power = none → u.inStep .run 2 = true ∧ u.power.rising &&& 0xC0 = 0xC0) ∧
           (q.power.isSome → ∃ r, (u.rail 1).req = some r ∧ r.power = none ∧ r.mv = 900 ∧ r.why = .entry)) ∧
         (t.target = .standby → k = 1 → t.step = 3 →
           u.power.state = .standby ∧ u.power.trans = none ∧ u.scan.on = false) ∧
         (t.target = .sleep → k = 0 → t.step = 5 →
           u.power.state = .sleep ∧ u.power.trans = none ∧ u.power.doms = 0 ∧ (u.rail 0).req = none ∧
           (u.rail 0).next = none)) ∧
       (∀ t, q.why ≠ .entry → s.power.trans = some t → (s.rail k).next = none →
         (t.target = .run → k = 1 → t.step = 0 → u.inStep .run 1 = true ∧
           ∃ r, (u.rail 1).req = some r ∧ r.power = some true ∧ r.why = .entry) ∧
         (t.target = .sleep → k = 0 → t.step = 4 → u.inStep .sleep 5 = true ∧
           ∃ r, (u.rail 0).req = some r ∧ r.power = some false ∧ r.why = .entry))) ∧
      (q.why ≠ .wake → q.fails < 3 →
        exec (.avsNack k) s = .next (State.pmc (State.avsWrite (State.onRail (s.count .pwrRailCnt 24 8 1 k) k fun r =>
          { r with req := some { q with fails := q.fails + 1, sent := s.now } }) k q.power q.mv) 0x39) ∧
        (let a := s.advance (q.sent + 2 * msec)
         exec (.avsTimeout k) s = .next (State.pmc (State.avsWrite (State.onRail (a.count .pwrRailCnt 16 8 1 k) k fun r =>
           { r with req := some { q with fails := q.fails + 1, sent := a.now } }) k q.power q.mv) 0x39))) ∧
      (q.why = .wake → ∀ n, s.power.stage = .step 1 n →
        (q.power.isSome → exec (.avsAcknowledge k) s = .next ((s.railTake 0 q).railSend 0 none s.vcoreTarget .wake).rests) ∧
        (q.power = none → exec (.avsAcknowledge k) s = .next (s.stepNext 1).rests) ∧
        exec (.avsNack k) s = .next ((s.railCountFail 0 true).attemptFails 1 n).rests ∧
        exec (.avsTimeout k) s = .next s.stepTimesOut.rests) ∧
      (3 ≤ q.fails → q.why ≠ .entry → q.why ≠ .wake →
        let u := s.railFail k true
        let v := (s.advance (q.sent + 2 * msec)).railFail k false
        exec (.avsNack k) s = .next u.rests ∧ exec (.avsTimeout k) s = .next v.rests ∧
        u.faults.reports = [⟨0x04, k⟩] ∧ v.faults.reports = [⟨if k < 2 then 0x0A else k, k⟩] ∧
        (∀ j, (u.rail j).acked = (s.rail j).acked ∧ (v.rail j).acked = (s.rail j).acked) ∧
        (let owed := (s.rail k).owed || decide (q.why = .lower) || decide (q.why = .loop)
         (u.rail k).owed = owed ∧ (v.rail k).owed = owed) ∧
        bit (u.rd .pwrEvent) 5 = true ∧ bit (v.rd .pwrEvent) 5 = true ∧
        (q.why = .raise → s.candWaitsOn k = true → u.comp.cand = none ∧ u.scan.flipPend = false)) ∧
      (∀ t, 3 ≤ q.fails → q.why = .entry → s.power.trans = some t →
        let u := s.railFail k true
        exec (.avsNack k) s = .next u.rests ∧ ⟨0x04, k⟩ ∈ u.faults.reports ∧
        ((t.target = .run ∨ t.target = .sleep) → u.power.state = .standby ∧ u.power.trans = none) ∧
        (t.target = .standby → t.leave = false → u.power.state = t.source ∧ u.power.trans = none)) ∧
      (∀ t code,
        let u := s.abortSleep t code
        (k = 0 → q.why ≠ .entry → (u.rail 0).req = some q ∧ (u.rail 0).next = (s.rail 0).next) ∧
        (∀ mv why, k = 0 → q.why = .entry → (s.rail 0).next = some (mv, why) → why ≠ .lower → mv ≠ (s.rail 0).acked →
          (u.rail 0).next = none ∧
          ∃ r, (u.rail 0).req = some r ∧ r.power = none ∧ r.mv = mv ∧ r.why = why)) ∧
      (let t := q.sent + 20 * usec * ((s.now - q.sent) / (20 * usec) + 1)
       (t ≤ q.sent + 2 * msec →
         exec (.avsStatusPoll k false) s = .next ((s.advance t).avsFrame k .status none) ∧
         exec (.avsStatusPoll k true) s = exec (.avsAcknowledge k) ((s.advance t).avsFrame k .status none)) ∧
       (q.sent + 2 * msec < t → ∀ vdone, exec (.avsStatusPoll k vdone) s = .next s)))

/-- The headroom loop (R425, R470, R471): PERIOD after its last update, from the smallest latest HMIN result of the
die's regions with a conducting sink, T rises by up to 50 mV or falls by 5 mV within -300 to 600 mV, PWR_HR_MIN shows
the minimum, the third low update in a row is reported, and the other die keeps its T. A die without such a result, or
switched off, keeps its T too. A request that has failed is made again at the next update (R469). Choices of the model
it rests on: log 9. -/
def Obligations.HeadroomUpdates : Prop :=
  ∀ (s : State) (d : Die), s.Inv →
    let h := s.fld .pwrHrCfg 0 10
    let dead := s.fld .pwrHrCfg 24 8
    let old := s.hrT d
    let a := s.advance ((s.hrTim d).1 + (s.hrTim d).2)
    let u := s.headroom d
    exec (.headroomUpdate d) s = .next u.rests ∧ u.now = a.now ∧
    u.hrTim d = (a.now, s.fld .pwrHrCfg 16 8 * msec) ∧
    ((s.domOn (arrDomain d) = false ∨ (s.hmins d = [] ∧ (s.rail (2 + dieIx d)).owed = false)) →
      u = a.setHrTim d (a.now, s.fld .pwrHrCfg 16 8 * msec)) ∧
    (s.domOn (arrDomain d) = true → s.hmins d = [] → (s.rail (2 + dieIx d)).owed = true →
      u = (a.setHrTim d (a.now, s.fld .pwrHrCfg 16 8 * msec)).hrRequest d) ∧
    (∀ x t, s.domOn (arrDomain d) = true → s.hmins d = x :: t →
      let hmin := t.foldl min x
      u.hrT d = clampInt (if hmin < h then old + (min 50 (5 * ((h - hmin + 4) / 5)) : Nat)
        else if h + dead < hmin then old - 5 else old) (-300) 600 ∧
      (∀ e, e ≠ d → u.hrT e = s.hrT e) ∧ u.fld .pwrHrMin (16 * dieIx d) 16 = hmin % 65536 ∧
      u.hrLow d = (if hmin < 100 then s.hrLow d + 1 else 0) ∧
      u.faults.reports = (if hmin < 100 ∧ s.hrLow d = 2 then [⟨0x07, dieIx d⟩] else []) ∧
      (u.hrT d = old → (s.rail (2 + dieIx d)).owed = false → u.power.rails = s.power.rails) ∧ u.comp = s.comp ∧
      u.scan = s.scan)

/-- Calibration steps (R368, R394 to R397, R402, R404, R411): the sums of the samples, the gain m and the trim that
brings it to T, with the three refusals of a result; a step that a pause has met is abandoned; a graded one moves the
plan on, and a failing sink is switched off. A round that lasts 270,336 cycles is reported once. Choices of the model
it rests on: log 9, 44. -/
def Obligations.CalibrationSteps : Prop :=
  ∀ (s : State) (g : Nat) (m : StepSums) (ok : Bool), s.Inv → g < 16 →
    let r := s.region g
    let b := s.advance s.decisionAt
    let a := b.pmc 0x33
    ((∀ k, k < 5 → 192 ≤ (r.sums.getD k (0, 0)).2) →
      let x (k : Nat) : Nat := (r.sums.getD k (0, 0)).1
      a.stepSums g ok = ({ r0 := x 0, r1 := x 1, r2 := x 2, r3 := x 3, rref := x 4, regOk := ok }, a)) ∧
    (∀ (cfg : Word) (t : Nat) (old : BitVec 9), 0 < stepG m → 0 < m.rref →
      let gain : Nat := (stepG m).toNat * 65536 / m.rref % 2 ^ 32
      let x : Nat := ((8192 + old.toInt).toNat * t + gain / 2) / gain
      let trim : Int := (x : Int) - 8192
      0 < gain → ∃ res, s.gradeAgainst cfg m (some t) old = (gain, res, s) ∧
        (res = .sinkFail ↔ m.regOk = false ∨ field cfg 16 4 * t < ((gain : Int) - t).natAbs * 64) ∧
        (res = .lin → field cfg 8 8 * (stepG m).toNat < stepE m * 64) ∧
        (∀ b, res = .pass b → b = BitVec.ofInt 9 trim ∧ -256 ≤ trim ∧ trim ≤ 255) ∧
        (∀ b, res = .limit b → b = BitVec.ofInt 9 (if trim < 0 then -256 else 255) ∧ (trim < -256 ∨ 255 < trim))) ∧
    (s.scan.on = true → r.stepOn = true → 7 ≤ s.stepCycle g → s.stepCycle g < 2 ^ 63 → r.readmitting = false →
      ((r.upset = true ∨ s.calPaused (dieOf g) = true) →
        exec (.calStepEnd g ok) s = .next (a.onRegion g fun r => r.abandon true).rests ∧
        b.stepCut g true = a.onRegion g fun r => r.abandon true) ∧
      (r.upset = false → s.calPaused (dieOf g) = false →
        let e := (a.stepSums g ok).2
        let p := e.planned g r.step
        let (gain, res, b) := e.gradeAgainst r.cfg (a.stepSums g ok).1 (if r.mode = .round then r.target else none)
          (tabGet 0 e.cal.trims (trimNo p))
        let c := b.onRegion g fun r => (r.graded p gain res).stepDone
        exec (.calStepEnd g ok) s =
          .next (State.rests ((if res = .sinkFail then c.measuredFails p else c).afterStep g)))) ∧
    (s.scan.on = true → r.stepOn = true → 7 ≤ s.stepCycle g → s.stepCycle g < 2 ^ 63 → r.readmitting = true →
      ((r.upset = true ∨ s.calPaused (dieOf g) = true ∨ s.samplesOff = true) →
        exec (.calStepEnd g ok) s = .next (b.readmitFails g 3).rests) ∧
      (∀ u, r.upset = false → s.calPaused (dieOf g) = false → s.samplesOff = false →
        s.diag.readmit.getD g none = some u →
        exec (.calStepEnd g ok) s = .next ((a.stepSums g ok).2.readmitGraded g u (a.stepSums g ok).1).rests)) ∧
    ((s.scan.on = false ∨ r.stepOn = false ∨ s.stepCycle g < 7) → exec (.calStepEnd g ok) s = .next s) ∧
    (r.running = true → r.stalled = false →
      let k := (s.scan.cycle - r.startCycle).toNat
      (270336 ≤ k → k < 2 ^ 63 → exec (.roundStall g) s = .next (State.rests
        (((s.onRegion g fun r => { r with stalled := true }).flag .calEvent 6).report 0x64 g))) ∧
      (k < 270336 → exec (.roundStall g) s = .next s)) ∧
    (r.stalled = true → exec (.roundStall g) s = .next s)

/-- Timers of the calibration (R358, R413 to R416, R418): the samples of a slot enter the sums of the running interval
of the flux monitors, whose end changes C only of regions in fall-back, in steps within its range, and begins the
next; a changed trim image is written after CAL_SAVE.MINUTES, and the settings record after a change of what it holds.
Choices of the model it rests on: log 9, 37, 44. -/
def Obligations.CalibrationTimers : Prop :=
  ∀ (s : State), s.Inv →
    (∀ t n, s.cal.flux = some (t, n) →
      let u := s.fluxInterval
      exec .fluxInterval s = .next u.rests ∧ u.now = max s.now (t + n) ∧
      u.cal.flux = some (u.now, s.fld .calFbCfg 0 8 * 100 * msec) ∧ u.cal.trims = s.cal.trims ∧ u.cal.store = s.cal.store ∧
      (∀ g, (s.region g).fallback = false → (u.region g).c = (s.region g).c) ∧
      (∀ g, (u.region g).c = (s.region g).c ∨ 24576 ≤ (u.region g).c ∧ (u.region g).c ≤ 40960) ∧
      (∀ g, (u.region g).fluxF = 0 ∧ (u.region g).fluxD = 0 ∧ (u.region g).fluxSlots = 0)) ∧
    (s.cal.flux = none → exec .fluxInterval s = .next s) ∧
    (∀ g m on off, g < s.cal.regions.length →
      let r := s.region g
      ((s.fluxSample g 4 m on).fluxSample g 5 m off).region g =
        { r with fluxOn := none, fluxF := r.fluxF + ((on : Int) - (off : Nat)), fluxD := r.fluxD + s.slotCurrent g m
                 fluxSlots := r.fluxSlots + 1 }) ∧
    (s.controlOn = true →
      (s.cal.dirty = true → exec .trimSaveDue s = .next ((s.advance (s.cal.save.1 + s.cal.save.2)).addJob .trims)) ∧
      (s.cal.dirty = false → exec .trimSaveDue s = .next s) ∧
      (s.diag.unsaved.isSome → exec .settingsWrite s = .next (s.addJob .settings)) ∧
      (s.diag.unsaved = none → exec .settingsWrite s = .next s)) ∧
    (s.controlOn = false → exec .trimSaveDue s = .next s ∧ exec .settingsWrite s = .next s)

/-- Conversions (R423, R424, R427 to R437, R440 to R442, R446, R448): a scheduled conversion starts at its tick of the
running slot, an urgent, a host and a group conversion at the first sample instant at which the converter is free; an
urgent request that finds none counts a drop, and every DROP_CFG-th in a row is reported; a result is corrected with
the coefficients that its conversion began with and goes to its asker, a host request ends with the mean of its 2^AVG
results. A completed urgent request clears its count of drops in a row, that of a reference check with its second
input. A SYNCIN group whose instant has come, of the converters and inputs of its edge, starts before each, but after
an urgent request that samples at the same instant. Choices of the model it rests on: log 3, 9, 28, 79. -/
def Obligations.Conversions : Prop :=
  ∀ (s : State) (n raw : Nat), s.Inv →
    (∀ u k input, s.nextScheduled n = some (u, k, input) →
      u = s.slotStart + k * tickLen ∧ s.now ≤ u ∧ (k, input) ∈ scheduledTicks s.scan.cur s.scan.slot (s.measuring n) ∧
      let a := ((s.advance u).syncGroup u).convBy n u
      (n < 16 → s.convOn n = true → (s.conv n).retired = false → a.convBusy n u = false →
        exec (.scheduledConversion n) s = .next (State.rests (State.onConv
          ((a.startConv n input (.scheduled k s.scan.slot) u).holdFlux input) n fun c => { c with sched := u }))) ∧
      ((s.convOn n = false ∨ (s.conv n).retired = true ∨ a.convBusy n u = true) →
        exec (.scheduledConversion n) s = .next s)) ∧
    (s.nextScheduled n = none → exec (.scheduledConversion n) s = .next s) ∧
    (let t := s.sampleAt n s.now
     let a := (s.syncGroup t).convBy n t
     (∀ q, (s.conv n).req = some q → s.hostWants n = some (q.input, .host)) ∧
     (∀ input who, n < 20 → a.hostWants n = some (input, who) → a.convFree n t = true → a.urgentWaiting n t = false →
       exec (.hostConversionStart n) s = .next (a.startConv n input who t).rests) ∧
     ((a.hostWants n = none ∨ a.convFree n t = false ∨ a.urgentWaiting n t = true) →
       exec (.hostConversionStart n) s = .next s)) ∧
    (∀ k, (k < 8 ∨ 16 ≤ k ∧ k < 32) → s.converterOf k = n → (s.conv n).retired = false → s.convOn n = true →
      let p := urgentPeriod k
      let w := s.advance (s.urgentDue k)
      let b := w.onAdc fun a => { a with urgentAt := modifyAt (fun b => b + (w.now - b) / p * p) (dropIndex k) a.urgentAt
                                         asked := addNat k a.asked }
      let t := b.sampleAt n b.now
      let a := (b.syncEarlier n t).convBy n t
      (a.convFree n t = true →
        exec (.urgentRequest k) s = .next ((a.startConv n (urgentInput k) (.urgent k) t).syncGroup t).rests) ∧
      (a.convFree n t = false →
        let run := satAdd 8 (a.dropsOf k).2 1
        let u := ((a.setDrops k (satAdd 16 (a.dropsOf k).1 1, run)).flag .adcEvent (if k < 8 then 1 else 0)).pmc 0x38
        ((255 ≤ (a.dropsOf k).2 ∨ run % a.fld .adcDropCfg 0 8 ≠ 0) →
          exec (.urgentRequest k) s = .next (u.syncGroup t).rests) ∧
        ((a.dropsOf k).2 < 255 → run % a.fld .adcDropCfg 0 8 = 0 → exec (.urgentRequest k) s = .next (State.rests
          ((if k < 8 then u.report 0x69 (u.converterOf k - 16) else u.report 0x68 (k - 16)).syncGroup t))))) ∧
    (let tick := field (s.rd .adcGrpPhase) 16 15
     let at_ := s.slotStart + (if s.scan.cur.len ≤ tick then 0 else tick) * tickLen
     let a := ((s.advance at_).syncGroup at_).onAdc fun a => { a with trigAt := some s.slotStart }
     let plan := a.groupSel.map fun n => (n, a.groupInput n)
     (s.groupDue = true → s.now ≤ at_ →
       (tick < s.scan.cur.len → exec .groupTrigger s = .next (a.groupStart at_ plan).rests) ∧
       (s.scan.cur.len ≤ tick → exec .groupTrigger s = .next ((a.flag .adcEvent 7).groupStart at_ plan).rests)) ∧
     ((s.groupDue = false ∨ at_ < s.now) → exec .groupTrigger s = .next s)) ∧
    ((s.conv n).busy = none → exec (.conversionDone n raw) s = .next s) ∧
    (let b := s.syncBefore n
     exec (.conversionDone n raw) s = .next (b.conversionDone n raw).rests ∧
     (∀ u plan input who t, s.adc.syncAt = some (u, plan) → (s.conv n).busy = some (input, who, t) →
       (s.sampleAt n u < t → b = (s.onAdc fun a => { a with syncAt := none }).groupStart u plan) ∧
       (t ≤ s.sampleAt n u → b = s)) ∧
     ((s.adc.syncAt = none ∨ (s.conv n).busy = none) → b = s)) ∧
    (∀ input who t, n < 20 → (s.conv n).busy = some (input, who, t) →
      let code := raw % (maxCodeOf n + 1)
      let res := s.resultOf n code
      let u := s.conversionDone n raw
      u.now = max s.now t ∧ tabGet 0 (u.conv n).latest input = res ∧
      ((∀ k, who ≠ .urgent k) → (u.conv n).busy = none) ∧
      (∀ k, who = .urgent k → (k < 8 ∨ 16 ≤ k ∧ k < 32) →
        ((k < 4 ∨ 8 ≤ k ∨ input ≠ 6) → (u.dropsOf k).2 = 0 ∧ (u.conv n).busy = none) ∧
        (4 ≤ k → k < 8 → input = 6 → (u.dropsOf k).2 = (s.dropsOf k).2 ∧
          (u.conv n).busy = some (7, .urgent k, u.sampleAt n t + convTime n))) ∧
      (∀ x, who = .group → s.adc.group = some x → u.adc.group = some { x with results := (n, res) :: x.results }) ∧
      (∀ x, who = .ucal → s.adc.ucal = some x → 16 + x.chan / 8 = n → u.adc.ucal = some (x.next code)) ∧
      (∀ q, who = .host → (s.conv n).req = some q →
        (1 < q.left → (u.conv n).req = some { q with left := q.left - 1, sum := q.sum + res }) ∧
        (q.left ≤ 1 →
          let value := if q.avg = 0 then res else (q.sum + res + 2 ^ q.avg / 2) / 2 ^ q.avg
          let again := (s.advance t).wroteOne ((ctlOf n).1.key .A (ctlOf n).2 0)
          (again = true → (u.conv n).req.isSome) ∧ (again = false → (u.conv n).req = none) ∧
          (n < 16 → u.rd .tilAdcRes n = word (value + 2 ^ 24 * ((s.fld .tilAdcRes 24 8 n + 1) % 256)) ∧
            (again = false → bit (u.rd .tilAdcCtl n) 0 = false)) ∧
          (16 ≤ n → u.rd .adcSres (n - 16) = word (value + 2 ^ 24 * ((s.fld .adcSres 24 8 (n - 16) + 1) % 256)) ∧
            (again = false → bit (u.rd .adcSctl (n - 16)) 0 = false)))))

/-- The end of a group conversion and of a user calibration (R443, R445, R446): every converter of the group shows its
corrected result with the group's number, and GO reads 0, but after a further write of 1 in that CK_FAB cycle (R21);
of 256 conversions a zero is held, a full-scale result or a reset puts the channel's coefficients into force and asks
for a write of the settings record, and a failure changes no coefficient. Choices of the model it rests on: log 3, 9,
79. -/
def Obligations.GroupsAndUserCalibration : Prop :=
  ∀ (s : State) (raws : List Nat), s.Inv →
    (∀ (x : Group) (inp fin : Nat → Nat), s.adc.group = some x → x.sel.Nodup → x.results = [] →
      (∀ n ∈ x.sel, n < 20 ∧ (s.conv n).busy = some (inp n, .group, fin n) ∧ fin n ≤ x.fin) →
      x.sel.length ≤ raws.length →
      let u := s.groupDone raws
      let seq := (s.rd .adcGrpSeq).toNat + 1
      exec (.groupDone raws) s = .next u.rests ∧ u.rd .adcGrpSeq = word seq ∧
      ((s.advance x.fin).wroteOne (Reg.adcGrpCtl.key .A 0 0) = false →
        u.adc.group = none ∧ u.rd .adcGrpCtl = 0 ∧ u.now = max s.now x.fin ∧
        (∀ i n, x.sel[i]? = some n → (u.conv n).busy = none ∧
          u.rd .adcGres n = word (s.resultOf n (raws.getD i 0 % (maxCodeOf n + 1)) + 2 ^ 24 * (seq % 256))))) ∧
    (s.adc.group = none →
      let b := s.syncGroup ((s.adc.syncAt.map (·.1)).getD 0)
      (s.adc.syncAt = none → b = s) ∧ (b.adc.group = none → exec (.groupDone raws) s = .next b.rests) ∧
      (b.adc.group.isSome → exec (.groupDone raws) s = exec (.groupDone raws) b)) ∧
    (∀ x, s.adc.ucal = some x → x.left ≠ 0 → exec .ucalDone s = .next s) ∧
    (∀ x, s.adc.ucal = some x → x.left = 0 → x.op = .zero →
      let ofs := (x.sum + 128) / 256
      (ofs ≤ 2048 → exec .ucalDone s =
        .next ((s.onAdc fun a => { a with zero := some (x.chan, (ofs : Int)) }).ucalShow 1)) ∧
      (2048 < ofs → exec .ucalDone s = .next ((s.ucalShow 3).flag .adcEvent 5))) ∧
    (∀ x c ofs, s.adc.ucal = some x → x.left = 0 → x.op = .full → s.adc.zero = some (c, ofs) →
      let d : Int := ((x.sum + 128) / 256 : Nat) - ofs
      let gain := (s.fld .adcUcalTarget 0 16 * 32768 + d.toNat / 2) / d.toNat
      let failed (code : Nat) : State := ((s.onAdc fun a => { a with zero := none }).ucalShow code).flag .adcEvent 5
      (x.sat = true → exec .ucalDone s = .next (failed 5)) ∧
      (x.sat = false → (d ≤ 0 ∨ gain < 16384 ∨ 65535 < gain) → exec .ucalDone s = .next (failed 4)) ∧
      (x.sat = false → 0 < d → 16384 ≤ gain → gain ≤ 65535 →
        exec .ucalDone s = .next (s.ucalSet x.chan (ofs, gain)))) ∧
    (∀ x, s.adc.ucal = some x → x.left = 0 → x.op = .reset →
      exec .ucalDone s = .next (s.ucalSet x.chan (0, 32768))) ∧
    (∀ k c, let u := s.ucalSet k c
      tabGet (0, 32768) u.adc.coef k = c ∧ (∀ j, j ≠ k → tabGet (0, 32768) u.adc.coef j = tabGet (0, 32768) s.adc.coef j) ∧
      u.adc.ucal = none ∧ FlashJob.settings ∈ u.boot.jobs) ∧
    (s.adc.ucal = none → exec .ucalDone s = .next s)

/-! ## Power, start and wake -/

/-- What begins a start, and with which cause (R453, R456, R484, R494, R528, R529, R530, R592, R601): the control die
and all domains stop, reactions, transitions and sessions end, flash, fuses and layer memory keep what they have, and
step 1, with its request to rail 0, follows once VIN, VIO and VPHY are good and RESET_N is high. While RESET_N is low,
or VIO or VPHY is not good, no step runs and PO1 is off, at once. VIN below its threshold takes everything but the
flash. Choices of the model it rests on: log 9, 48, 95. -/
def Obligations.Starts : Prop :=
  ∀ (s : State), s.Inv →
    (∀ cause, cause < 16 →
      let u := s.beginStart cause
      u.rd .botResetCause = word cause ∧
      u.power.stage = (if s.power.vin && s.power.vio && s.power.vphy && s.power.resetN then .step 1 0 else .waiting) ∧
      u.power.state = (if s.power.state = .sleep then .sleep else if s.power.state = .off then .off else .standby) ∧
      (u.power.stage = .step 1 0 → 0 < s.power.rails.length → ∃ q, (u.rail 0).req = some q ∧ q.power = some true ∧ q.why = .wake) ∧
      u.power.trans = none ∧ u.power.doms = 0 ∧ u.power.cpuRun = false ∧ u.power.refClock = false ∧
      u.power.pll = false ∧ u.scan.on = false ∧
      u.linkA.state = .disabled ∧ u.linkB.state = .disabled ∧ u.faults.fallback = false ∧ u.faults.dark = false ∧
      u.faults.halt = false ∧ u.boot.sessionFw = none ∧ u.boot.sessionPl = none ∧ u.boot.flash = s.boot.flash ∧
      u.boot.otp = s.boot.otp ∧ u.boot.slots = s.boot.slots ∧ SameMemory s u) ∧
    (s.power.vin = false →
      let u := (s.onPower fun w => { w with vin := true, wakeFailed := false }).onGuard fun g =>
        { g with sia := {}, sib := {}, testAt := s.now, testLen := s.testPeriod, testNext := s.testPeriod }
      exec .vinRise s = .next (State.rests (u.beginStart (if s.power.resetN then 1 else 2)))) ∧
    (s.power.vin = true →
      exec .vinRise s = .next s ∧
      (let u := s.vinFall
       exec .vinFall s = .next u.rests ∧ u.power.state = .off ∧ u.power.stage = .idle ∧ u.power.vin = false ∧
       u.guard = {} ∧ u.mem = [] ∧ u.ecc = [] ∧ u.power.rails = [{}, {}, {}, {}] ∧
       u.boot.flash = s.boot.flash ∧ u.boot.otp = s.boot.otp ∧
       (∀ (d : Word) (a : Nat), a ≠ 0xC → tabGet d u.regs a = d))) ∧
    (let held (b u : State) : Prop := u = (b.holdStart 2).po1Held ∧ u.guard.po1.cmd = false ∧ u.power.stage = .waiting ∧
       u.rd .botResetCause = 2
     (s.power.resetN = true → s.power.vin = true → ∃ u, exec (.resetN true) s = .next u.rests ∧
       held (s.onPower fun w => { w with resetN := false }) u) ∧
     (∀ r, s.supplyGood r = true → s.power.vin = true → ∃ u, exec (.supplyGoodLoss r) s = .next u.rests ∧
       held (s.setSupply r false) u)) ∧
    (s.power.resetN = true → s.power.vin = false →
      exec (.resetN true) s = .next (s.onPower fun w => { w with resetN := false })) ∧
    (s.power.resetN = false →
      exec (.resetN true) s = .next s ∧
      exec (.resetN false) s = .next (State.proceedStart (s.onPower fun w => { w with resetN := true }))) ∧
    (∀ r, (s.supplyGood r = true → s.power.vin = false →
        exec (.supplyGoodLoss r) s = .next (s.setSupply r false)) ∧
      (s.supplyGood r = true → exec (.powerGoodReturn r) s = .next s) ∧
      (s.supplyGood r = false →
        exec (.supplyGoodLoss r) s = .next s ∧
        exec (.powerGoodReturn r) s = .next (s.setSupply r true).proceedStart)) ∧
    (∀ cause, 2 ≤ cause → cause ≤ 8 → cause ≠ 7 →
      (s.power.vin = true → exec (.start cause) s = .next (s.beginStart cause).rests) ∧
      (s.power.vin = false → exec (.start cause) s = .next s)) ∧
    (s.power.state = .sleep → s.power.stage = .idle → exec (.start 7) s = .next (s.beginStart 7).rests) ∧
    (s.power.state ≠ .sleep → exec (.start 7) s = .next s) ∧
    (s.power.stage = .retry → exec .startRetry s = .next (State.proceedStart
      ((s.advance (s.power.stepAt + 1000 * msec)).onPower fun w => { w with stage := .waiting }))) ∧
    (s.power.stage ≠ .retry → exec .startRetry s = .next s) ∧
    (∀ t, s.guard.restartAt = some t → exec .guardianRestart s =
      .next (State.rests (State.beginStart ((s.advance t).onGuard fun g => { g with restartAt := none }) 3))) ∧
    (s.guard.restartAt = none → exec .guardianRestart s = .next s)

/-- The steps of R476 (R464, R477, R529, R612): steps 1 to 3 follow one another, each is tried four times, step 1 with
a new request to rail 0, and a failure is shown and switches the rails, the oscillator and the PLL off. Step 4 starts
the time base and sets every register outside the AON domain to its reset value; memory reads 0 but for the retained
banks of a wake, and the semaphores are free. Choices of the model it rests on: log 9, 48, 49, 57, 63, 95. -/
def Obligations.StartSteps : Prop :=
  ∀ (s : State) (n tries : Nat), s.Inv → s.power.stage = .step n tries →
    (n < 4 →
      let u := s.stepNext n
      exec .wakeStepDone s = .next u ∧ u.power.stage = .step (n + 1) 0 ∧ u.power.stepAt = s.now ∧
      u.power.refClock = (s.power.refClock || decide (n = 2)) ∧ u.power.pll = (s.power.pll || decide (n = 3)) ∧
      (n = 1 → 0 < s.power.rails.length →
        (u.rail 0).on = true ∧ (u.rail 0).acked = min 900 s.boot.otp.speed ∧ (u.rail 0).req = none) ∧
      (n ≠ 1 → u.power.rails = s.power.rails) ∧ u = { s with power := u.power }) ∧
    (4 ≤ n →
      let u := s.controlUp
      exec .wakeStepDone s = .next u.rests ∧ u.power.state = .standby ∧ u.power.stage = .phase .a ∧ u.power.doms = 1 ∧
      u.now = s.now ∧ u.tbStart = s.now ∧ u.pending = s.pending ∧
      (∀ (d : Word) (a : Nat), aonKey s.power.wake a = false → a ≠ Reg.key .glbStrap .A 0 0 → tabGet d u.regs a = d) ∧
      u.rd .glbStrap = s.power.straps.zeroExtend 32 ∧
      (∀ a, memByte u.mem a = if s.power.wake && retainedAt s.power.retain a then memByte s.mem a else 0) ∧
      (∀ k, u.owner k = none) ∧ u.comp = State.reset.comp ∧ u.scan = State.reset.scan ∧ u.diag = State.reset.diag ∧
      (∀ p, (u.port p).queue = [] ∧ (u.port p).outbox = [] ∧ (u.port p).wire = (s.port p).wire) ∧
      u.boot.flash = s.boot.flash ∧ u.boot.otp = s.boot.otp ∧ u.boot.plate = none) ∧
    (n < 4 →
      let c := s.advance (s.power.stepAt + stepTimeout n)
      let a := if n = 1 then c.railCountFail 0 false else c
      let b := a.onPower fun w => { w with stage := .step n (tries + 1), stepAt := a.now }
      let d := if n = 1 then b.railUp else b
      (tries < 3 → s.power.wake = false → exec .wakeStepTimeout s = .next d) ∧
      (tries < 3 → s.power.wake = true → exec .wakeStepTimeout s = .next (d.count .pwrWakeStat 16 8)) ∧
      (3 ≤ tries →
        let u := a.stepFails n
        exec .wakeStepTimeout s = .next u.rests ∧ u.fld .pwrWakeStat 4 2 = n ∧ u.power.rails = [{}, {}, {}, {}] ∧
        u.power.stage = (if s.power.wake then .idle else .retry) ∧ u.power.refClock = false ∧ u.power.pll = false ∧
        u.power.wakeFailed = (s.power.wakeFailed || s.power.wake) ∧ (∀ p, (u.port p).sclHeld = false)))

/-- The phases of a start (R477, R530, R532, R534, R535, R542, R545): self-test, boot record, firmware, processor,
settings, plate, storeroom and restoration. A PENDING image that passes runs on TRIAL; an ACTIVE firmware that fails
gives way to the other slot, and without a valid one the device recovers; a plate that fails is refused with its
reason; images on TRIAL are rolled back before (R542). The end of a phase outside every phase changes nothing (log 9).
Choices of the model it rests on: log 8, 9, 47, 96. -/
def Obligations.StartPhases : Prop :=
  ∀ (s : State) (passed : Bool), s.Inv →
    let u := s.phaseDone passed
    exec (.startPhaseDone passed) s = .next u.rests ∧
    (s.power.stage = .phase .a → u.power.stage = (if passed then .phase .b else .dead)) ∧
    (s.power.stage = .phase .b → u.power.stage = .phase .c ∧
      (∀ r, passed = true → s.newestRecord = some r → u.boot.starts = min (r.2.starts + 1) (2 ^ 32 - 1) ∧
        ∀ k, k < s.boot.slots.length → (u.image k).role = r.2.roles.getD k .none) ∧
      ((passed = false ∨ s.newestRecord = none) →
        ∀ k, k < 4 → k < s.boot.slots.length → (u.image k).role = if k % 2 = 0 then .active else .none)) ∧
    (s.power.stage = .phase .c → s.inRole false .trial = none →
      let a := s.activeSlot false
      (s.inRole false .pending = none →
        (passed = true → s.imageValid a = true →
          u.power.stage = .phase .d ∧ u.boot.fwSlot = a ∧ u.boot.recovery = false ∧ u.boot.fwVersion = (s.header a).version) ∧
        ((passed = false ∨ s.imageValid a = false) → s.imageValid (otherSlot a) = true →
          u.power.stage = .phase .d ∧ u.boot.fwSlot = otherSlot a ∧ bit (u.rd .botEvent) 4 = true) ∧
        ((passed = false ∨ s.imageValid a = false) → s.imageValid (otherSlot a) = false →
          u.power.stage = .recovery ∧ u.boot.recovery = true ∧ u.boot.failedFirst = a)) ∧
      (∀ k, s.inRole false .pending = some k →
        (passed = true → s.imageValid k = true →
          u.power.stage = .phase .d ∧ u.boot.fwSlot = k ∧ (u.image k).role = .trial ∧ u.boot.fwTrial = true) ∧
        ((passed = false ∨ s.imageValid k = false) →
          (u.image k).role = .none ∧ (u.image k).state = .invalid ∧ bit (u.rd .botEvent) 0 = true))) ∧
    (∀ k, s.power.stage = .phase .c → s.inRole false .trial = some k → s.inRole false .pending = none →
      (u.image k).role = .none ∧ bit (u.rd .botEvent) 0 = true) ∧
    (∀ k, s.power.stage = .phase .c → s.inRole true .trial = some k →
      (u.image k).role = .none ∧ bit (u.rd .botEvent) 0 = true) ∧
    (s.power.stage = .phase .d → u.power.stage = .phase .e ∧ u.power.cpuRun = true ∧
      u.power.hbSent = some (s.now, s.hbPeriod)) ∧
    (s.power.stage = .phase .e → u.power.stage = .phase .f ∧
      u.power.doms &&& 0x0E = (s.power.doms ||| s.power.rising) &&& 0x0E ∧
      (s.chooseCopy = none → u.boot.defaults = true) ∧ u.adc.coef = u.settings.coef ∧ u.cal.trims = u.settings.trims) ∧
    (s.power.stage = .phase .f → u.power.stage = .phase .g ∧ u.cal.loading = true ∧
      (s.inRole true .pending = none →
        let a := s.activeSlot true
        let why := s.plateReason a passed
        (why = 0 → u.boot.plate = some (s.plateIn a) ∧ u.boot.plSlot = a) ∧
        (why ≠ 0 → u.boot.plate = s.boot.plate ∧ u.fld .botPlateStat 4 4 = why % 16 ∧
          u.fld .botPlateStat 8 1 = a % 2)) ∧
      (∀ k, s.inRole true .pending = some k → s.plateReason k passed = 0 →
        u.boot.plate = some (s.plateIn k) ∧ u.boot.plSlot = k ∧ (u.image k).role = .trial ∧ u.boot.plTrial = true)) ∧
    (s.power.stage = .phase .g → u.power.stage = .phase .h ∧ (s.cal.loading = true → u.cal.loaded = true)) ∧
    (s.power.stage = .phase .h → u.power.stage = .complete ∧ u.diag.mask = s.restoreDiag.diag.mask ∧
      u.diag.failed = s.settings.failed ∧ u.diag.failedAttic = s.settings.failedAttic ∧ u.power.wakeFailed = false ∧
      u.faults.reports = s.restoreDiag.faults.reports ++ (if s.power.wakeFailed then [⟨0x09, 0⟩] else [])) ∧
    ((∀ x, s.power.stage ≠ .phase x) → u = s)

/-- Wake sources, the switch-on of domains and the loss of clocks (R288, R457, R460, R461, R465, R473 to R475, R479,
R478, R503, R531): an enabled source in SLEEP begins a wake and is recorded, one while the wake runs is recorded as a
further one, one during the entry to SLEEP ends it, a disabled one, another address on the bus and a squelch that
shows no wake of the lane's mode do nothing; a write transaction is held at SCL for at most 4 ms. Both array domains
on start the scan; a sequencer that does not load leads back to STANDBY. Choices of the model it rests on: log 9, 39,
63, 83. -/
def Obligations.WakesAndDomains : Prop :=
  ∀ (s : State) (p : Port) (d : Domain), s.Inv →
    let woken (u : State) (code : Nat) : Prop :=
      u.power.wake = true ∧ u.rd .botResetCause = 7 ∧ u.fld .pwrWakeStat 0 3 = code ∧
      u.fld .pwrWakeCnt 0 16 = satAdd 16 (s.fld .pwrWakeCnt 0 16) 1
    let named (target : Nat) : Bool := decide (target = 0x5C + field (s.rd .glbStrap) 0 2) && bit s.wakeNow (portIx p)
    (∀ (target : Nat) (b : Bool),
      (named target = false → exec (.nativeWake p target b) s = .next s) ∧
      (s.power.state = .sleep → s.power.stage = .idle → named target = true →
        let u := s.nativeWake p target b
        exec (.nativeWake p target b) s = .next u.rests ∧ woken u (1 + portIx p) ∧
        (b = true → (u.port p).sclHeld = true ∧ (u.port p).sclSince = s.now)) ∧
      (s.power.state = .standby → s.wakeRuns = true → named target = true →
        exec (.nativeWake p target b) s = .next (s.wakeAlso (1 + portIx p))) ∧
      (∀ t, s.power.state = .standby → s.wakeRuns = false → s.power.trans = some t → t.target = .sleep → 2 ≤ t.step →
        named target = true → exec (.nativeWake p target b) s = .next (s.abortSleep t 6).rests)) ∧
    (∀ (l : List (Bool × Nat)),
      let wakes : Bool := squelchWakes (field s.wakeNow (4 + 2 * portIx p) 2) l
      (wakes = false → exec (.laneWake p l) s = .next s) ∧
      (s.power.state = .sleep → s.power.stage = .idle → wakes = true →
        exec (.laneWake p l) s = .next (s.laneWake p l).rests ∧ woken (s.laneWake p l) (3 + portIx p)) ∧
      (s.power.state = .standby → s.wakeRuns = true → wakes = true →
        exec (.laneWake p l) s = .next (s.wakeAlso (3 + portIx p))) ∧
      (∀ t, s.power.state = .standby → s.wakeRuns = false → s.power.trans = some t → t.target = .sleep → 2 ≤ t.step →
        wakes = true → exec (.laneWake p l) s = .next (s.abortSleep t 6).rests)) ∧
    ((s.port p).sclHeld = true → exec (.sclRelease p) s = .next
      ((s.advance ((s.port p).sclSince + 4 * msec)).onPort p fun x => { x with sclHeld := false, busNack := true })) ∧
    ((s.port p).sclHeld = false → exec (.sclRelease p) s = .next s) ∧
    (∀ ok, s.power.rising.getLsbD (domBit d) = false → exec (.domainOnDone d ok) s = .next s) ∧
    (∀ ok, s.power.rising.getLsbD (domBit d) = true →
      let u := s.domainOn d ok
      exec (.domainOnDone d ok) s = .next u.rests ∧
      (d ≠ .arrL → d ≠ .arrR → u.domOn d = true ∧ ∀ e, e ≠ d → u.domOn e = s.domOn e) ∧
      (d = phyDomain p → bit (s.rd .lnkCtrl (portIx p)) 0 = true → (s.link p).state = .disabled →
        (u.link p).state = .train) ∧
      ((d = .arrL ∧ s.domOn .arrR = true ∨ d = .arrR ∧ s.domOn .arrL = true) → s.inStep .run 2 = true →
        (ok = true → u.scan.on = true ∧ u.scan.slot = 0 ∧ u.scan.cycleStart = s.now ∧ u.inStep .run 3 = true ∧
          u.activeBuffer = {} ∧ u.comp.noWait = true ∧ u.scan.cur = s.runTiming) ∧
        (ok = false → s.power.state = .standby → u.power.state = .standby ∧ u.power.trans = none ∧ u.scan.on = false ∧
          u.domOn .arrL = false ∧ u.domOn .arrR = false ∧ bit (u.rd .botEvent) 1 = true))) ∧
    (s.asleepNow = false →
      exec .refClockLoss s = .next (State.rests ((s.onPower fun w => { w with refClock := false }).report 0x10)) ∧
      exec .pllLockLoss s = .next (State.rests ((s.onPower fun w => { w with pll := false }).report 0x11))) ∧
    (s.asleepNow = true → exec .refClockLoss s = .next s ∧ exec .pllLockLoss s = .next s) ∧
    (s.controlOn = true → s.power.cpuHalt = false → exec .lockstep s = .next (s.report 0x12).cpuHalts.rests) ∧
    ((s.controlOn = false ∨ s.power.cpuHalt = true) → exec .lockstep s = .next s)

/-- Flash that the device reads and writes (R380, R418, R524, R545, R550, R551, R552): a trim image or a settings
record written holds what was in force, a customer operation reads, erases or programs its 4 KiB and nothing else and
shows its result, and a load of the storeroom takes the block of each region. A self-test shows the signature of each
group that it ran, and the group as failed where its golden value differs or the partition of the golden values fails
its check; a group that it did not run shows what it showed before. The registers survive the reset that ends it, and
the result begins at 0 (`KeysTestsCustomerArea`). The flash of an update: the erase of an inactive slot leaves its
bytes erased and every other byte of the flash as it was (R539), and buffered words are programmed in their order
(R540). Choices of the model it rests on: log 9, 37, 38, 50, 62, 96. -/
def Obligations.FlashOperations : Prop :=
  (∀ (s : State), s.Inv →
    (s.power.trans = none →
      (FlashJob.trims ∈ s.boot.jobs →
        let u := s.flashDone .trims
        exec (.flashWriteDone .trims) s = .next u ∧ u.settings.trims = s.cal.trims ∧ u.settings.seq = s.settings.seq + 1 ∧
        u.cal.trims = s.cal.trims ∧ u.cal.dirty = false ∧ u.boot.jobs = s.boot.jobs.erase .trims) ∧
      (FlashJob.settings ∈ s.boot.jobs →
        let u := s.flashDone .settings
        exec (.flashWriteDone .settings) s = .next u ∧ u.settings.failed = s.diag.failed ∧
        u.settings.failedAttic = s.diag.failedAttic ∧ u.settings.attic = s.atticEntries ∧ u.settings.mask = s.maskEntries.take 16384 ∧ u.diag.unsaved = none ∧
        u.boot.jobs = s.boot.jobs.erase .settings) ∧
      (FlashJob.bootRecord ∈ s.boot.jobs →
        let t := s.onBoot fun b => { b with jobs := b.jobs.erase .bootRecord }
        exec (.flashWriteDone .bootRecord) s = .next t.writeRecord ∧
        ∃ r, t.writeRecord.newestRecord = some r ∧ r.2.roles = s.boot.slots.map (·.role) ∧ r.2.starts = s.boot.starts) ∧
      (∀ bad : Bool,
        let a := customerBase + s.boot.custAt
        let closed (t : State) (result : Nat) : State :=
          (t.onBoot fun b => { b with cust := none }).setFld .botCustStat 1 3 result
        (s.boot.cust = some .read →
          let t (l : List Word) (e : Bool) : State :=
            (s.hwWrList .botCustBuf 0 l).onBoot fun b => { b with custBad := e }
          (bad = false → s.flashSpoilt a 4096 = false →
            exec (.custOpDone bad) s = .next (closed (t (wordsOfBytes (s.flashBytes a 4096)) false) 1)) ∧
          ((bad = true ∨ s.flashSpoilt a 4096 = true) →
            exec (.custOpDone bad) s = .next (closed ((t (List.replicate 1024 0) true).report 0x2A) 3).rests)) ∧
        (s.boot.cust = some .erase →
          let u := s.flashErase a 4096
          exec (.custOpDone bad) s = .next (closed u (if bad then 3 else 1)) ∧
          (∀ i, a ≤ i → i < a + 4096 → u.flashByte i = 0xFF) ∧
          (∀ i, i < a ∨ a + 4096 ≤ i → u.flashByte i = s.flashByte i)) ∧
        (s.boot.cust = some .program →
          let bs := bytesOfWords s.custBuffer
          let u := s.flashProgram a bs
          exec (.custOpDone bad) s =
            .next (closed u (if bad then 3 else if u.flashBytes a 4096 = bs then 1 else 2)) ∧
          (∀ i, i < bs.length → u.flashByte (a + i) = s.flashByte (a + i) &&& bs.getD i 0) ∧
          (∀ i, i < a ∨ a + bs.length ≤ i → u.flashByte i = s.flashByte i)))) ∧
    (∀ j, j ∉ s.boot.jobs → exec (.flashWriteDone j) s = .next s) ∧
    (s.boot.cust = none → ∀ bad, exec (.custOpDone bad) s = .next s) ∧
    (∀ (g : BitVec 8) (sigs : List Word), s.boot.bist = some g →
      let u := s.bistDone sigs
      exec (.bistDone sigs) s = .next u.rests ∧ u.rd .botResetCause = 8 ∧ u.boot.bist = none ∧ u.power.doms = 0 ∧
      (∀ k, k < 8 →
        u.rd .botBistSig k = (if g.getLsbD k then sigs.getD k 0 else s.rd .botBistSig k) ∧
        bit (u.rd .botBistRes) k = g.getLsbD k ∧
        bit (u.rd .botBistRes) (8 + k) = (g.getLsbD k && (!s.goldenOk || sigs.getD k 0 != s.golden k)) ∧
        u.registerReset.rd .botBistSig k = u.rd .botBistSig k) ∧
      u.registerReset.rd .botBistRes = u.rd .botBistRes) ∧
    (s.boot.bist = none → ∀ sigs, exec (.bistDone sigs) s = .next s) ∧
    (s.cal.loading = true →
      let u := s.storeLoaded
      exec .storeroomLoadDone s = .next u.rests ∧ u.cal.loading = false ∧ u.cal.loaded = true ∧
      (∀ g, g < 16 → g < s.cal.store.length → u.cal.store.getD g {} = (s.chooseBlock g).1) ∧
      (∀ g, g < 16 → g < s.cal.source.length → u.cal.source.getD g .notLoaded = (s.chooseBlock g).2)) ∧
    (s.cal.loading = false → exec .storeroomLoadDone s = .next s)) ∧
  (∀ (s : State), s.Inv →
    (∀ (t : Bool) (u : Session), s.session t = some u → u.erasing = true →
      (t = true → ∀ v, s.session false = some v → v.erasing = false) →
        ∃ e, exec .updateEraseDone s = .next e ∧ e.session t = some { u with erasing := false } ∧
          (∀ i, imageBase (s.inactiveSlot t) ≤ i → i < imageBase (s.inactiveSlot t) + imageRoom (s.inactiveSlot t) →
            e.flashByte i = 0xFF) ∧
          (∀ i, i < imageBase (s.inactiveSlot t) ∨ imageBase (s.inactiveSlot t) + imageRoom (s.inactiveSlot t) ≤ i →
            e.flashByte i = s.flashByte i) ∧
          e = { s with boot := e.boot }) ∧
    (∀ (t : Bool) (u : Session) (n : Nat), s.session t = some u → s.session (!t) = none →
      exec (.programBufferDrain n) s = .next (State.setSession
        (s.programWords (s.inactiveSlot t) (u.buffer.take n)) t (some { u with buffer := u.buffer.drop n }))))

/-! ## Guardian and faults -/

/-- Dual-contact inputs and safety outputs (R483 to R491, R468): the table of a pair, its discrepancy time, the
off-demand of PO1, which takes the VLED targets with it, an overload, and the off-pulse tests with their two readings.
Choices of the model it rests on: log 9, 27, 34, 66, 93. -/
def Obligations.GuardianInputsAndOutputs : Prop :=
  ∀ (s : State) (b : Bool), s.Inv →
    let k := if b then 2 else 0
    let x := s.pair b
    let u (l : List (Nat × Bool)) : State := s.inputs l
    let run : Option (Nat × Nat) := some (s.now, s.discTime b)
    let o := s.output b
    (∀ l, exec (.inputAccepted l) s = .next (u l).rests ∧ (s.power.vin = false → u l = s) ∧
      ((∀ e ∈ l, e.1 = k ∨ e.1 = k + 1) → (u l).pair (!b) = s.pair (!b))) ∧
    (s.power.vin = true → (∀ i, s.injOn i = false) →
      (x.state = .opened → x.c1 = false → x.c2 = false →
        (u [(k, true)]).pair b = { x with state := .closing, c1 := true, first := false, timer := run } ∧
        (u [(k + 1, true)]).pair b = { x with state := .closing, c2 := true, first := true, timer := run } ∧
        (u [(k, true), (k + 1, true)]).pair b = { state := .closed, c1 := true, c2 := true, timer := none }) ∧
      (x.state = .closing → x.first = false → x.c1 = true → x.c2 = false →
        (u [(k + 1, true)]).pair b = { state := .closed, c1 := true, c2 := true, timer := none } ∧
        (u [(k, false)]).pair b = { state := .opened, c1 := false, c2 := false, timer := none }) ∧
      (x.state = .closed → x.c1 = true → x.c2 = true →
        (u [(k, false)]).pair b = { x with state := .opening, c1 := false, first := false, timer := run } ∧
        (u [(k, false), (k + 1, false)]).pair b = { state := .opened, c1 := false, c2 := false, timer := none } ∧
        (u [(k, false)]).kill = true ∧ bit ((u [(k, false)]).rd .safEvent) (if b then 1 else 0) = true ∧
        (u [(k, false)]).fld .safGrec 0 4 = if b then 2 else 1) ∧
      (x.state = .opening → x.first = false → x.c2 = true →
        (u [(k + 1, false)]).pair b = { x with state := .opened, c2 := false, timer := none }) ∧
      (x.state = .discrepancy → x.c1 = true → x.c2 = false →
        ((u [(k, false)]).pair b).state = .opened ∧ ((u [(k + 1, true)]).pair b).state = .discrepancy)) ∧
    (∀ t n, x.timer = some (t, n) →
      let a := ((s.advance (t + n)).setPair b { x with state := .discrepancy, timer := none }).flag .safEvent 2
      let source := if b then 0x71 else 0x70
      (s.asleepNow = false → exec (.discrepancyTimeout b) s = .next (a.report source).rests) ∧
      (s.asleepNow = true → exec (.discrepancyTimeout b) s =
        .next (State.rests (a.onGuard fun g => { g with sleepDisc := g.sleepDisc ++ [source] })))) ∧
    (x.timer = none → exec (.discrepancyTimeout b) s = .next s) ∧
    (∀ t n, s.guard.po1.offDemand = some (t, n) →
      let v := s.offDemandDue
      exec .po1OffDemand s = .next v.rests ∧ v.now = max s.now (t + n) ∧ v.guard.po1.cmd = false ∧ v.guard.po1.rb = false ∧
      (∀ j, j = 2 ∨ j = 3 → (v.rail j).acked = 0 ∧ (v.rail j).req = none) ∧ (s.candWaits = true → v.comp.cand = none)) ∧
    (s.guard.po1.offDemand = none → exec .po1OffDemand s = .next s) ∧
    (o.cmd = true → o.pulse = false →
      let v := s.overload b
      exec (.outputOverload b) s = .next v.rests ∧ (v.output b).cmd = false ∧ (v.output b).ovl = true ∧
      bit (v.rd .safEvent) 6 = true ∧ v.faults.reports = [⟨if b then 0x75 else 0x74, 0⟩] ∧
      (b = false → s.runLike = true → v.heldDark = true)) ∧
    ((o.cmd = false ∨ o.pulse = true) → exec (.outputOverload b) s = .next s) ∧
    (o.cmd = true → o.testing = false →
      let a := s.advance (s.guard.pulseAt b s.now)
      let demanded : Prop := ∃ t n, o.offDemand = some (t, n) ∧ (t + n) / aonCycle ≤ a.now / aonCycle
      (bit (a.rd .safTestCfg) (if b then 25 else 24) = true → ¬ demanded →
        exec (.offPulseStart b) s = .next (a.onOutput b fun x =>
          { x with pulse := true, rb := false, began := a.now, width := a.pulseWidth, discard := false, taken := false,
                   verify := false })) ∧
      ((bit (a.rd .safTestCfg) (if b then 25 else 24) = false ∨ demanded) → exec (.offPulseStart b) s = .next a)) ∧
    ((o.cmd = false ∨ o.testing = true) → exec (.offPulseStart b) s = .next s) ∧
    (let a (low : Bool) := (s.advance (o.began + o.width - 10 * usec)).onOutput b fun x => { x with taken := true, rb := !low }
     let c := (s.advance (o.began + o.width)).onOutput b fun x =>
       { x with pulse := false, rb := x.cmd, verify := x.cmd && !x.discard }
     let e (high : Bool) := (s.advance (o.began + o.width + 50 * usec)).onOutput b fun x =>
       { x with verify := false, rb := high }
     (o.pulse = true → o.taken = false →
       exec (.pulseReadbackLow b true) s = .next (a true) ∧
       (o.discard = false → exec (.pulseReadbackLow b false) s = .next (State.rests
         ((((a false).count .safTestCnt (if b then 8 else 0) 8).flag .safEvent 3).report (if b then 0x73 else 0x72)))) ∧
       (o.discard = true → exec (.pulseReadbackLow b false) s = .next (a false))) ∧
     (o.pulse = true → o.taken = true → ∀ low, exec (.pulseReadbackLow b low) s = .next s) ∧
     (o.pulse = true → o.discard = false → exec (.pulseEnd b) s = .next c) ∧
     (o.pulse = true → o.discard = true →
       exec (.pulseEnd b) s = .next (State.onOutput ((c.count .safTestCnt 16 16).flag .safEvent 4) b fun x =>
         { x with discard := false, verify := false })) ∧
     (o.verify = true →
       exec (.pulseReadbackHigh b true) s = .next (e true) ∧
       exec (.pulseReadbackHigh b false) s = .next (State.rests
         ((((e false).count .safTestCnt (if b then 8 else 0) 8).flag .safEvent 3).report (if b then 0x73 else 0x72)))) ∧
     (o.pulse = false → ∀ low, exec (.pulseReadbackLow b low) s = .next s ∧ exec (.pulseEnd b) s = .next s) ∧
     (o.verify = false → ∀ high, exec (.pulseReadbackHigh b high) s = .next s))

/-- Heartbeat, FAULT_ALIVE, the comparisons and relighting (R493 to R498, R500, R503, R517, R614): a valid beat arms
the watch and starts its deadline again; a beat with a wrong count is borne once; a miss takes the action, which GOOD
valid beats end; PO1 relights the array by itself once its conditions hold. Choices of the model it rests on: log 9,
40, 60. -/
def Obligations.GuardianWatch : Prop :=
  ∀ (s : State) (n : Byte), s.Inv →
    let g := s.guard
    (∀ t d, s.power.hbSent = some (t, d) →
      (s.beating = true →
        let a := s.advance (t + d)
        exec .heartbeatSend s = .next (a.onPower fun w =>
          { w with hbCount := w.hbCount + 1, hbSent := some (a.now, s.hbPeriod) })) ∧
      (s.beating = false → exec .heartbeatSend s = .next s)) ∧
    ((s.injOn 4 = true ∨ s.power.vin = false) → ∀ c, exec (.heartbeatBeat n c) s = .next s) ∧
    (s.injOn 4 = false → s.power.vin = true → (g.armed = false ∨ n = g.lastBeat + 1) →
      let u := s.beat n (~~~n)
      exec (.heartbeatBeat n (~~~n)) s = .next u.rests ∧ u.guard.armed = true ∧ u.guard.lastBeat = n ∧
      u.guard.badBeats = 0 ∧ u.guard.hbTimer = some (s.now, 3 * s.hbPeriod / 2) ∧
      ((g.action = false ∨ g.goodBeats + 1 < s.fld .safHbCfg 8 4) →
        u.guard.action = g.action ∧ u.faults.reports = []) ∧
      (g.action = true → s.fld .safHbCfg 8 4 ≤ g.goodBeats + 1 →
        u.guard.action = false ∧ u.faults.reports = (if g.hbReport then [⟨0x76, 0⟩] else []))) ∧
    (∀ c, s.injOn 4 = false → s.power.vin = true → g.armed = true → (c ≠ ~~~n ∨ n ≠ g.lastBeat + 1) →
      let once := s.onGuard fun g => { g with badBeats := g.badBeats + 1, goodBeats := 0 }
      (g.badBeats = 0 → exec (.heartbeatBeat n c) s = .next once) ∧
      (g.badBeats ≠ 0 → exec (.heartbeatBeat n c) s = .next once.hbMiss.rests)) ∧
    (∀ t d, g.hbTimer = some (t, d) → g.armed = true →
      exec .heartbeatMiss s = .next (s.advance (t + d)).hbMiss.rests) ∧
    (let u := s.hbMiss
     u.guard.action = true ∧ u.guard.hbTimer = none ∧ u.kill = true ∧ bit (u.rd .safEvent) 5 = true ∧
     (g.action = false → u.fld .safGrec 0 4 = 3) ∧
     (g.restartAt = none → bit (s.rd .safHbCfg) 12 = true → g.haltTold = false →
       u.guard.restartAt = some (s.now + 100 * msec)) ∧
     ((g.restartAt.isSome ∨ bit (s.rd .safHbCfg) 12 = false ∨ g.haltTold = true) → u.guard.restartAt = g.restartAt)) ∧
    (∀ t d, g.faTimer = some (t, d) →
      let a := s.advance (t + d)
      (s.faRuns = true → exec .faultAliveEdge s = .next (a.onGuard fun g =>
        { g with faLevel := !g.faLevel, faTimer := some (a.now, s.faHalf), faEdgeAt := some a.now })) ∧
      (s.faRuns = false → exec .faultAliveEdge s = .next (a.onGuard fun g =>
        { g with faLevel := false, faTimer := none, faEdgeAt := if g.faLevel then some a.now else g.faEdgeAt }))) ∧
    (∀ t, g.faEdgeAt = some t →
      let a := (s.advance (t + 10 * usec)).onGuard fun g => { g with faEdgeAt := none }
      (g.faLatched = false →
        exec (.faReadback false) s = .next (a.onGuard fun g => { g with faDiffs := 0 }) ∧
        (g.faDiffs = 0 → exec (.faReadback true) s = .next (a.onGuard fun g => { g with faDiffs := 1 })) ∧
        (g.faDiffs ≠ 0 → exec (.faReadback true) s = .next (State.rests
          ((((a.onGuard fun g => { g with faLatched := true, faDiffs := 0 }).grec 6).flag .safEvent 7).report 0x77)))) ∧
      (g.faLatched = true → ∀ differs, exec (.faReadback differs) s = .next a)) ∧
    (g.faEdgeAt = none → ∀ differs, exec (.faReadback differs) s = .next s) ∧
    (∀ d, let v (x : Bool) : State := s.onFaults fun f => match d with
        | .L => { f with killDiffL := x }
        | .R => { f with killDiffR := x }
      exec (.killReadback d false) s = .next (v false) ∧
      exec (.killReadback d true) s = .next ((v true).report 0x78 (dieIx d)).rests) ∧
    exec (.aonClockCheck false) s = .next (s.onFaults fun f => { f with aonOff := false }) ∧
    exec (.aonClockCheck true) s = .next (State.rests ((s.onFaults fun f => { f with aonOff := true }).report 0x13)) ∧
    (s.po1Ok = true → g.darkWait = true → s.power.relightStep = 0 → g.po1.cmd = false → g.po1.pulse = false →
      g.po2.rb = false →
      let u := s.relight
      exec .relight s = .next u.rests ∧ u.guard.po1.cmd = true ∧ u.guard.po1.rb = true ∧ u.heldDark = false ∧
      u.power.relightStep = 2 ∧
      (∀ j, j = 2 ∨ j = 3 → j < s.power.rails.length → (s.rail j).req = none → ∃ q, (u.rail j).req = some q ∧ q.mv = 2700)) ∧
    (s.po1Ok = false → exec .relight s = .next s)

/-- Events reach the fault collector (R501, R505 to R508, R512 to R514): an event counts in FLT_CNTk, takes its minor
class, or its severe class from the threshold on, latches the reaction of that class, shows in FLT_LAST, and in
FLT_FIRST if it is the first. What it causes comes in a later CK_FAB cycle. A window without an event elapses, and the
oldest buffered record goes to flash, where the head erases the sector that it comes to (log 99). Choices of the model
it rests on: log 9, 40, 41, 79, 98, 99. -/
def Obligations.FaultCollection : Prop :=
  ∀ (s : State) (r : FaultReport), s.Inv →
    (s.controlOn = true → ∀ l, exec (.faultEvent l) s = .next (State.rests (s.onFaults fun f => { f with reports := l }))) ∧
    (s.controlOn = false → ∀ l, exec (.faultEvent l) s = .next s) ∧
    (unusedSource r.source = false → r.source < 128 →
      let k := r.source
      let u := s.arbitrate [r] false
      let count := ((s.window k s.timeBase).map (·.2)).getD 0 + 1
      let cls := if s.fld .fltMap 8 8 k ≤ count then (s.classes k).2 else (s.classes k).1
      u.fld .fltCnt 0 16 k = satAdd 16 (s.fld .fltCnt 0 16 k) 1 ∧
      u.faults.fallback = (s.faults.fallback || decide (cls = 2)) ∧
      u.faults.dark = (s.faults.dark || decide (cls = 3)) ∧
      u.faults.halt = (s.faults.halt || decide (cls = 4)) ∧
      (cls = 4 → u.power.cpuHalt = true ∧ u.guard.haltTold = true) ∧
      ((cls = 3 ∨ cls = 4) → u.heldDark = true) ∧
      bit (u.rd .fltLast) 31 = true ∧ u.fld .fltLast 0 7 = k ∧ u.fld .fltLast 8 3 = cls % 8 ∧
      (bit (s.rd .fltFirst) 31 = false → 1 ≤ cls → u.rd .fltFirst = u.rd .fltLast ∧
        u.rd .fltFirstTimeLo = word s.timeBase) ∧
      ((bit (s.rd .fltFirst) 31 = true ∨ cls = 0) → u.rd .fltFirst = s.rd .fltFirst) ∧
      (s.window k s.timeBase = none → s.faults.buffer.length < 64 →
        u.faults.logHead = (s.faults.logHead + 1) % 2 ^ 32 ∧ u.faults.buffer.length = s.faults.buffer.length + 1) ∧
      (s.controlOn = true → exec (.faultEvent [r]) s = .next (settleLoop 15 u.laterCycle).darken)) ∧
    (s.faults.reports = [] → s.laterCycle = s) ∧
    (s.faults.reports ≠ [] → s.laterCycle = s.advance ((s.now / fabCycle + 1) * fabCycle)) ∧
    (∀ k st c, s.faults.windows.find? (fun e => e.1 == k) = some (k, st, c) →
      exec (.windowElapse k) s = .next
        ((s.advance (s.tbStart + (st + s.fld .fltMap 16 16 k * 156250) * fabCycle)).onFaults fun f =>
          { f with windows := f.windows.filter fun e => e.1 != k })) ∧
    (∀ k, s.faults.windows.find? (fun e => e.1 == k) = none → exec (.windowElapse k) s = .next s) ∧
    (∀ rec' rest, s.faults.buffer = rec' :: rest → s.power.trans = none →
      exec .logWriteDone s = .next (s.onFaults fun f =>
        { f with buffer := rest
                 ring := rec' :: (if f.ringPos % 128 = 0 then f.ring.take 32512 else f.ring)
                 ringPos := (f.ringPos + 1) % 32768 })) ∧
    (s.faults.buffer = [] → exec .logWriteDone s = .next s)

/-! ## The whole block -/

/-- A step takes the command at the front of the queue and runs it on the state with the queue's rest. -/
def Obligations.StepRunsFrontCommand : Prop :=
  ∀ (s : State) (c : Instr) (rest : List Instr), s.pending = c :: rest → step s = exec c { s with pending := rest }

/-- With no command waiting the block's own tick comes (a choice of the model, log 10): while the arbiter is busy or
no port has a request ready a CK_FAB cycle passes, else the request at the front of a port's queue is served; where
both ports have one, the loser of the previous tie (R49, R619). A register request of a port comes after the link
request that the port has received (R48), and against one of the other port the loser of the previous tie goes first;
what goes first ends as a command does, its reports taken (R501). -/
def Obligations.IdleCycles : Prop :=
  (∀ (s : State) (p : Port) (w : Path) (a : Nat) (v : Word),
    let o := otherPort p
    let r := s.retie p
    (s.ready p = true → s.ready o = false → (r.serveAhead p).quiet →
      exec (.registerWrite p w a v) s = .next (((r.serveAhead p).retie p).serveWrite p w a v s.now).rests) ∧
    (s.ready p = false → s.ready o = true → r.nextTie = p →
      exec (.registerWrite p w a v) s = .next (r.tie.serveWrite p w a v s.now).rests) ∧
    (s.ready p = false → s.ready o = true → r.nextTie = o → (r.tie.serveAhead o).ready o = false →
      exec (.registerWrite p w a v) s = .next ((r.tie.serveAhead o).serveWrite p w a v s.now).rests) ∧
    r.serveAhead p = (r.serveNext p).rests ∧
    ((s.thisCycle.chosen = some o ∧ s.nextTie = o) →
      r.nextTie = p ∧ r.fld .cmdArb 16 16 = satAdd 16 (s.fld .cmdArb 16 16) 1 ∧ SameRegs [Reg.key .cmdArb .A 0 0] s r) ∧
    (¬(s.thisCycle.chosen = some o ∧ s.nextTie = o) → r = s)) ∧
  ∀ (s : State), s.Inv → s.pending = [] →
    ((s.now < s.arbFree ∨ s.ready .A = false ∧ s.ready .B = false) →
      ∃ u : State, step s = .next u ∧ u.now = s.now + fabCycle ∧ u = { s with now := u.now, regs := u.regs } ∧
        SameRegs [] s u) ∧
    (s.arbFree ≤ s.now → ∀ p, s.ready p = true → s.ready (otherPort p) = false →
      step s = .next (s.serveNext p).rests) ∧
    (s.arbFree ≤ s.now → s.ready .A = true → s.ready .B = true →
      ∃ u : State, step s = .next (u.serveNext s.nextTie).rests ∧ u.nextTie = otherPort s.nextTie ∧
        u.fld .cmdArb 16 16 = satAdd 16 (s.fld .cmdArb 16 16) 1 ∧
        u = { s with nextTie := u.nextTie, regs := u.regs } ∧ SameRegs [Reg.key .cmdArb .A 0 0] s u)

/-- Right after reset (R529, R612, R460, R212, R284; the instant, the supplies and the values of the fuses are the
model's choices, log 2, log 6 and log 7): the device is in STANDBY in phase A of its start with CK_CORE on, every
register reads its reset value, the memory reads 0, no plate runs, every semaphore is free, both links are DISABLED,
the scan is off, no reaction is latched, and the state is one between two commands. Choices of the model it rests on:
log 115. -/
def Obligations.ResetState : Prop :=
  let s := State.reset
  s.Inv ∧ s.power.state = .standby ∧ s.power.stage = .phase .a ∧ s.controlOn = true ∧ s.pending = [] ∧
  (∀ p r k j, s.rdp p r k j = r.row.reset) ∧ (∀ a, memByte s.mem a = 0) ∧ Memory.wf s.mem = true ∧ s.boot.plate = none ∧
  (∀ k, s.owner k = none) ∧ (∀ p, (s.link p).state = .disabled ∧ (s.port p).linkUp = false ∧ (s.port p).queue = []) ∧
  s.scan.on = false ∧ s.comp.commits = [] ∧ s.comp.cand = none ∧ s.faults.fallback = false ∧ s.faults.dark = false ∧
  s.faults.halt = false ∧ (∀ k, k < 64 → (s.slot k).mode = .undef) ∧ s.timeBase = 0 ∧ s.pwrState = 2 ∧
  ∀ k, s.railStatus k = 0

/-- Every step ends between two commands: no report waits for the fault arbiter (R501), and while the array is held
dark what R499 asks for has been done. -/
def Obligations.StepsKeepTheInvariant : Prop :=
  ∀ (s t : State), s.Inv → step s = .next t → t.Inv

/-- Every step keeps the canonical form of the memory: rising addresses, and no byte listed that an unlisted address
reads as. -/
def Obligations.StepsKeepTheMemoryForm : Prop :=
  ∀ (s t : State), Memory.wf s.mem = true → step s = .next t → Memory.wf t.mem = true

/-- The register map is one to one: the address of every register of every row, at every index, leads back to it, and
no register lies in a memory window. The head of every link command is read back as it was written (R262). On a lane
every symbol is read back from its code group at the same running disparity (R298, R299), in a framed run of data and
K28.5 each K28.5 that another of them follows is a code violation and nothing else is (R300, R301), and a packet
striped over one to four lanes, padded in its last column, is put together again (R251, R252, R302). Choices of the
model it rests on: log 82. -/
def Obligations.AddressesHeadsAndLineCode : Prop :=
  (∀ (r : Reg) (k j : Nat), k < r.row.count → j < r.row.each → place (r.addr k j) = .reg r.row.blk r k j) ∧
  (∀ (code : Nat) (h : CmdHead), code < 128 → h.len < 65536 → headOf h.port (headWord code h) = (code, h)) ∧
  (∀ (p : Port) (w : Word), headWord (headOf p w).1 (headOf p w).2 = w) ∧
  (∀ (rd : Bool) (e : Sym), symAt rd (encodeSym rd e) = some e) ∧
  (∀ (rd : Bool) (x : Lane) (l : List Sym), x.disp = some rd → x.inverted = false → x.viols.length < 4 →
    x.commaInside = false → (∀ e ∈ l, e = .comma ∨ ∃ b, e = .data b) →
    let r := Lane.takeAll ((encodeSyms rd (.sop :: (l ++ [.eop]))).map .group) x
    r.1.cv = x.cv + l.dropLast.count .comma ∧ frameBody r.1 = some (l.map some) ∧ (.comma ∉ l.dropLast → r.2 = false)) ∧
  (∀ (lanes : List Lane) (h crc : Word) (ws : List Word), 1 ≤ lanes.length → lanes.length ≤ 4 →
    (∀ x ∈ lanes, x.joined = 0) →
    lanes.map frameBody = (stripe lanes.length Sym.comma ((bytesOfWords (h :: (ws ++ [crc]))).map .data)).map
      (fun l => some (l.map some)) →
    packetOf lanes = some { header := h, payload := ws, crc := crc })

/-- What a request does besides its own effect (R49, R263, R264, R275, R277, R281): a tie in its CK_FAB cycle is noted
(log 10), it holds the arbiter to the end of the cycle, a lost port returns by its bus, the port sees the status. A
link command gives one completion record, unless it was quiet and OK; a refused one is counted. Choices of the model
it rests on: log 4, 10, 22, 43. -/
def Obligations.RequestBookkeeping : Prop :=
  ∀ (s : State) (p : Port) (w : Path) (st : Status),
    let b := s.begun p w
    let e := s.ended p w st
    (SameMemory s b ∧ SamePicture s b ∧ SameArray s b ∧ SameDevice s b ∧ SameUnits s b ∧ SameRun s b ∧ b.sems = s.sems ∧
      b.now = max s.now s.arbFree ∧ b.nextTie = (s.retie p).nextTie ∧ SameRegs (returnKeys p) s b ∧
      (w = .link → b.portA = s.portA ∧ b.portB = s.portB) ∧
      (w = .bus → (b.port p).lost = false ∧ (b.port p).queue = (s.port p).queue)) ∧
    (SameMemory s e ∧ SamePicture s e ∧ SameArray s e ∧ SameDevice s e ∧ SamePorts s e ∧ SameUnits s e ∧ SameRun s e ∧
      e.now = s.now ∧ e.arbFree = (s.fab + 1) * fabCycle ∧ (∃ a, e.answer = some a ∧ a.port = p ∧ a.path = w ∧ a.status = st) ∧
      SameRegs [Reg.key .hptMbStatus p 0 0] s e ∧ (w = .bus → e.rdp p .hptMbStatus = word (statusCode st))) ∧
    (∀ (c : Served) (value : Word) (data : List Word),
      let u := s.complete c st value data
      let record := completionRecord c.opcode c.tag (statusCode st) value data
      let quiet : Prop := 128 ≤ c.opcode ∧ st = .ok ∧ c.opcode % 128 ≠ 0x02 ∧ c.opcode % 128 ≠ 0x08
      (¬ quiet → (u.port c.port).records = (s.port c.port).records ++ [record]) ∧
      (quiet → u.port c.port = s.port c.port) ∧ u.port (otherPort c.port) = s.port (otherPort c.port) ∧
      u.rd .cmdServed (portIx c.port) = word (satAdd 32 (s.rd .cmdServed (portIx c.port)).toNat 1) ∧
      (st = .ok → u.rd .cmdLref (portIx c.port) = s.rd .cmdLref (portIx c.port)) ∧
      (st ≠ .ok → u.rd .cmdLref (portIx c.port) =
        word (c.opcode + 256 * c.tag.toNat + 65536 * statusCode st)) ∧
      SameMemory s u ∧ SamePicture s u ∧ SameArray s u ∧ SameDevice s u ∧ u.sems = s.sems)
end

