-- ==== Sys2Proof/Laws/Attic.lean ====
section
/-! SUPPORT. The attic bus: what a change of one connection, and the end of a step, leave (R68, R392). -/

namespace Sys2Proof.Machine

@[simp] theorem attic_setAttic_same (s : State) (k : Nat) (a : Attic) : (s.setAttic k a).attic k = a :=
  tabGet_set_same _ _ _ _

theorem attic_setAttic_other (s : State) (a : Attic) {k j : Nat} (h : j ≠ k) : (s.setAttic k a).attic j = s.attic j :=
  tabGet_set_other _ _ h _ _

/-- The connections of TAKEOVER and SHADOW return to PARKED in the region, and every other one stays. -/
theorem attic_releaseAttics (s : State) (g j : Nat) :
    (s.releaseAttics g).attic j = if regionOfAttic j = g then (s.attic j).over else s.attic j := by
  have h := tabGet_filter Attic.parked (fun k => regionOfAttic k != g || (s.attic k).replaces) s.diag.attic j
  rw [State.attic, State.releaseAttics]
  refine Eq.trans h ?_
  by_cases hg : regionOfAttic j = g
  · simp only [hg, bne_self_eq_false, Bool.false_or, if_true]
    change (if (s.attic j).replaces = true then s.attic j else _) = _
    cases s.attic j <;> simp [Attic.replaces, Attic.over]
  · simp only [bne_iff_ne.mpr hg, Bool.true_or, if_true, if_neg hg]
    rfl

end Sys2Proof.Machine
end

