-- ==== Sys2Proof/WellFormed.lean ====
section
/-! DEFINITION. Well-formed commands: every operand lies in the range that the manual gives the register, the record or
the packet that carries it. Every command has its meaning whether it is well-formed or not; the check says which terms
stand for something that can happen. -/

namespace Sys2Proof

/-- A header announces at most 65,535 words, and no more than those follow it (R262). -/
def headWf (h : CmdHead) (payload : List Word) : Bool := decide (h.len < 65536) && decide (payload.length ≤ h.len)

/-- A byte address of the device is 32 bits wide (R14). -/
def addrWf (a : Nat) : Bool := decide (a < 2 ^ 32)

/-- A sample names a pixel of the 2,048 by 512 array (R338, R339). -/
def sampleWf (x : Sample) : Bool := decide (x.x < 2048) && decide (x.y < 512)

/-- What the four receive lanes of a port get (R302). -/
def linesWf (lines : List (List LineItem)) : Bool := decide (lines.length ≤ 4)

/-- The START of a bus transaction: a 7-bit address, and 32 bits of address phase (R281). -/
def busHeadWf (h : BusHead) : Bool := decide (h.target < 128) && h.addr.all addrWf

/-- A fault event: a source of the matrix and a detail of 16 bits (R501, R514). -/
def reportWf (f : FaultReport) : Bool := decide (f.source < 128) && decide (f.detail < 65536)

/-- A converter: the sixteen region converters and four system converters (R426). -/
def convWf (n : Nat) : Bool := decide (n < 20)

/-- The place of an ECC error (R503). -/
def eccWf : EccPlace → Bool
  | .cpuSram => true
  | .layerMem a => addrWf a
  | .cellar a => addrWf a
  | .tileStore _ i => decide (i < 2 ^ 20)
  | .pipeRam => true
  | .queue _ => true
  | .flash a => decide (a < 0x2000000)
  | .logRecord seq => decide (seq < 2 ^ 32)
  | .storeroom g => decide (g < 16)

/-- The timer of a commit or of a flip group (R160, R171). -/
def timerWf : TimerOf → Bool
  | .commit _ => true
  | .group g => decide (g < 16)

/-- Whether the operands of a command lie in their ranges. -/
def Instr.wf : Instr → Bool
  | .nop h payload => headWf h payload
  | .regWrite h payload => headWf h payload
  | .regRead h payload => headWf h payload
  | .regRmw h payload => headWf h payload
  | .echo h payload => headWf h payload
  | .layerWrite h payload => headWf h payload
  | .streamBlock _ words => decide (words.length ≤ 16)
  | .slotCtrl h payload => headWf h payload
  | .slotOpen _ _ slot => decide (slot < 64)
  | .slotReady _ _ slot => decide (slot < 64)
  | .slotRelease _ _ slot => decide (slot < 64)
  | .commit h payload => headWf h payload
  | .cmpCommitWrite _ _ _ => true
  | .fenceSignal h payload => headWf h payload
  | .fenceSigWrite _ _ _ => true
  | .fenceSet _ _ k _ => decide (k < 16)
  | .semAcquire h payload => headWf h payload
  | .semRelease h payload => headWf h payload
  | .semAcqWrite _ _ _ => true
  | .semRelWrite _ _ _ => true
  | .updateBegin h payload => headWf h payload
  | .updateBlock h payload => headWf h payload
  | .updateFinish h payload => headWf h payload
  | .updateEraseDone => true
  | .programBufferDrain words => decide (words < 2 ^ 32)
  | .registerWrite _ _ addr _ => addrWf addr
  | .loHalfRead _ _ addr => addrWf addr
  | .chainRead _ _ k => decide (k < 32)
  | .scnFrecSelWrite _ _ _ => true
  | .scnTmodeWrite _ _ _ => true
  | .scnBlankWrite _ _ _ => true
  | .scnIfsWrite _ _ _ => true
  | .cmpCresSelWrite _ _ _ => true
  | .paletteWrite _ _ pal i _ => decide (pal < 8) && decide (i < 256)
  | .palDiscard _ _ _ => true
  | .szrCload _ _ _ => true
  | .szrCselWrite _ _ _ => true
  | .maskSetHost _ _ g xr yr => decide (g < 16) && decide (xr < 1024) && decide (yr < 64)
  | .maskClear _ _ g xr yr => decide (g < 16) && decide (xr < 1024) && decide (yr < 64)
  | .readmit _ _ g _ => decide (g < 16)
  | .pixselWrite _ _ g _ => decide (g < 16)
  | .tilAdcStart _ _ g v => decide (g < 16) && v.getLsbD 0
  | .adcStart _ _ n v => decide (n < 4) && v.getLsbD 0
  | .groupGo _ _ => true
  | .calZero _ _ conv input => decide (conv < 16) && decide (input < 16)
  | .calFull _ _ conv input => decide (conv < 16) && decide (input < 16)
  | .ucalReset _ _ conv input => decide (conv < 16) && decide (input < 16)
  | .ucalDone => true
  | .requestSleep _ _ => true
  | .requestStandby _ _ => true
  | .requestRun _ _ => true
  | .requestHold _ _ => true
  | .vcoreOfsWrite _ _ _ => true
  | .clearFallback _ _ => true
  | .clearDark _ _ => true
  | .clearFirst _ _ => true
  | .fltInjWrite _ _ _ real => real.all reportWf
  | .logSelWrite _ _ _ => true
  | .safInjWrite _ _ _ => true
  | .botResetWrite _ _ _ => true
  | .activate _ _ target slot => decide (target < 2) && decide (slot < 2)
  | .activateNow _ _ target slot => decide (target < 2) && decide (slot < 2)
  | .confirmFirmware _ _ => true
  | .confirmPlate _ _ => true
  | .lcReq _ _ target => decide (target < 8)
  | .keyProgram _ _ slot => decide (slot < 4)
  | .keyRevoke _ _ slot => decide (slot < 4)
  | .bistGo _ _ groups => decide (groups < 256)
  | .bistDone sigs => decide (sigs.length = 8)
  | .custRead _ _ => true
  | .custErase _ _ => true
  | .custProgram _ _ => true
  | .custOpDone _ => true
  | .saveNow _ _ => true
  | .reload _ _ => true
  | .calCtrlWrite _ _ _ => true
  | .chkCfgWrite _ _ u _ => decide (u < 4)
  | .chkStateWrite _ _ u _ => decide (u < 4)
  | .chkData8 _ _ u _ => decide (u < 4)
  | .chkData16 _ _ u _ => decide (u < 4)
  | .chkData32 _ _ u _ => decide (u < 4)
  | .chkScanGo _ _ u => decide (u < 4)
  | .chkScanEnd u => decide (u < 4)
  | .pmcCntWrite _ _ k _ => decide (k < 32)
  | .pmcSelWrite _ _ k _ => decide (k < 32)
  | .pmcSmpCfgWrite _ _ _ => true
  | .pmcSmpSelWrite _ _ _ => true
  | .retrain _ _ _ => true
  | .linkEnWrite _ _ _ _ => true
  | .lnkRejoinWrite _ _ _ _ => true
  | .lnkLoopWrite _ _ _ _ _ => true
  | .prbsClr _ _ _ => true
  | .dataPacket _ lines => linesWf lines
  | .ackReceived _ lines => linesWf lines
  | .nakReceived _ lines => linesWf lines
  | .ackTimeout _ => true
  | .ackDue _ => true
  | .nakRepeat _ => true
  | .portLoss _ => true
  | .markerColumn _ lanes => decide (lanes.length ≤ 4)
  | .symbolLock _ lane _ _ eyes => decide (lane < 4) && decide (eyes.length ≤ 16)
  | .hostCap _ lines => linesWf lines
  | .tsAckReceived _ lines => linesWf lines
  | .tsIgnored _ lines => linesWf lines
  | .trainTimeout _ => true
  | .rateRestart _ => true
  | .laneFault _ lane _ => decide (lane < 4)
  | .parkDecision _ => true
  | .rejoinDue _ => true
  | .prbsWindowDone _ lane _ => decide (lane < 4)
  | .prbsLockTimeout _ lane => decide (lane < 4)
  | .mbWriteGroup _ head _ => head.all busHeadWf
  | .mbReadWord _ head => head.all busHeadWf
  | .mbStop _ stop => stop.head.all busHeadWf
  | .slotBoundary _ _ _ => true
  | .litSample samples => samples.all sampleWf
  | .darkSample samples => samples.all sampleWf
  | .decisionPoint => true
  | .line7Blanking => true
  | .cycleBoundary badComparators => badComparators.all fun c => decide (c < 2 ^ 20)
  | .d2dTransferFail _ wire => wire.all fun w => decide (w < 2 ^ 16)
  | .syncinEdge => true
  | .syncLossTimeout => true
  | .camsyncPulse => true
  | .passStart => true
  | .passEnd => true
  | .proofCompare k => decide (k < 16)
  | .sealCheck _ x y _ => decide (x < 2048) && decide (y < 512)
  | .fallbackPatternCheck _ => true
  | .fallbackReloadDone _ => true
  | .storeEccError g => decide (g < 16)
  | .fenceTimeout t => timerWf t
  | .avsAcknowledge rail => decide (rail < 4)
  | .avsNack rail => decide (rail < 4)
  | .avsTimeout rail => decide (rail < 4)
  | .avsStatusPoll rail _ => decide (rail < 4)
  | .headroomUpdate _ => true
  | .calStepEnd g _ => decide (g < 16)
  | .roundStall g => decide (g < 16)
  | .fluxInterval => true
  | .trimSaveDue => true
  | .settingsWrite => true
  | .scheduledConversion g => decide (g < 16)
  | .conversionDone conv raw => convWf conv && decide (raw < 65536)
  | .urgentRequest k => decide (k < 32)
  | .hostConversionStart conv => convWf conv
  | .groupTrigger => true
  | .groupDone raws => raws.all fun c => decide (c < 65536)
  | .vinRise => true
  | .vinFall => true
  | .resetN _ => true
  | .supplyGoodLoss _ => true
  | .start cause => decide (cause < 16)
  | .startPhaseDone _ => true
  | .startRetry => true
  | .nativeWake _ target _ => decide (target < 128)
  | .laneWake _ _ => true
  | .wakeStepDone => true
  | .wakeStepTimeout => true
  | .sclRelease _ => true
  | .domainOnDone _ _ => true
  | .refClockLoss => true
  | .pllLockLoss => true
  | .lockstep => true
  | .inputAccepted changes => changes.all fun c => decide (c.1 < 4)
  | .discrepancyTimeout _ => true
  | .po1OffDemand => true
  | .outputOverload _ => true
  | .offPulseStart _ => true
  | .pulseReadbackLow _ _ => true
  | .pulseEnd _ => true
  | .pulseReadbackHigh _ _ => true
  | .heartbeatSend => true
  | .heartbeatBeat _ _ => true
  | .heartbeatMiss => true
  | .guardianRestart => true
  | .faReadback _ => true
  | .killReadback _ _ => true
  | .aonClockCheck _ => true
  | .relight => true
  | .faultEvent events => events.all reportWf
  | .windowElapse k => decide (k < 128)
  | .logWriteDone => true
  | .pwrPhyCtrlWrite _ _ _ => true
  | .powerGoodReturn _ => true
  | .flashWriteDone _ => true
  | .storeroomLoadDone => true
  | .memoryEccError place _ => eccWf place
  | .handshakeTimeout _ => true
  | .checkerLock _ lane _ eyes => decide (lane < 4) && decide (eyes.length ≤ 16)
  | .transmitIdleEnd _ => true
  | .syncoutPulseEnd => true
  | .faultAliveEdge => true

end Sys2Proof
end

