-- ==== Sys2Proof/Laws/PerInstr.lean ====
section
/-! SUPPORT. A statement about every command as syntax, one lemma per constructor: no number operand of a well-formed
command is lost when a register word, a header word or a bus address carries it. -/

namespace Sys2Proof.Laws

/-- The number operands of a command; of a link command, the length in its header. -/
def Operands.numbers : Instr → List Nat
  | .nop h _ => [h.len]
  | .regWrite h _ => [h.len]
  | .regRead h _ => [h.len]
  | .regRmw h _ => [h.len]
  | .echo h _ => [h.len]
  | .layerWrite h _ => [h.len]
  | .streamBlock _ _ => []
  | .slotCtrl h _ => [h.len]
  | .slotOpen _ _ slot => [slot]
  | .slotReady _ _ slot => [slot]
  | .slotRelease _ _ slot => [slot]
  | .commit h _ => [h.len]
  | .cmpCommitWrite _ _ _ => []
  | .fenceSignal h _ => [h.len]
  | .fenceSigWrite _ _ _ => []
  | .fenceSet _ _ k _ => [k]
  | .semAcquire h _ => [h.len]
  | .semRelease h _ => [h.len]
  | .semAcqWrite _ _ _ => []
  | .semRelWrite _ _ _ => []
  | .updateBegin h _ => [h.len]
  | .updateBlock h _ => [h.len]
  | .updateFinish h _ => [h.len]
  | .updateEraseDone => []
  | .programBufferDrain words => [words]
  | .registerWrite _ _ addr _ => [addr]
  | .loHalfRead _ _ addr => [addr]
  | .chainRead _ _ k => [k]
  | .scnFrecSelWrite _ _ _ => []
  | .scnTmodeWrite _ _ _ => []
  | .scnBlankWrite _ _ _ => []
  | .scnIfsWrite _ _ _ => []
  | .cmpCresSelWrite _ _ _ => []
  | .paletteWrite _ _ pal i _ => [pal, i]
  | .palDiscard _ _ _ => []
  | .szrCload _ _ _ => []
  | .szrCselWrite _ _ _ => []
  | .maskSetHost _ _ g xr yr => [g, xr, yr]
  | .maskClear _ _ g xr yr => [g, xr, yr]
  | .readmit _ _ g _ => [g]
  | .pixselWrite _ _ g _ => [g]
  | .tilAdcStart _ _ g _ => [g]
  | .adcStart _ _ n _ => [n]
  | .groupGo _ _ => []
  | .calZero _ _ conv input => [conv, input]
  | .calFull _ _ conv input => [conv, input]
  | .ucalReset _ _ conv input => [conv, input]
  | .ucalDone => []
  | .requestSleep _ _ => []
  | .requestStandby _ _ => []
  | .requestRun _ _ => []
  | .requestHold _ _ => []
  | .vcoreOfsWrite _ _ _ => []
  | .clearFallback _ _ => []
  | .clearDark _ _ => []
  | .clearFirst _ _ => []
  | .fltInjWrite _ _ _ _ => []
  | .logSelWrite _ _ _ => []
  | .safInjWrite _ _ _ => []
  | .botResetWrite _ _ _ => []
  | .activate _ _ target slot => [target, slot]
  | .activateNow _ _ target slot => [target, slot]
  | .confirmFirmware _ _ => []
  | .confirmPlate _ _ => []
  | .lcReq _ _ target => [target]
  | .keyProgram _ _ slot => [slot]
  | .keyRevoke _ _ slot => [slot]
  | .bistGo _ _ groups => [groups]
  | .bistDone _ => []
  | .custRead _ _ => []
  | .custErase _ _ => []
  | .custProgram _ _ => []
  | .custOpDone _ => []
  | .saveNow _ _ => []
  | .reload _ _ => []
  | .calCtrlWrite _ _ _ => []
  | .chkCfgWrite _ _ u _ => [u]
  | .chkStateWrite _ _ u _ => [u]
  | .chkData8 _ _ u _ => [u]
  | .chkData16 _ _ u _ => [u]
  | .chkData32 _ _ u _ => [u]
  | .chkScanGo _ _ u => [u]
  | .chkScanEnd u => [u]
  | .pmcCntWrite _ _ k _ => [k]
  | .pmcSelWrite _ _ k _ => [k]
  | .pmcSmpCfgWrite _ _ _ => []
  | .pmcSmpSelWrite _ _ _ => []
  | .retrain _ _ _ => []
  | .linkEnWrite _ _ _ _ => []
  | .lnkRejoinWrite _ _ _ _ => []
  | .lnkLoopWrite _ _ _ _ _ => []
  | .prbsClr _ _ _ => []
  | .dataPacket _ lines => [lines.length]
  | .ackReceived _ lines => [lines.length]
  | .nakReceived _ lines => [lines.length]
  | .ackTimeout _ => []
  | .ackDue _ => []
  | .nakRepeat _ => []
  | .portLoss _ => []
  | .markerColumn _ lanes => [lanes.length]
  | .symbolLock _ lane _ _ eyes => [lane, eyes.length]
  | .hostCap _ lines => [lines.length]
  | .tsAckReceived _ lines => [lines.length]
  | .tsIgnored _ lines => [lines.length]
  | .trainTimeout _ => []
  | .rateRestart _ => []
  | .laneFault _ lane _ => [lane]
  | .parkDecision _ => []
  | .rejoinDue _ => []
  | .prbsWindowDone _ lane _ => [lane]
  | .prbsLockTimeout _ lane => [lane]
  | .mbWriteGroup _ head _ => (head.map fun h => h.addr.getD 0).toList
  | .mbReadWord _ head => (head.map fun h => h.addr.getD 0).toList
  | .mbStop _ stop => (stop.head.map fun h => h.addr.getD 0).toList
  | .slotBoundary _ _ _ => []
  | .litSample _ => []
  | .darkSample _ => []
  | .decisionPoint => []
  | .line7Blanking => []
  | .cycleBoundary _ => []
  | .d2dTransferFail _ wire => wire.toList
  | .syncinEdge => []
  | .syncLossTimeout => []
  | .camsyncPulse => []
  | .passStart => []
  | .passEnd => []
  | .proofCompare k => [k]
  | .sealCheck _ x y _ => [x, y]
  | .fallbackPatternCheck _ => []
  | .fallbackReloadDone _ => []
  | .storeEccError g => [g]
  | .fenceTimeout _ => []
  | .avsAcknowledge rail => [rail]
  | .avsNack rail => [rail]
  | .avsTimeout rail => [rail]
  | .avsStatusPoll rail _ => [rail]
  | .headroomUpdate _ => []
  | .calStepEnd g _ => [g]
  | .roundStall g => [g]
  | .fluxInterval => []
  | .trimSaveDue => []
  | .settingsWrite => []
  | .scheduledConversion g => [g]
  | .conversionDone conv raw => [conv, raw]
  | .urgentRequest k => [k]
  | .hostConversionStart conv => [conv]
  | .groupTrigger => []
  | .groupDone _ => []
  | .vinRise => []
  | .vinFall => []
  | .resetN _ => []
  | .supplyGoodLoss _ => []
  | .start cause => [cause]
  | .startPhaseDone _ => []
  | .startRetry => []
  | .nativeWake _ target _ => [target]
  | .laneWake _ _ => []
  | .wakeStepDone => []
  | .wakeStepTimeout => []
  | .sclRelease _ => []
  | .domainOnDone _ _ => []
  | .refClockLoss => []
  | .pllLockLoss => []
  | .lockstep => []
  | .inputAccepted _ => []
  | .discrepancyTimeout _ => []
  | .po1OffDemand => []
  | .outputOverload _ => []
  | .offPulseStart _ => []
  | .pulseReadbackLow _ _ => []
  | .pulseEnd _ => []
  | .pulseReadbackHigh _ _ => []
  | .heartbeatSend => []
  | .heartbeatBeat _ _ => []
  | .heartbeatMiss => []
  | .guardianRestart => []
  | .faReadback _ => []
  | .killReadback _ _ => []
  | .aonClockCheck _ => []
  | .relight => []
  | .faultEvent _ => []
  | .windowElapse k => [k]
  | .logWriteDone => []
  | .pwrPhyCtrlWrite _ _ _ => []
  | .powerGoodReturn _ => []
  | .flashWriteDone _ => []
  | .storeroomLoadDone => []
  | .memoryEccError _ _ => []
  | .handshakeTimeout _ => []
  | .checkerLock _ lane _ eyes => [lane, eyes.length]
  | .transmitIdleEnd _ => []
  | .syncoutPulseEnd => []
  | .faultAliveEdge => []

/-- Every number operand of a well-formed command fits a word of 32 bits. -/
def Operands.Statement (i : Instr) : Prop := i.wf = true → ∀ n ∈ Operands.numbers i, n < 2 ^ 32

namespace Operands

theorem nop (h : CmdHead) (payload : List Word) : Statement (.nop h payload) := by
  intro (hw : (headWf h payload) = true) m (hm : m ∈ [h.len])
  simp [headWf] at hw hm; omega
theorem regWrite (h : CmdHead) (payload : List Word) : Statement (.regWrite h payload) := by
  intro (hw : (headWf h payload) = true) m (hm : m ∈ [h.len])
  simp [headWf] at hw hm; omega
theorem regRead (h : CmdHead) (payload : List Word) : Statement (.regRead h payload) := by
  intro (hw : (headWf h payload) = true) m (hm : m ∈ [h.len])
  simp [headWf] at hw hm; omega
theorem regRmw (h : CmdHead) (payload : List Word) : Statement (.regRmw h payload) := by
  intro (hw : (headWf h payload) = true) m (hm : m ∈ [h.len])
  simp [headWf] at hw hm; omega
theorem echo (h : CmdHead) (payload : List Word) : Statement (.echo h payload) := by
  intro (hw : (headWf h payload) = true) m (hm : m ∈ [h.len])
  simp [headWf] at hw hm; omega
theorem layerWrite (h : CmdHead) (payload : List Word) : Statement (.layerWrite h payload) := by
  intro (hw : (headWf h payload) = true) m (hm : m ∈ [h.len])
  simp [headWf] at hw hm; omega
theorem streamBlock (p : Port) (words : List Word) : Statement (.streamBlock p words) := by
  intro _ _ h; cases h
theorem slotCtrl (h : CmdHead) (payload : List Word) : Statement (.slotCtrl h payload) := by
  intro (hw : (headWf h payload) = true) m (hm : m ∈ [h.len])
  simp [headWf] at hw hm; omega
theorem slotOpen (p : Port) (w : Path) (slot : Nat) : Statement (.slotOpen p w slot) := by
  intro (hw : (decide (slot < 64)) = true) m (hm : m ∈ [slot])
  simp at hw hm; omega
theorem slotReady (p : Port) (w : Path) (slot : Nat) : Statement (.slotReady p w slot) := by
  intro (hw : (decide (slot < 64)) = true) m (hm : m ∈ [slot])
  simp at hw hm; omega
theorem slotRelease (p : Port) (w : Path) (slot : Nat) : Statement (.slotRelease p w slot) := by
  intro (hw : (decide (slot < 64)) = true) m (hm : m ∈ [slot])
  simp at hw hm; omega
theorem commit (h : CmdHead) (payload : List Word) : Statement (.commit h payload) := by
  intro (hw : (headWf h payload) = true) m (hm : m ∈ [h.len])
  simp [headWf] at hw hm; omega
theorem cmpCommitWrite (p : Port) (w : Path) (v : Word) : Statement (.cmpCommitWrite p w v) := by
  intro _ _ h; cases h
theorem fenceSignal (h : CmdHead) (payload : List Word) : Statement (.fenceSignal h payload) := by
  intro (hw : (headWf h payload) = true) m (hm : m ∈ [h.len])
  simp [headWf] at hw hm; omega
theorem fenceSigWrite (p : Port) (w : Path) (v : Word) : Statement (.fenceSigWrite p w v) := by
  intro _ _ h; cases h
theorem fenceSet (p : Port) (w : Path) (k : Nat) (v : Word) : Statement (.fenceSet p w k v) := by
  intro (hw : (decide (k < 16)) = true) m (hm : m ∈ [k])
  simp at hw hm; omega
theorem semAcquire (h : CmdHead) (payload : List Word) : Statement (.semAcquire h payload) := by
  intro (hw : (headWf h payload) = true) m (hm : m ∈ [h.len])
  simp [headWf] at hw hm; omega
theorem semRelease (h : CmdHead) (payload : List Word) : Statement (.semRelease h payload) := by
  intro (hw : (headWf h payload) = true) m (hm : m ∈ [h.len])
  simp [headWf] at hw hm; omega
theorem semAcqWrite (p : Port) (w : Path) (v : Word) : Statement (.semAcqWrite p w v) := by
  intro _ _ h; cases h
theorem semRelWrite (p : Port) (w : Path) (v : Word) : Statement (.semRelWrite p w v) := by
  intro _ _ h; cases h
theorem updateBegin (h : CmdHead) (payload : List Word) : Statement (.updateBegin h payload) := by
  intro (hw : (headWf h payload) = true) m (hm : m ∈ [h.len])
  simp [headWf] at hw hm; omega
theorem updateBlock (h : CmdHead) (payload : List Word) : Statement (.updateBlock h payload) := by
  intro (hw : (headWf h payload) = true) m (hm : m ∈ [h.len])
  simp [headWf] at hw hm; omega
theorem updateFinish (h : CmdHead) (payload : List Word) : Statement (.updateFinish h payload) := by
  intro (hw : (headWf h payload) = true) m (hm : m ∈ [h.len])
  simp [headWf] at hw hm; omega
theorem updateEraseDone : Statement (.updateEraseDone) := by
  intro _ _ h; cases h
theorem programBufferDrain (words : Nat) : Statement (.programBufferDrain words) := by
  intro (hw : (decide (words < 2 ^ 32)) = true) m (hm : m ∈ [words])
  simp at hw hm; omega
theorem registerWrite (p : Port) (w : Path) (addr : Nat) (v : Word) : Statement (.registerWrite p w addr v) := by
  intro (hw : (addrWf addr) = true) m (hm : m ∈ [addr])
  simp [addrWf] at hw hm; omega
theorem loHalfRead (p : Port) (w : Path) (addr : Nat) : Statement (.loHalfRead p w addr) := by
  intro (hw : (addrWf addr) = true) m (hm : m ∈ [addr])
  simp [addrWf] at hw hm; omega
theorem chainRead (p : Port) (w : Path) (k : Nat) : Statement (.chainRead p w k) := by
  intro (hw : (decide (k < 32)) = true) m (hm : m ∈ [k])
  simp at hw hm; omega
theorem scnFrecSelWrite (p : Port) (w : Path) (v : Word) : Statement (.scnFrecSelWrite p w v) := by
  intro _ _ h; cases h
theorem scnTmodeWrite (p : Port) (w : Path) (v : Word) : Statement (.scnTmodeWrite p w v) := by
  intro _ _ h; cases h
theorem scnBlankWrite (p : Port) (w : Path) (v : Word) : Statement (.scnBlankWrite p w v) := by
  intro _ _ h; cases h
theorem scnIfsWrite (p : Port) (w : Path) (v : Word) : Statement (.scnIfsWrite p w v) := by
  intro _ _ h; cases h
theorem cmpCresSelWrite (p : Port) (w : Path) (v : Word) : Statement (.cmpCresSelWrite p w v) := by
  intro _ _ h; cases h
theorem paletteWrite (p : Port) (w : Path) (pal : Nat) (i : Nat) (v : Word) : Statement (.paletteWrite p w pal i v) := by
  intro (hw : (decide (pal < 8) && decide (i < 256)) = true) m (hm : m ∈ [pal, i])
  simp at hw hm; omega
theorem palDiscard (p : Port) (w : Path) (v : Word) : Statement (.palDiscard p w v) := by
  intro _ _ h; cases h
theorem szrCload (p : Port) (w : Path) (v : Word) : Statement (.szrCload p w v) := by
  intro _ _ h; cases h
theorem szrCselWrite (p : Port) (w : Path) (v : Word) : Statement (.szrCselWrite p w v) := by
  intro _ _ h; cases h
theorem maskSetHost (p : Port) (w : Path) (g : Nat) (xr : Nat) (yr : Nat) : Statement (.maskSetHost p w g xr yr) := by
  intro (hw : (decide (g < 16) && decide (xr < 1024) && decide (yr < 64)) = true) m (hm : m ∈ [g, xr, yr])
  simp at hw hm; omega
theorem maskClear (p : Port) (w : Path) (g : Nat) (xr : Nat) (yr : Nat) : Statement (.maskClear p w g xr yr) := by
  intro (hw : (decide (g < 16) && decide (xr < 1024) && decide (yr < 64)) = true) m (hm : m ∈ [g, xr, yr])
  simp at hw hm; omega
theorem readmit (p : Port) (w : Path) (g : Nat) (v : Word) : Statement (.readmit p w g v) := by
  intro (hw : (decide (g < 16)) = true) m (hm : m ∈ [g])
  simp at hw hm; omega
theorem pixselWrite (p : Port) (w : Path) (g : Nat) (v : Word) : Statement (.pixselWrite p w g v) := by
  intro (hw : (decide (g < 16)) = true) m (hm : m ∈ [g])
  simp at hw hm; omega
theorem tilAdcStart (p : Port) (w : Path) (g : Nat) (v : Word) : Statement (.tilAdcStart p w g v) := by
  intro (hw : (decide (g < 16) && v.getLsbD 0) = true) m (hm : m ∈ [g])
  simp at hw hm; omega
theorem adcStart (p : Port) (w : Path) (n : Nat) (v : Word) : Statement (.adcStart p w n v) := by
  intro (hw : (decide (n < 4) && v.getLsbD 0) = true) m (hm : m ∈ [n])
  simp at hw hm; omega
theorem groupGo (p : Port) (w : Path) : Statement (.groupGo p w) := by
  intro _ _ h; cases h
theorem calZero (p : Port) (w : Path) (conv : Nat) (input : Nat) : Statement (.calZero p w conv input) := by
  intro (hw : (decide (conv < 16) && decide (input < 16)) = true) m (hm : m ∈ [conv, input])
  simp at hw hm; omega
theorem calFull (p : Port) (w : Path) (conv : Nat) (input : Nat) : Statement (.calFull p w conv input) := by
  intro (hw : (decide (conv < 16) && decide (input < 16)) = true) m (hm : m ∈ [conv, input])
  simp at hw hm; omega
theorem ucalReset (p : Port) (w : Path) (conv : Nat) (input : Nat) : Statement (.ucalReset p w conv input) := by
  intro (hw : (decide (conv < 16) && decide (input < 16)) = true) m (hm : m ∈ [conv, input])
  simp at hw hm; omega
theorem ucalDone : Statement (.ucalDone) := by
  intro _ _ h; cases h
theorem requestSleep (p : Port) (w : Path) : Statement (.requestSleep p w) := by
  intro _ _ h; cases h
theorem requestStandby (p : Port) (w : Path) : Statement (.requestStandby p w) := by
  intro _ _ h; cases h
theorem requestRun (p : Port) (w : Path) : Statement (.requestRun p w) := by
  intro _ _ h; cases h
theorem requestHold (p : Port) (w : Path) : Statement (.requestHold p w) := by
  intro _ _ h; cases h
theorem vcoreOfsWrite (p : Port) (w : Path) (v : Word) : Statement (.vcoreOfsWrite p w v) := by
  intro _ _ h; cases h
theorem clearFallback (p : Port) (w : Path) : Statement (.clearFallback p w) := by
  intro _ _ h; cases h
theorem clearDark (p : Port) (w : Path) : Statement (.clearDark p w) := by
  intro _ _ h; cases h
theorem clearFirst (p : Port) (w : Path) : Statement (.clearFirst p w) := by
  intro _ _ h; cases h
theorem fltInjWrite (p : Port) (w : Path) (v : Word) (real : List FaultReport) : Statement (.fltInjWrite p w v real) := by
  intro _ _ h; cases h
theorem logSelWrite (p : Port) (w : Path) (v : Word) : Statement (.logSelWrite p w v) := by
  intro _ _ h; cases h
theorem safInjWrite (p : Port) (w : Path) (v : Word) : Statement (.safInjWrite p w v) := by
  intro _ _ h; cases h
theorem botResetWrite (p : Port) (w : Path) (v : Word) : Statement (.botResetWrite p w v) := by
  intro _ _ h; cases h
theorem activate (p : Port) (w : Path) (target : Nat) (slot : Nat) : Statement (.activate p w target slot) := by
  intro (hw : (decide (target < 2) && decide (slot < 2)) = true) m (hm : m ∈ [target, slot])
  simp at hw hm; omega
theorem activateNow (p : Port) (w : Path) (target : Nat) (slot : Nat) : Statement (.activateNow p w target slot) := by
  intro (hw : (decide (target < 2) && decide (slot < 2)) = true) m (hm : m ∈ [target, slot])
  simp at hw hm; omega
theorem confirmFirmware (p : Port) (w : Path) : Statement (.confirmFirmware p w) := by
  intro _ _ h; cases h
theorem confirmPlate (p : Port) (w : Path) : Statement (.confirmPlate p w) := by
  intro _ _ h; cases h
theorem lcReq (p : Port) (w : Path) (target : Nat) : Statement (.lcReq p w target) := by
  intro (hw : (decide (target < 8)) = true) m (hm : m ∈ [target])
  simp at hw hm; omega
theorem keyProgram (p : Port) (w : Path) (slot : Nat) : Statement (.keyProgram p w slot) := by
  intro (hw : (decide (slot < 4)) = true) m (hm : m ∈ [slot])
  simp at hw hm; omega
theorem keyRevoke (p : Port) (w : Path) (slot : Nat) : Statement (.keyRevoke p w slot) := by
  intro (hw : (decide (slot < 4)) = true) m (hm : m ∈ [slot])
  simp at hw hm; omega
theorem bistGo (p : Port) (w : Path) (groups : Nat) : Statement (.bistGo p w groups) := by
  intro (hw : (decide (groups < 256)) = true) m (hm : m ∈ [groups])
  simp at hw hm; omega
theorem bistDone (sigs : List Word) : Statement (.bistDone sigs) := by
  intro _ _ h; cases h
theorem custRead (p : Port) (w : Path) : Statement (.custRead p w) := by
  intro _ _ h; cases h
theorem custErase (p : Port) (w : Path) : Statement (.custErase p w) := by
  intro _ _ h; cases h
theorem custProgram (p : Port) (w : Path) : Statement (.custProgram p w) := by
  intro _ _ h; cases h
theorem custOpDone (flashError : Bool) : Statement (.custOpDone flashError) := by
  intro _ _ h; cases h
theorem saveNow (p : Port) (w : Path) : Statement (.saveNow p w) := by
  intro _ _ h; cases h
theorem reload (p : Port) (w : Path) : Statement (.reload p w) := by
  intro _ _ h; cases h
theorem calCtrlWrite (p : Port) (w : Path) (v : Word) : Statement (.calCtrlWrite p w v) := by
  intro _ _ h; cases h
theorem chkCfgWrite (p : Port) (w : Path) (u : Nat) (v : Word) : Statement (.chkCfgWrite p w u v) := by
  intro (hw : (decide (u < 4)) = true) m (hm : m ∈ [u])
  simp at hw hm; omega
theorem chkStateWrite (p : Port) (w : Path) (u : Nat) (v : Word) : Statement (.chkStateWrite p w u v) := by
  intro (hw : (decide (u < 4)) = true) m (hm : m ∈ [u])
  simp at hw hm; omega
theorem chkData8 (p : Port) (w : Path) (u : Nat) (v : Word) : Statement (.chkData8 p w u v) := by
  intro (hw : (decide (u < 4)) = true) m (hm : m ∈ [u])
  simp at hw hm; omega
theorem chkData16 (p : Port) (w : Path) (u : Nat) (v : Word) : Statement (.chkData16 p w u v) := by
  intro (hw : (decide (u < 4)) = true) m (hm : m ∈ [u])
  simp at hw hm; omega
theorem chkData32 (p : Port) (w : Path) (u : Nat) (v : Word) : Statement (.chkData32 p w u v) := by
  intro (hw : (decide (u < 4)) = true) m (hm : m ∈ [u])
  simp at hw hm; omega
theorem chkScanGo (p : Port) (w : Path) (u : Nat) : Statement (.chkScanGo p w u) := by
  intro (hw : (decide (u < 4)) = true) m (hm : m ∈ [u])
  simp at hw hm; omega
theorem chkScanEnd (u : Nat) : Statement (.chkScanEnd u) := by
  intro (hw : (decide (u < 4)) = true) m (hm : m ∈ [u])
  simp at hw hm; omega
theorem pmcCntWrite (p : Port) (w : Path) (k : Nat) (v : Word) : Statement (.pmcCntWrite p w k v) := by
  intro (hw : (decide (k < 32)) = true) m (hm : m ∈ [k])
  simp at hw hm; omega
theorem pmcSelWrite (p : Port) (w : Path) (k : Nat) (v : Word) : Statement (.pmcSelWrite p w k v) := by
  intro (hw : (decide (k < 32)) = true) m (hm : m ∈ [k])
  simp at hw hm; omega
theorem pmcSmpCfgWrite (p : Port) (w : Path) (v : Word) : Statement (.pmcSmpCfgWrite p w v) := by
  intro _ _ h; cases h
theorem pmcSmpSelWrite (p : Port) (w : Path) (v : Word) : Statement (.pmcSmpSelWrite p w v) := by
  intro _ _ h; cases h
theorem retrain (p : Port) (w : Path) (lp : Port) : Statement (.retrain p w lp) := by
  intro _ _ h; cases h
theorem linkEnWrite (p : Port) (w : Path) (lp : Port) (en : Bool) : Statement (.linkEnWrite p w lp en) := by
  intro _ _ h; cases h
theorem lnkRejoinWrite (p : Port) (w : Path) (lp : Port) (v : Word) : Statement (.lnkRejoinWrite p w lp v) := by
  intro _ _ h; cases h
theorem lnkLoopWrite (p : Port) (w : Path) (lp : Port) (prbs : Bool) (v : Word) : Statement (.lnkLoopWrite p w lp prbs v) := by
  intro _ _ h; cases h
theorem prbsClr (p : Port) (w : Path) (lp : Port) : Statement (.prbsClr p w lp) := by
  intro _ _ h; cases h
theorem dataPacket (p : Port) (lines : List (List LineItem)) : Statement (.dataPacket p lines) := by
  intro (hw : decide (lines.length ≤ 4) = true) m (hm : m ∈ [lines.length])
  simp at hw hm; omega
theorem ackReceived (p : Port) (lines : List (List LineItem)) : Statement (.ackReceived p lines) := by
  intro (hw : decide (lines.length ≤ 4) = true) m (hm : m ∈ [lines.length])
  simp at hw hm; omega
theorem nakReceived (p : Port) (lines : List (List LineItem)) : Statement (.nakReceived p lines) := by
  intro (hw : decide (lines.length ≤ 4) = true) m (hm : m ∈ [lines.length])
  simp at hw hm; omega
theorem ackTimeout (p : Port) : Statement (.ackTimeout p) := by
  intro _ _ h; cases h
theorem ackDue (p : Port) : Statement (.ackDue p) := by
  intro _ _ h; cases h
theorem nakRepeat (p : Port) : Statement (.nakRepeat p) := by
  intro _ _ h; cases h
theorem portLoss (p : Port) : Statement (.portLoss p) := by
  intro _ _ h; cases h
theorem markerColumn (p : Port) (lanes : List LaneMark) : Statement (.markerColumn p lanes) := by
  intro (hw : decide (lanes.length ≤ 4) = true) m (hm : m ∈ [lanes.length])
  simp at hw hm; omega
theorem symbolLock (p : Port) (lane : Nat) (items : List LineItem) (inverted : Bool) (eyes : List Nat) : Statement (.symbolLock p lane items inverted eyes) := by
  intro (hw : (decide (lane < 4) && decide (eyes.length ≤ 16)) = true) m (hm : m ∈ [lane, eyes.length])
  simp at hw hm; omega
theorem hostCap (p : Port) (lines : List (List LineItem)) : Statement (.hostCap p lines) := by
  intro (hw : decide (lines.length ≤ 4) = true) m (hm : m ∈ [lines.length])
  simp at hw hm; omega
theorem tsAckReceived (p : Port) (lines : List (List LineItem)) : Statement (.tsAckReceived p lines) := by
  intro (hw : decide (lines.length ≤ 4) = true) m (hm : m ∈ [lines.length])
  simp at hw hm; omega
theorem tsIgnored (p : Port) (lines : List (List LineItem)) : Statement (.tsIgnored p lines) := by
  intro (hw : decide (lines.length ≤ 4) = true) m (hm : m ∈ [lines.length])
  simp at hw hm; omega
theorem trainTimeout (p : Port) : Statement (.trainTimeout p) := by
  intro _ _ h; cases h
theorem rateRestart (p : Port) : Statement (.rateRestart p) := by
  intro _ _ h; cases h
theorem laneFault (p : Port) (lane : Nat) (cause : LaneCause) : Statement (.laneFault p lane cause) := by
  intro (hw : (decide (lane < 4)) = true) m (hm : m ∈ [lane])
  simp at hw hm; omega
theorem parkDecision (p : Port) : Statement (.parkDecision p) := by
  intro _ _ h; cases h
theorem rejoinDue (p : Port) : Statement (.rejoinDue p) := by
  intro _ _ h; cases h
theorem prbsWindowDone (p : Port) (lane : Nat) (received : List PrbsRun) : Statement (.prbsWindowDone p lane received) := by
  intro (hw : (decide (lane < 4)) = true) m (hm : m ∈ [lane])
  simp at hw hm; omega
theorem prbsLockTimeout (p : Port) (lane : Nat) : Statement (.prbsLockTimeout p lane) := by
  intro (hw : (decide (lane < 4)) = true) m (hm : m ∈ [lane])
  simp at hw hm; omega
theorem mbWriteGroup (p : Port) (head : Option BusHead) (v : Word) : Statement (.mbWriteGroup p head v) := by
  intro (hw : head.all busHeadWf = true) m (hm : m ∈ (head.map fun h => h.addr.getD 0).toList)
  cases head with
  | none => simp at hm
  | some h =>
    cases ha : h.addr <;> simp [busHeadWf, addrWf, ha] at hw hm <;> omega
theorem mbReadWord (p : Port) (head : Option BusHead) : Statement (.mbReadWord p head) := by
  intro (hw : head.all busHeadWf = true) m (hm : m ∈ (head.map fun h => h.addr.getD 0).toList)
  cases head with
  | none => simp at hm
  | some h =>
    cases ha : h.addr <;> simp [busHeadWf, addrWf, ha] at hw hm <;> omega
theorem mbStop (p : Port) (stop : BusEnd) : Statement (.mbStop p stop) := by
  obtain ⟨head, cut⟩ := stop
  intro (hw : head.all busHeadWf = true) m (hm : m ∈ (head.map fun h => h.addr.getD 0).toList)
  cases head with
  | none => simp at hm
  | some h =>
    cases ha : h.addr <;> simp [busHeadWf, addrWf, ha] at hw hm <;> omega
theorem slotBoundary (wire0 : Bool) (wire1 : Bool) (within : Bool) : Statement (.slotBoundary wire0 wire1 within) := by
  intro _ _ h; cases h
theorem litSample (samples : List Sample) : Statement (.litSample samples) := by
  intro _ _ h; cases h
theorem darkSample (samples : List Sample) : Statement (.darkSample samples) := by
  intro _ _ h; cases h
theorem decisionPoint : Statement (.decisionPoint) := by
  intro _ _ h; cases h
theorem line7Blanking : Statement (.line7Blanking) := by
  intro _ _ h; cases h
theorem cycleBoundary (badComparators : List Nat) : Statement (.cycleBoundary badComparators) := by
  intro _ _ h; cases h
theorem d2dTransferFail (d : Die) (wire : Option Nat) : Statement (.d2dTransferFail d wire) := by
  intro (hw : (wire.all fun w => decide (w < 2 ^ 16)) = true) m (hm : m ∈ wire.toList)
  cases wire <;> simp at hw hm; omega
theorem syncinEdge : Statement (.syncinEdge) := by
  intro _ _ h; cases h
theorem syncLossTimeout : Statement (.syncLossTimeout) := by
  intro _ _ h; cases h
theorem camsyncPulse : Statement (.camsyncPulse) := by
  intro _ _ h; cases h
theorem passStart : Statement (.passStart) := by
  intro _ _ h; cases h
theorem passEnd : Statement (.passEnd) := by
  intro _ _ h; cases h
theorem proofCompare (k : Nat) : Statement (.proofCompare k) := by
  intro (hw : (decide (k < 16)) = true) m (hm : m ∈ [k])
  simp at hw hm; omega
theorem sealCheck (part : SealPart) (x : Nat) (y : Nat) (disturb : Word) : Statement (.sealCheck part x y disturb) := by
  intro (hw : (decide (x < 2048) && decide (y < 512)) = true) m (hm : m ∈ [x, y])
  simp at hw hm; omega
theorem fallbackPatternCheck (disturb : Word) : Statement (.fallbackPatternCheck disturb) := by
  intro _ _ h; cases h
theorem fallbackReloadDone (disturb : Word) : Statement (.fallbackReloadDone disturb) := by
  intro _ _ h; cases h
theorem storeEccError (g : Nat) : Statement (.storeEccError g) := by
  intro (hw : (decide (g < 16)) = true) m (hm : m ∈ [g])
  simp at hw hm; omega
theorem fenceTimeout (t : TimerOf) : Statement (.fenceTimeout t) := by
  intro _ _ h; cases h
theorem avsAcknowledge (rail : Nat) : Statement (.avsAcknowledge rail) := by
  intro (hw : (decide (rail < 4)) = true) m (hm : m ∈ [rail])
  simp at hw hm; omega
theorem avsNack (rail : Nat) : Statement (.avsNack rail) := by
  intro (hw : (decide (rail < 4)) = true) m (hm : m ∈ [rail])
  simp at hw hm; omega
theorem avsTimeout (rail : Nat) : Statement (.avsTimeout rail) := by
  intro (hw : (decide (rail < 4)) = true) m (hm : m ∈ [rail])
  simp at hw hm; omega
theorem avsStatusPoll (rail : Nat) (vdone : Bool) : Statement (.avsStatusPoll rail vdone) := by
  intro (hw : (decide (rail < 4)) = true) m (hm : m ∈ [rail])
  simp at hw hm; omega
theorem headroomUpdate (d : Die) : Statement (.headroomUpdate d) := by
  intro _ _ h; cases h
theorem calStepEnd (g : Nat) (regOk : Bool) : Statement (.calStepEnd g regOk) := by
  intro (hw : (decide (g < 16)) = true) m (hm : m ∈ [g])
  simp at hw hm; omega
theorem roundStall (g : Nat) : Statement (.roundStall g) := by
  intro (hw : (decide (g < 16)) = true) m (hm : m ∈ [g])
  simp at hw hm; omega
theorem fluxInterval : Statement (.fluxInterval) := by
  intro _ _ h; cases h
theorem trimSaveDue : Statement (.trimSaveDue) := by
  intro _ _ h; cases h
theorem settingsWrite : Statement (.settingsWrite) := by
  intro _ _ h; cases h
theorem scheduledConversion (g : Nat) : Statement (.scheduledConversion g) := by
  intro (hw : decide (g < 16) = true) m (hm : m ∈ [g])
  simp at hw hm; omega
theorem conversionDone (conv : Nat) (raw : Nat) : Statement (.conversionDone conv raw) := by
  intro (hw : (convWf conv && decide (raw < 65536)) = true) m (hm : m ∈ [conv, raw])
  simp [convWf] at hw hm; omega
theorem urgentRequest (k : Nat) : Statement (.urgentRequest k) := by
  intro (hw : (decide (k < 32)) = true) m (hm : m ∈ [k])
  simp at hw hm; omega
theorem hostConversionStart (conv : Nat) : Statement (.hostConversionStart conv) := by
  intro (hw : (convWf conv) = true) m (hm : m ∈ [conv])
  simp [convWf] at hw hm; omega
theorem groupTrigger : Statement (.groupTrigger) := by
  intro _ _ h; cases h
theorem groupDone (raws : List Nat) : Statement (.groupDone raws) := by
  intro _ _ h; cases h
theorem vinRise : Statement (.vinRise) := by
  intro _ _ h; cases h
theorem vinFall : Statement (.vinFall) := by
  intro _ _ h; cases h
theorem resetN (low : Bool) : Statement (.resetN low) := by
  intro _ _ h; cases h
theorem supplyGoodLoss (r : Supply) : Statement (.supplyGoodLoss r) := by
  intro _ _ h; cases h
theorem start (cause : Nat) : Statement (.start cause) := by
  intro (hw : (decide (cause < 16)) = true) m (hm : m ∈ [cause])
  simp at hw hm; omega
theorem startPhaseDone (passed : Bool) : Statement (.startPhaseDone passed) := by
  intro _ _ h; cases h
theorem startRetry : Statement (.startRetry) := by
  intro _ _ h; cases h
theorem nativeWake (p : Port) (target : Nat) (write : Bool) : Statement (.nativeWake p target write) := by
  intro (hw : decide (target < 128) = true) m (hm : m ∈ [target])
  simp at hw hm; omega
theorem laneWake (p : Port) (squelch : List (Bool × Nat)) : Statement (.laneWake p squelch) := by
  intro _ _ h; cases h
theorem wakeStepDone : Statement (.wakeStepDone) := by
  intro _ _ h; cases h
theorem wakeStepTimeout : Statement (.wakeStepTimeout) := by
  intro _ _ h; cases h
theorem sclRelease (p : Port) : Statement (.sclRelease p) := by
  intro _ _ h; cases h
theorem domainOnDone (d : Domain) (sequencersOk : Bool) : Statement (.domainOnDone d sequencersOk) := by
  intro _ _ h; cases h
theorem refClockLoss : Statement (.refClockLoss) := by
  intro _ _ h; cases h
theorem pllLockLoss : Statement (.pllLockLoss) := by
  intro _ _ h; cases h
theorem lockstep : Statement (.lockstep) := by
  intro _ _ h; cases h
theorem inputAccepted (changes : List (Nat × Bool)) : Statement (.inputAccepted changes) := by
  intro _ _ h; cases h
theorem discrepancyTimeout (sib : Bool) : Statement (.discrepancyTimeout sib) := by
  intro _ _ h; cases h
theorem po1OffDemand : Statement (.po1OffDemand) := by
  intro _ _ h; cases h
theorem outputOverload (po2 : Bool) : Statement (.outputOverload po2) := by
  intro _ _ h; cases h
theorem offPulseStart (po2 : Bool) : Statement (.offPulseStart po2) := by
  intro _ _ h; cases h
theorem pulseReadbackLow (po2 : Bool) (isLow : Bool) : Statement (.pulseReadbackLow po2 isLow) := by
  intro _ _ h; cases h
theorem pulseEnd (po2 : Bool) : Statement (.pulseEnd po2) := by
  intro _ _ h; cases h
theorem pulseReadbackHigh (po2 : Bool) (isHigh : Bool) : Statement (.pulseReadbackHigh po2 isHigh) := by
  intro _ _ h; cases h
theorem heartbeatSend : Statement (.heartbeatSend) := by
  intro _ _ h; cases h
theorem heartbeatBeat (count : Byte) (complement : Byte) : Statement (.heartbeatBeat count complement) := by
  intro _ _ h; cases h
theorem heartbeatMiss : Statement (.heartbeatMiss) := by
  intro _ _ h; cases h
theorem guardianRestart : Statement (.guardianRestart) := by
  intro _ _ h; cases h
theorem faReadback (differs : Bool) : Statement (.faReadback differs) := by
  intro _ _ h; cases h
theorem killReadback (d : Die) (differs : Bool) : Statement (.killReadback d differs) := by
  intro _ _ h; cases h
theorem aonClockCheck (deviates : Bool) : Statement (.aonClockCheck deviates) := by
  intro _ _ h; cases h
theorem relight : Statement (.relight) := by
  intro _ _ h; cases h
theorem faultEvent (events : List FaultReport) : Statement (.faultEvent events) := by
  intro _ _ h; cases h
theorem windowElapse (k : Nat) : Statement (.windowElapse k) := by
  intro (hw : (decide (k < 128)) = true) m (hm : m ∈ [k])
  simp at hw hm; omega
theorem logWriteDone : Statement (.logWriteDone) := by
  intro _ _ h; cases h
theorem pwrPhyCtrlWrite (p : Port) (w : Path) (v : Word) : Statement (.pwrPhyCtrlWrite p w v) := by
  intro _ _ h; cases h
theorem powerGoodReturn (r : Supply) : Statement (.powerGoodReturn r) := by
  intro _ _ h; cases h
theorem flashWriteDone (j : FlashJob) : Statement (.flashWriteDone j) := by
  intro _ _ h; cases h
theorem storeroomLoadDone : Statement (.storeroomLoadDone) := by
  intro _ _ h; cases h
theorem memoryEccError (place : EccPlace) (corrected : Bool) : Statement (.memoryEccError place corrected) := by
  intro _ _ h; cases h
theorem handshakeTimeout (p : Port) : Statement (.handshakeTimeout p) := by
  intro _ _ h; cases h
theorem checkerLock (p : Port) (lane : Nat) (received : List Bool) (eyes : List Nat) : Statement (.checkerLock p lane received eyes) := by
  intro (hw : (decide (lane < 4) && decide (eyes.length ≤ 16)) = true) m (hm : m ∈ [lane, eyes.length])
  simp at hw hm; omega
theorem transmitIdleEnd (p : Port) : Statement (.transmitIdleEnd p) := by
  intro _ _ h; cases h
theorem syncoutPulseEnd : Statement (.syncoutPulseEnd) := by
  intro _ _ h; cases h
theorem faultAliveEdge : Statement (.faultAliveEdge) := by
  intro _ _ h; cases h

end Operands

end Sys2Proof.Laws
end

