-- ==== Sys2Proof/Tests/Slice0.lean ====
section
/-! SUPPORT. Tests: an ill-formed term for each check of WellFormed, and for every statement a state and operands that
meet its hypotheses, clause by clause. -/

namespace Sys2Proof.Tests

open Sys2Proof.Machine

/-! ### Small states -/

/-- A plate with two layers and three memory slots, the last one for the Seal layer of port B. -/
def plate : Plate :=
  { (default : Plate) with
    pop := 1, nlayers := 2, ops := [0, 0], sealOwner := .B, sealPal := 7, fbBank := 3, fmt := [0, 0, 0, 0, 0, 0, 0]
    pal := [0, 0], szr := [7, 7], palettes := [[], [], [], [], [], [], [], []]
    slots := [(0, 1, false), (1, 1, false), (2, 1, true)], modes := 7, pattern := [(0, 1)], budReg := [] }

/-- A closed dual-contact input. -/
def contacts : Pair := { state := .closed, c1 := true, c2 := true }

/-- STANDBY after a complete start, with a plate and all domains but the arrays on. -/
def ready : State :=
  { State.reset with
    boot := { plate := some plate, plSlot := 2 }
    power := { stage := .complete, doms := 0x3F, rising := 0, cpuRun := true }
    guard := { sia := contacts, sib := contacts } }

/-- RUN: the arrays are lit and the scan runs. -/
def running : State :=
  { ready with
    power := { state := .run, stage := .complete, doms := 0xFF, rising := 0, cpuRun := true }
    guard := { sia := contacts, sib := contacts, po1 := { cmd := true, rb := true } }
    scan := { on := true } }

/-- Semaphore `k` belongs to port `p`. -/
def owned (k : Nat) (p : Port) (s : State) : State := { s with sems := modifyAt (fun _ => some p) k s.sems }

/-- Memory slot `k` is in mode `m`. -/
def inMode (k : Nat) (m : SlotMode) (s : State) : State := s.onSlot k fun _ => { mode := m }

/-- A commit that waits: of port A, for memory slot 1 in layer 0, palette 2 and scaler 0 with bank 1. -/
def waits : Commit :=
  { seq := 1, port := .A, state := .pending, layers := [(0, { slot := 1, ctrl := 1 })], scalers := [(0, { ctrl := 1 })]
    rects := [], pals := [(2, [])], hasSeal := false, sealCrc := 0, group := 0, close := false, fence := some (0, 5)
    timer := some (0, 10), sealApplied := false }

/-- One commit waits. -/
def waiting : State := running.onComp fun c => { c with commits := [waits] }

/-! ### Signatures

Hash, key and signature were computed outside Lean: the key is the point that makes both factors of the verification 1. -/

/-- SHA-256 of the image below, by Python's hashlib; also `r` and `s` of its signature. -/
def imageHash : Nat := 65441835437196579342364032536392480715329729054810462673570815769121255210766

/-- The key under which the image is signed. -/
def imageKey : Nat × Nat :=
  (96109599183676399722162974386855266933873280768262274698092249297555658197658,
   15848989537666957567300825308260901130275798696860215783848917232954570458751)

/-- A firmware image of 256 bytes with a body of 0xFF, in slot 0. -/
def image : List Host.Cell :=
  ([1, 0, 0, 0, 0, 1, 0, 0, 0, 0, 0, 0, 1, 0, 0, 0, 72, 16, 88, 70, 0, 0, 0, 0].zipIdx.map fun e => (e.2, e.1)) ++
  (List.range 64).filterMap fun i =>
    let b := BitVec.ofNat 8 (imageHash / 256 ^ (31 - i % 32))
    if b = 0xFF then none else some (0x40 + i, b)

/-- SHA-256 of the token message for target 3, device number 0 and nonce 0, by Python's hashlib. -/
def tokenHash : Nat := 44821645470788171250644171409394643425016223091871216981722865175370678206059

/-- The key under which the token is signed. -/
def tokenKey : Nat × Nat :=
  (54483710642478211629222833955183468755176273663638708580833244930591684672453,
   84929393162735066737043883784978750351221065214038472444602434277467436523977)

/-- Flash slot 0 holds the image and slot 1 nothing. -/
def signedImage (s : State) : State :=
  s.onBoot fun b => { b with flash := image, otp := { b.otp with keys := [some imageKey, some tokenKey, none, none] } }

def cmd (n : Nat) : CmdHead := { port := .A, tag := 5, quiet := false, len := n }

/-- A streamed LAYER_WRITE of port A into memory slot 0. -/
def streaming (s : State) : State :=
  s.onPort .A fun x => { x with
    stream := some { opcode := 0x10, tag := 0, quiet := false, len := 1026, kind := .layer 0 0, remain := 1024, served := 0
                     refused := none, qpos := 0, arrived := 0 } }

/-- A flip, a commit result, a sampled command and a log record are there to be captured. -/
def flipped : State :=
  { running with
    scan := { running.scan with flips := [{ seq := 1, time := 0, frame := {} }], flipSeq := 1 }
    comp := { running.comp with resultsA := [{ seq := 1, state := .applied, status := .ok }] }
    sampler := { running.sampler with held := [{ seq := 1, words := [1, 2, 3, 4] }] }
    faults := { running.faults with buffer := [[1, 0, 0, 0, 0, 0, 0, 0]] } }

/-- The record of `flipped` stands in flash and cannot be read. -/
def spoilt : State := flipped.onFaults fun f => { f with buffer := [], ring := f.buffer, logBad := [1] }

def follower (s : State) : State := s.onScan fun c => { c with role := 2 }

/-- The plate locks every RWL register. -/
def lockedPlate (s : State) : State := s.onBoot fun b => { b with plate := some { plate with lock := 0x3FF } }

/-- The taps of port A add up to 512. -/
def tapped (s : State) : State := s.wrp .A .szrCtap 0x1FF 0 |>.wrp .A .szrCtap 1 1

def failedSinks (s : State) : State := s.onDiag fun d => { d with failed := [(1, true)], failedAttic := [(7, true)] }
def readmitting (s : State) : State :=
  s.onDiag fun d => { d with readmit := modifyAt (fun _ => some { tile := 0, unit := 1, attic := false }) 0 d.readmit }
def retired (n : Nat) (s : State) : State := s.onConv n fun c => { c with retired := true }
def grouped (s : State) : State := s.wr .adcGrpCfg 0x190000
def held (s : State) : State := s.onPower fun w => { w with state := .hold }
def moving (s : State) : State := s.setTrans (some { target := .run, source := .standby, port := .A, step := 1 })
def bare (s : State) : State := s.onBoot fun b => { b with plate := none }
def testing (s : State) : State := s.onGuard fun g => { g with sia := { g.sia with timer := some (0, 1) } }
/-- Source 0x10 has latched FALLBACK and DARK, and the reference clock is still lost. -/
def latched (s : State) : State :=
  (s.onFaults fun f => { f with fallback := true, fbBy := [0x10], darkBy := [0x10] }).onPower fun w =>
    { w with refClock := false }
def halted (s : State) : State := s.onFaults fun f => { f with halt := true }
def factory (s : State) : State := s.onBoot fun b => { b with otp := { b.otp with lc := 1 } }
/-- The token registers hold the signed token for the last life-cycle state. -/
def withToken (s : State) : State :=
  (List.range 16).foldl (fun t i =>
      t.wr .botLcToken (word ((List.range 4).foldl (fun a j =>
        a + 256 ^ j * (tokenHash / 256 ^ (31 - (4 * i + j) % 32) % 256)) 0)) i) (signedImage s)
/-- The second slot of each target holds a VALID image. -/
def images (s : State) : State :=
  s.onBoot fun b => { b with slots := [{ role := .active }, { state := .valid }, { role := .active }, { state := .valid }] }
def onTrial (k : Nat) (s : State) : State := s.onImage k fun x => { x with role := .trial }
/-- CHK3 scans four bytes of the cellar. -/
def scanning (s : State) : State :=
  s.setScan 3 (some { addr := cellarBase, left := 4, saved := 1, savedCount := 2 })
def ruined (s : State) : State := { s with ecc := [cellarBase] }
/-- Link A is in state `x`, enabled, with three active lanes and a parked one. -/
def linked (x : LinkState) (s : State) : State :=
  ((s.onLink .A fun l => { l with
      state := x, rate := 1, lanes := [{ role := .active, logical := some 0 }, { role := .active, logical := some 1 },
                                       { role := .active, logical := some 2 }, { logical := some 3 }] }).onPort .A fun y =>
    { y with linkUp := decide (x = .up) }).wr .lnkCtrl (setField (s.rd .lnkCtrl 0) 0 1 1) 0
def linkOffState (s : State) : State := s.wr .lnkCtrl (setField (s.rd .lnkCtrl 0) 0 1 0) 0
/-- The last block of a streamed LAYER_WRITE is awaited. -/
def lastBlock (s : State) : State :=
  (streaming s).onPort .A fun x => { x with stream := x.stream.map fun y => { y with remain := 16, served := 1008, kind := .layer 0 4032 } }
/-- An update session of the firmware with `n` words written and `buffer` not yet programmed. -/
def session (n : Nat) (buffer : List (Nat × Word)) (erasing : Bool) (s : State) : State :=
  (owned 2 .A s).onBoot fun b =>
    { b with sessionFw := some { size := 0x100, words := List.replicate n (0, 0), buffer := buffer, erasing := erasing } }
def acking (n : Nat) (s : State) : State := s.onPort .A fun x => { x with sinceAck := n, oldest := some 0 }
def nakking (s : State) : State := s.onPort .A fun x => { x with nakOut := some 1, nakTimer := some (0, 10) }
def full (s : State) : State := s.onPort .A fun x => { x with queue := List.replicate 16384 0 }
def sent (retries : Nat) (s : State) : State :=
  s.onPort .A fun x =>
    { x with unacked := [{ type := 3, seq := 0, payload := [] }], retries := retries, ackTimer := some (0, 10) }
/-- Every lane of link A has symbol lock, at negative running disparity. -/
def hearing (s : State) : State :=
  s.onLink .A fun l => { l with lanes := l.lanes.map fun x => { x with lock := true, disp := some false } }
/-- Lanes 0 and 1 get a marker, lane 1 a column later. -/
def twoLanes : List LaneMark :=
  [{ items := [.group (encodeSym false .marker)], skew := 0 }, { items := [.group (encodeSym false .marker)], skew := 1 },
   default, default]
/-- Lanes 0 and 1 have lock and showed the marker in the last column. -/
def marked (l : List Nat) (s : State) : State :=
  (linked .train s).onLink .A fun x => { x with
    prevSet := some l
    lanes := x.lanes.mapIdx fun i y => 
      { y with lock := l.contains i, aligned := l.contains i, role := .parked, disp := some false, since := some 16383 } }
def rated (s : State) : State := (marked [0, 1] s).onLink .A fun x => { x with state := .rate, restarted := true }
def stopped (s : State) : State := (linked .rate s).onLink .A fun x => { x with stopped := some 0 }
def timed (x : LinkState) (s : State) : State := (linked x s).onLink .A fun y => { y with timer := some (0, 10) }
def idling (s : State) : State := (linked .up s).onLink .A fun y => { y with idle := some 0 }
/-- A parking decision is due; the first active lanes have these faults. -/
def deciding (l : List LaneCause) (s : State) : State :=
  (linked .up s).onLink .A fun y => { y with
    deciding := some 0, lanes := y.lanes.mapIdx fun i z => { z with faults := l[i]?.toList } }
def awaiting (y : TsFor) (s : State) : State :=
  (linked .up s).onLink .A fun z => { z with
    wait := some { why := y, b4 := 3, b5 := 0, start := 0, length := 10 }
    prbs := some { why := y, b4 := 3, b5 := 0, start := 0, length := 10 }
    lanes := z.lanes.map fun x => { x with aligned := true } }
/-- Lane 1 counts errors, lane 2 awaits its checker and lane 3 its rejoin. -/
def checked (s : State) : State :=
  (linked .up s).onLink .A fun y => { y with
    lanes := [{ role := .active, logical := some 0 },
              { role := .check, logical := some 1, acked := true, checking := true, timer := some (0, 10) },
              { role := .check, logical := some 2, acked := true, timer := some (0, 10) },
              { logical := some 3, rejoin := some (0, 10) }] }
def atLine7 (s : State) : State := s.onScan fun c => { c with slot := 7 }
/-- A complete candidate waits. -/
def complete (s : State) : State := s.onComp fun c => { c with cand := some { frame := {}, ipkL := 0, ipkR := 0, vreqL := 0, vreqR := 0 } }
/-- The stored word of pixel (0, 0) gives a long pulse. -/
def lit (s : State) : State :=
  s.onScan fun c => { c with buf0 := { c.buf0 with words := [(0, 0x3FFFFFF)] }, buf1 := { c.buf1 with words := [(0, 0x3FFFFFF)] } }
/-- `n` failing results of pixel 0 and of sink 0 in a row. -/
def failing (n : Nat) (s : State) : State :=
  s.onDiag fun d => { d with pix := [(0, { last := .opened, count := n, latest := .opened })]
                             sinks := [(0, { last := .sink, count := n, latest := .sink })] }
/-- A follower whose last edge came one cycle before this one. -/
def edged (x : SyncState) (s : State) : State :=
  let t := s.scan.cur.cycleTicks * tickLen
  { (follower s).onScan (fun c => { c with sync := x, lastEdge := some 0, cycleStart := t }) with now := t }
/-- CAMSYNC is enabled, and this cycle's pulse comes after `o.1` ticks. -/
def camera (o : Nat × Bool) (s : State) : State := (s.wr .scnCamsyncCtrl 1).onScan fun c => { c with cam := some o }
def shifted (s : State) : State := s.onScan fun c => { c with cycleStart := c.cycleStart + 300 * tickLen }
/-- A pass is asked for. -/
def asked (s : State) : State := s.onComp fun c => { c with noWait := true }
/-- A commit with no fence is READY. -/
def met (s : State) : State := s.onComp fun c => { c with commits := [{ waits with state := .ready, fence := none }] }
def passing (s : State) : State := s.onComp fun c => { c with run := some { frame := {}, start := 0 } }
/-- A frame with a proof rectangle of 8 by 8 pixels and the plate's Seal palette. -/
def checkedFrame : Frame := { rects := [{ size := 0x80008 }], plate := some plate }
def checking (s : State) : State := s.onComp fun c => { c with run := some { frame := checkedFrame, start := 0 } }
/-- The running pass reads 8 by 8 pixels of memory slot 0, and another the fallback pattern. -/
def reading (s : State) : State :=
  s.onComp fun c => { c with run := some { frame := { plate := some plate, layers := [{ ctrl := 1, src := 0x80008 }] }, start := 0 } }
def patterned (s : State) : State :=
  s.onComp fun c => { c with run := some { frame := { plate := some plate, pattern := true }, start := 0 } }
/-- A request of rail `k` is outstanding. -/
def asking (k : Nat) (why : RailWhy) (fails : Nat) (s : State) : State :=
  s.onRail k fun r => { r with req := some { power := none, mv := 3000, why := why, fails := fails, sent := 0 } }
/-- A complete candidate waits for VLED. -/
def awaited (s : State) : State := s.onComp fun c => { c with cand := some { frame := {}, ipkL := 0, ipkR := 0, vreqL := 3000, vreqR := 3000 } }
def entering (x : PowerState) (step : Nat) (s : State) : State :=
  s.setTrans (some { target := x, source := .standby, port := .A, step := step })
/-- Regions 0 and 1 have HMIN results of slots with a conducting sink. -/
def conducting (s : State) : State :=
  (s.onConv 0 fun c => { c with conducted := true, latest := [(2, 1000)] }).onConv 1 fun c =>
    { c with conducted := true, latest := [(2, 4000)] }
def goodSums : StepSums := { r0 := 1000, r1 := 2000, r2 := 3000, r3 := 4000, rref := 4000, regOk := true }
/-- Region 0 ends a step of its round. -/
def calibrating (s : State) : State :=
  (s.onScan fun c => { c with cycle := c.cycle + 7 }).onRegion 0 fun r =>
    { r with mode := .round, stepOn := true, stepAt := s.scan.cycle }
def busy (n : Nat) (who : Asker) (s : State) : State := s.onConv n fun c => { c with busy := some (1, who, 10) }
def requested (n left : Nat) (s : State) : State :=
  s.onConv n fun c => { c with req := some { input := 1, avg := 2, left := left, sum := 0 } }
/-- A group of converter 16 runs since CK_ADC cycle `c`. -/
def groupRunning (c : Nat) (s : State) : State :=
  s.onAdc fun a => { a with groupAt := some (c, true), group := some { sel := [16], fin := 20000 } }
def calibratingUser (chan : Nat) (op : UcalOp) (s : State) : State :=
  s.onAdc fun a => { a with ucal := some { chan := chan, op := op } }
def busyUntil (n : Nat) (who : Asker) (t : Nat) (s : State) : State := s.onConv n fun c => { c with busy := some (1, who, t) }
/-- `n` drops in a row of requester 0. -/
def dropped (n : Nat) (s : State) : State := s.setDrops 0 (n, n)
/-- A group of converters 0 and 19, the end of whose conversions has come. -/
def groupEnding (s : State) : State :=
  busy 0 .group (busy 19 .group (s.onAdc fun a => { a with group := some { sel := [0, 19], fin := 20000 } }))
/-- The 256 conversions of a user calibration have been made. -/
def calibrated (chan : Nat) (op : UcalOp) (sum : Nat) (sat : Bool) (s : State) : State :=
  s.onAdc fun a => { a with ucal := some { chan := chan, op := op, left := 0, sum := sum, sat := sat } }
/-- A SYNCIN edge has asked for a group of converter 16 at instant `t`. -/
def synced (t : Nat) (s : State) : State :=
  (s.wr .adcGrpCfg 0x210000).onAdc fun a => { a with syncAt := some (t, [(16, 0)]) }
/-- Attic sinks 0 and 1, those of row group 0, have these connections. -/
def attics (a b : Attic) (s : State) : State := s.onDiag fun d => { d with attic := [(0, a), (1, b)] }
/-- Working sink `n` has failed and waits for its replacement. -/
def replacing (n : Nat) (s : State) : State :=
  s.onDiag fun d => { d with failed := [(n, true)], toReplace := [(n, false)] }
/-- Attic sink `k` has failed. -/
def dropping (k : Nat) (s : State) : State :=
  s.onDiag fun d => { d with failedAttic := [(k, true)], toDrop := [k] }
/-- Region 0 runs a round from step `i` on. -/
def round (i : Nat) (s : State) : State := s.onRegion 0 fun r => { r with mode := .round, pos := i }
/-- A READY commit of port B with the Seal layer and layer 0. -/
def sealCommit (rest : Bool) : Commit :=
  { waits with
    port := .B, state := .ready, fence := none, timer := none, scalers := [], pals := [], hasSeal := true
    layers := (6, { slot := 2 }) :: if rest then [(0, { slot := 1 })] else [] }
def sealWaits (rest : Bool) (s : State) : State := s.onComp fun c => { c with commits := [sealCommit rest] }
/-- A FALLBACK reaction is latched. -/
def fallen (s : State) : State := s.onFaults fun f => { f with fallback := true }
/-- A streamed write of port A has stored the first half of a word with an uncorrectable error. -/
def halved (s : State) : State :=
  { (streaming s).onPort .A (fun x => { x with
      stream := x.stream.map fun y => { y with served := 1, kind := .layer 0 4 } }) with ecc := [s.slotBase 0] }
/-- Port B stages a Seal layer of 8 by 8 pixels in memory slot 2, with its content check value. -/
def sealStaged (s : State) : State :=
  let t := (inMode 2 .ready s).wrp .B .cmpStgSlot 2 6 |>.wrp .B .cmpStgSrc 0x80008 6 |>.wrp .B .cmpStgCtrl 1 6
  t.wrp .B .cmpStgSealCrc (sealCrc plate t.mem (t.stagedLayer .B 6))
/-- A streamed command of port A of another kind. -/
def streamed (k : StreamKind) (remain : Nat) (s : State) : State :=
  (streaming s).onPort .A fun x => { x with stream := x.stream.map fun y => { y with kind := k, remain := remain } }
/-- The group is triggered in slot 0 at tick `t`. -/
def triggered (t : Nat) (s : State) : State := (s.wr .adcGrpCfg 0x110000).wr .adcGrpPhase (word (65536 * t))
def unpowered (s : State) : State := s.onPower fun w => { w with vin := false, state := .off, stage := .idle }
def asleep (s : State) : State := s.onPower fun w => { w with state := .sleep, stage := .idle, wakeCfg := 3 }
def atStage (x : Stage) (s : State) : State := s.onPower fun w => { w with stage := x }
/-- Both copies of the boot record are valid, the second one newer; none is. -/
def recorded (s : State) : State :=
  s.onBoot fun b => { b with recA := some { seq := 1 }, recB := some { seq := 2, starts := 7 } }
def unrecorded (s : State) : State := s.onBoot fun b => { b with recA := some { intact := false }, recB := none }
def pendingImage (k : Nat) (s : State) : State := s.onImage k fun x => { x with role := .pending }
/-- Array L and PHY A are in their switch-on sequences, array R is on. -/
def rising (s : State) : State := s.onPower fun w => { w with doms := 0xAF, rising := 0x50 }
def customer (op : CustOp) (s : State) : State := s.onBoot fun b => { b with cust := some op }
def paired (x : Pair) (s : State) : State := (s.setPair false x).onGuard fun g => { g with darkWait := true }
def output (x : Output) (s : State) : State := s.onGuard fun g => { g with po1 := x }
/-- The inputs are closed and the rest of the guardian is as given. -/
def watched (g : Guard) (s : State) : State := s.onGuard fun h => { g with sia := h.sia, sib := h.sib, darkWait := true, po1 := h.po1 }
/-- The array has been dark and may light again. -/
def dark (s : State) : State := s.onGuard fun g => { g with darkWait := true, po1 := {} }
def windowed (s : State) : State := s.onFaults fun f => { f with windows := [(0x10, 0, 1)] }
/-- Sources 0x10 to 0x14 have classes 0 to 4. -/
def matrix (s : State) : State :=
  (List.range 5).foldl (fun t c => t.wr .fltMap (word (0x10000 + c)) (0x10 + c)) s
/-- A NOP waits in the queue of a port. -/
def chosen (p : Port) (s : State) : State := { s with cyc := { s.thisCycle with chosen := some p } }
def queued (p : Port) (s : State) : State :=
  s.onPort p fun x => { x with queue := [headWord 0 (cmd 0)], arrivals := [{ left := 1, time := 0, ahead := 0 }] }

/-! ### Register requests -/

theorem witness_semaphores :
    running.Inv ∧ running.answers .hptSemAcq 0 ∧ running.answers .hptSemRel 0 ∧ running.owner 0 = none ∧
    (owned 15 .A running).Inv ∧ (owned 15 .A running).owner 15 = some .A ∧
    (owned 15 .B running).owner 15 = some (otherPort .A) := by and_intros <;> first | rfl | decide

theorem witness_fences :
    running.answers .cmpFence 0 ∧ running.answers .cmpFence 15 ∧ running.answers .cmpFenceSig 0 ∧
    running.boot.plate.isSome ∧ State.reset.Inv ∧ State.reset.controlOn = true ∧ State.reset.boot.plate = none ∧
    waiting.Inv ∧ waiting.timerOf (.commit 1) = some (0, 10) ∧ waiting.timedOut (.commit 1) ≠ [] := by and_intros <;> first | rfl | decide

theorem witness_slotActions :
    plate.slots.length = 3 ∧ running.answers .lyrSlotCmd 0 ∧ running.boot.plate = some plate ∧
    (plateSlot plate 0).2.2 = false ∧ (plateSlot plate 2).2.2 = true ∧ plate.sealOwner = .B ∧
    (inMode 0 .free running).Inv ∧ ((inMode 0 .free running).slot 0).mode = .free ∧
    ((inMode 0 .free running).begun .A .bus).slotWriting 0 = false ∧
    ((inMode 2 .ready running).slot 2).mode = .ready ∧ (inMode 2 .ready running).claimed 2 = false ∧
    ((inMode 1 .ready waiting).slot 1).mode = .ready ∧ (inMode 1 .ready waiting).claimed 1 = true ∧
    ((streaming (inMode 0 .filling running)).begun .A .bus).slotWriting 0 = true ∧
    ((inMode 0 .scanning running).slot 0).mode = .scanning ∧ ((inMode 0 .retiring running).slot 0).mode = .retiring := by
  and_intros <;> first | rfl | decide

theorem witness_captures :
    flipped.Inv ∧ flipped.answers .scnFrecSel 0 ∧ flipped.answers .cmpCresSel 0 ∧ flipped.answers .szrCsel 0 ∧
    flipped.answers .pmcSmpSel 0 ∧ flipped.answers .fltLogSel 0 ∧ flipped.answers .tilPixsel 0 ∧
    flipped.answers .tilPixsel 15 ∧
    (flipped.results .A)[0]? = some { seq := 1, state := .applied, status := .ok } ∧ (flipped.results .A)[1]? = none ∧
    (flipped.sampler.held.find? fun r => r.seq == 1) = some { seq := 1, words := [1, 2, 3, 4] } ∧
    (flipped.sampler.held.find? fun r => r.seq == 0) = none ∧ flipped.logFind 1 = some [1, 0, 0, 0, 0, 0, 0, 0] ∧
    flipped.logFind 2 = none ∧ flipped.logSpoilt 1 = false ∧
    spoilt.Inv ∧ spoilt.logFind 1 = some [1, 0, 0, 0, 0, 0, 0, 0] ∧ spoilt.logSpoilt 1 = true := by
  and_intros <;> first | rfl | decide

theorem witness_timing :
    (owned 1 .A running).Inv ∧ (owned 1 .A running).answers .scnTmode 0 ∧ (owned 1 .A running).owner 1 = some .A ∧
    running.modeAllowed 2 = true ∧ running.modeAllowed 3 = false ∧ (owned 1 .B running).owner 1 = some (otherPort .A) ∧
    running.owner 1 = none ∧ running.answers .scnBlank 0 ∧ field 64 0 11 = 64 ∧ field 1024 0 11 = 1024 ∧
    field 63 0 11 = 63 ∧ field 1040 0 11 = 1040 ∧ running.scan.role = 0 ∧ (follower running).scan.role = 2 ∧
    (follower running).Inv ∧ field 112 0 11 = 112 ∧ field 128 0 11 = 128 ∧ running.answers .scnIfs 0 ∧
    running.locked .scnIfs = false ∧ (lockedPlate running).locked .scnIfs = true ∧ (lockedPlate running).Inv := by
  and_intros <;> first | rfl | decide

theorem witness_palettesAndBanks :
    running.Inv ∧ running.answers .drvPal 0 ∧ running.answers .drvPal 7 ∧ running.isSealPal 0 = false ∧
    running.isSealPal 7 = true ∧ running.palLocked .A 0 = false ∧ waiting.Inv ∧ waiting.isSealPal 2 = false ∧
    waiting.palLocked .A 2 = true ∧ running.answers .drvPalDiscard 0 ∧
    (∀ k, k < 8 → bit 0xFF k = true → running.palLocked .A k = false) ∧ bit 4 2 = true ∧ running.answers .szrCload 0 ∧
    (tapped running).Inv ∧ sumTaps ((tapped running).ctaps .A) = 512 ∧ (tapped running).bankInUse 0 1 = false ∧
    sumTaps (running.ctaps .A) ≠ 512 ∧ (tapped waiting).Inv ∧ sumTaps ((tapped waiting).ctaps .A) = 512 ∧
    (tapped waiting).bankInUse 0 1 = true ∧ field 0x200 9 1 = 1 ∧ field 0x200 12 2 = 0 ∧ bit 0x200 8 = false := by
  and_intros <;> first | rfl | decide

theorem witness_maskAndReadmit :
    running.Inv ∧ running.answers .tilMaskCmd 0 ∧ running.answers .tilMaskCmd 15 ∧
    ({ running with diag := { running.diag with mask := tabSet 0 running.diag.mask (pixelNo 1023 63) hostCause } } :
      State).maskedIn 0 ≤ running.maskMax ∧
    (running.begun .A .bus).thisCycle.faults.contains (pixelNo 1023 63) = false ∧
    ({ running with cyc := { running.cyc with faults := [pixelNo 1023 63] } } : State).Inv ∧
    (({ running with cyc := { running.cyc with faults := [pixelNo 1023 63] } } : State).begun .A .bus).thisCycle.faults.contains
      (pixelNo 1023 63) = true ∧
    regionOfPixel (pixelNo 1023 63) = 0 ∧ running.answers .tilReadmit 0 ∧ Reg.legal .tilReadmit 0x100 = true ∧
    (failedSinks running).Inv ∧ (failedSinks running).unitFailed { tile := 0, unit := 1, attic := false } = true ∧
    (failedSinks running).unitFailed { tile := 0, unit := 7, attic := true } = true ∧
    running.unitFailed { tile := 0, unit := 1, attic := false } = false ∧
    running.diag.readmit.getD 0 none = none ∧ ((readmitting running).diag.readmit.getD 0 none).isSome ∧
    (failedSinks (readmitting running)).unitFailed { tile := 0, unit := 1, attic := false } = true ∧
    (failedSinks (readmitting running)).Inv ∧ tileOfLocal 0 0 = 0 := by
  and_intros <;> first | rfl | decide

theorem witness_conversionRequests :
    running.Inv ∧ running.answers .tilAdcCtl 0 ∧ running.answers .tilAdcCtl 15 ∧ Reg.legal .tilAdcCtl 0x811 = true ∧
    bit 0x811 0 = true ∧ bit (running.rd .tilAdcCtl 0) 0 = false ∧ (running.conv 0).retired = false ∧
    (retired 0 running).Inv ∧ ((retired 0 running).conv 0).retired = true ∧
    (running.wr .tilAdcCtl 1 15).Inv ∧ bit (((running.wr .tilAdcCtl 1 15).begun .A .link).rd .tilAdcCtl 15) 0 = true ∧
    (0x811 : Word) &&& 0xFF1 ≠ ((running.wr .tilAdcCtl 1 15).begun .A .link).rd .tilAdcCtl 15 ∧
    running.answers .adcSctl 0 ∧ running.answers .adcSctl 3 ∧ Reg.legal .adcSctl 0x851 = true ∧
    ((retired 19 running).conv (16 + 3)).retired = true ∧ (retired 19 running).Inv ∧
    bit (((running.wr .adcSctl 1 3).begun .A .link).rd .adcSctl 3) 0 = true ∧
    (0x851 : Word) &&& 0xF71 ≠ ((running.wr .adcSctl 1 3).begun .A .link).rd .adcSctl 3 ∧
    (synced 5 running).Inv := by
  and_intros <;> first | rfl | decide

theorem witness_groupAndUserCalibration :
    running.answers .adcGrpCtl 0 ∧ (grouped running).Inv ∧ ((grouped running).begun .A .link).groupSel = [16, 19] ∧
    (∀ k ∈ ((grouped running).begun .A .link).groupSel, ((grouped running).conv k).retired = false) ∧
    bit (((grouped running).begun .A .link).rd .adcGrpCtl) 0 = false ∧ (grouped running).adc.group = none ∧
    (∀ k ∈ ((grouped running).begun .A .link).groupSel,
      ((grouped running).begun .A .link).convFree k (((grouped running).begun .A .link).sampleAt k 0) = true ∧
      (grouped running).hostIdle k = true) ∧
    (groupRunning 7 (grouped running)).adc.group.isSome ∧ (groupRunning 7 (grouped running)).Inv ∧
    ((groupRunning 7 (grouped running)).begun .A .link).groupFresh 0 = false ∧
    ((groupRunning 0 (grouped running)).begun .A .link).groupFresh 0 = true ∧ (groupRunning 0 (grouped running)).Inv ∧
    (groupRunning 0 (grouped running)).adc.groupAt = some (0, true) ∧ (grouped running).adc.groupAt = none ∧
    ((grouped running).onAdc fun a => { a with groupAt := some (0, false) }).Inv ∧
    bit (((grouped running).wr .adcGrpCtl 1).begun .A .link |>.rd .adcGrpCtl) 0 = true ∧
    ((grouped running).wr .adcGrpCtl 1).Inv ∧
    running.answers .adcUcal 0 ∧ (running.conv (16 + 3)).retired = false ∧ running.adc.ucal = none ∧
    running.adc.zero = none ∧ (running.onAdc fun a => { a with zero := some (29, 0) }).Inv ∧
    (calibratingUser 0 .zero running).adc.ucal.isSome ∧ (calibratingUser 0 .zero running).Inv := by
  and_intros <;> first | rfl | decide

/-- A frame in a timing that only HOLD has. -/
def holdFrame : Frame := { hold := true, timing := { mode := 2, blank := 256 } }
/-- Lane 1 of port A, parked for HOLD. -/
def parkedLane (s : State) : Lane := ((linked .up s).onLane .A 1 fun x => { x with role := .lpPark }).lane .A 1

theorem witness_powerRequests :
    (owned 0 .A ready).Inv ∧ (owned 0 .A ready).answers .pwrReq 0 ∧ (owned 0 .A ready).owner 0 = some .A ∧
    ready.power.trans = none ∧ ready.power.state = .standby ∧ ((owned 0 .A ready).begun .A .bus).wakeEnabled = true ∧
    ((owned 0 .A ready).begun .A .bus).refuser .sleep = none ∧ ready.boot.plate.isSome ∧
    (owned 0 .A running).Inv ∧ (owned 0 .A running).power.state = .run ∧ running.power.trans = none ∧
    ((owned 0 .A running).begun .A .bus).refuser .standby = none ∧ (held (owned 0 .A running)).Inv ∧
    (held (owned 0 .A running)).power.state = .hold ∧ (held (owned 0 .A running)).owner 0 = some .A ∧
    ((held (owned 0 .A running)).begun .A .bus).refuser .standby = none ∧
    (∀ r ∈ running.scan.flips.head?, r.frame.timing ≠ (running.begun .A .bus).holdTiming) ∧
    (owned 0 .A flipped).Inv ∧ (owned 0 .A flipped).owner 0 = some .A ∧
    flipped.scan.flips.head? = some { seq := 1, time := 0, frame := {} } ∧
    ({} : Frame).timing = ((owned 0 .A flipped).begun .A .bus).holdTiming ∧
    ((owned 0 .A flipped).begun .A .bus).fld .scnTmode 0 2 = ((owned 0 .A flipped).begun .A .bus).fld .scnTmode 2 2 ∧
    (ready.rail 1).req = none ∧ (ready.rail 1).next = none ∧ (asking 1 .other 0 (owned 0 .A ready)).Inv ∧
    ((asking 1 .other 0 ready).rail 1).req.isSome ∧ (asking 1 .other 0 (owned 0 .A ready)).answers .pwrReq 0 ∧
    ((linked .up running).link .A).state = .up ∧ bit (((linked .up running).wr .lnkCtrl 0x1001).rd .lnkCtrl) 12 = true ∧
    1 < ((linked .up running).link .A).healthy.length ∧ (running.link .A).state ≠ .up ∧
    (holdFrame.hold = true ∧ holdFrame.timing ≠ running.runTiming) ∧ ¬ (({} : Frame).hold = true) ∧
    (parkedLane (held running)).role = .lpPark ∧ (parkedLane (held running)).logical.isSome := by
  and_intros <;> first | rfl | decide

theorem witness_powerRefusals :
    (moving (owned 0 .A ready)).Inv ∧ (moving (owned 0 .A ready)).owner 0 = some .A ∧
    (moving (owned 0 .A ready)).power.trans.isSome ∧ (moving (owned 0 .A ready)).answers .pwrReq 0 ∧
    ready.Inv ∧ ready.owner 0 = none ∧ (bare ready).Inv ∧ (bare ready).boot.plate = none ∧
    (bare ready).power.trans = none ∧ (bare ready).answers .pwrReq 0 ∧
    (owned 2 .B (owned 0 .A ready)).Inv ∧ (owned 2 .B (owned 0 .A ready)).owner 0 = some .A ∧
    ((owned 2 .B (owned 0 .A ready)).begun .A .link).wakeEnabled = true ∧
    ((owned 2 .B (owned 0 .A ready)).begun .A .link).refuser .sleep = some 2 ∧
    (testing (owned 0 .A running)).Inv ∧ (testing (owned 0 .A running)).owner 0 = some .A ∧
    ((testing (owned 0 .A running)).begun .A .link).refuser .standby = some 5 ∧
    ((owned 0 .A (ready.wr .pwrWakeCfg 0)).begun .A .bus).wakeEnabled = false ∧ (owned 0 .A (ready.wr .pwrWakeCfg 0)).Inv ∧
    (owned 0 .B ready).Inv ∧ (owned 0 .B ready).answers .pwrReq 0 ∧
    ready.answers .pwrVcoreOfs 0 ∧ Reg.legal .pwrVcoreOfs 50 = true ∧ Reg.legal .pwrVcoreOfs 51 = false ∧
    (owned 0 .B ready).owner 0 = some (otherPort .A) ∧ ready.answers .pwrPhyCtrl 0 := by
  and_intros <;> first | rfl | decide

theorem witness_faultRegisters :
    running.Inv ∧ running.answers .fltClear 0 ∧ running.faults.halt = false ∧ running.faults.fbBy = [] ∧
    running.faults.darkBy = [] ∧ (latched running).Inv ∧ (latched running).faults.fbBy = [0x10] ∧
    ((latched running).begun .A .link).cond 0x10 = true ∧ (latched running).faults.darkBy = [0x10] ∧
    (halted ready).Inv ∧ (halted ready).faults.halt = true ∧ (halted ready).answers .fltClear 0 ∧
    (factory running).Inv ∧ (factory running).answers .fltInj 0 ∧ (factory running).boot.otp.lc = 1 ∧
    (factory running).answers .safInj 0 ∧ unusedSource (field 0x10 0 7) = false ∧ unusedSource (field 0x0B 0 7) = true ∧
    running.controlOn = true ∧ running.boot.otp.lc ≠ 1 ∧
    (running.onFaults fun f => { f with injected := some ⟨0x10, 0⟩ }).faults.reports = [] ∧ [(⟨0x10, 0⟩ : FaultReport)] ≠ [] := by
  and_intros <;> first | rfl | decide

theorem witness_resetAndLifeCycle :
    running.answers .botReset 0 ∧ field 0x5A00 8 8 = 0x5A ∧ field 0x5B00 8 8 ≠ 0x5A ∧ running.answers .botLcReq 0 ∧
    (factory ready).Inv ∧ (factory ready).answers .botLcReq 0 ∧ (factory ready).boot.otp.lc = 1 ∧
    (factory ready).power.cpuHalt = false ∧ (factory ready).power.state = .standby ∧
    (factory ready).boot.sessionFw = none ∧ (factory ready).boot.sessionPl = none ∧ ready.boot.otp.lc = 2 ∧
    running.power.state ≠ .standby ∧ ready.boot.slots.length = 4 ∧ (session 0 [] false (factory ready)).Inv ∧
    (session 0 [] false (factory ready)).boot.sessionFw.isSome ∧ (session 0 [] false (factory ready)).answers .botLcReq 0 := by
  and_intros <;> first | rfl | decide

/-- The token of life-cycle state 3 verifies with key 1, and one of zeros does not. -/
theorem witness_token :
    ((withToken ready).begun .A .bus).tokenOk 3 = true ∧ (ready.begun .A .bus).tokenOk 3 = false := by decide +kernel

theorem witness_activateAndConfirm :
    (images (owned 2 .A ready)).Inv ∧ (images (owned 2 .A ready)).answers .botActivate 0 ∧
    (images (owned 2 .A ready)).answers .botConfirm 0 ∧ (images (owned 2 .A ready)).owner 2 = some .A ∧
    (images ready).power.cpuHalt = false ∧ (1 ≠ (images ready).activeSlot false) ∧ (3 ≠ (images ready).activeSlot true) ∧
    ((images ready).image 1).state = .valid ∧ ((images ready).image 1).role = .none ∧
    ((images ready).image 3).state = .valid ∧ ((images ready).image 3).role = .none ∧
    (images ready).power.state = .standby ∧ (images (owned 2 .A running)).Inv ∧
    (images (owned 2 .A running)).power.state ≠ .standby ∧ (images ready).inRole false .trial = none ∧
    (images ready).inRole true .trial = none ∧ (onTrial 1 (owned 2 .A ready)).Inv ∧
    (onTrial 1 (owned 2 .A ready)).inRole false .trial = some 1 ∧
    (onTrial 3 (owned 2 .A ready)).inRole true .trial = some 3 ∧ (onTrial 3 (owned 2 .A ready)).Inv := by
  and_intros <;> first | rfl | decide

theorem witness_keysTestsCustomerArea :
    (factory ready).answers .botKeyCmd 0 ∧ (factory ready).boot.otp.lc = 1 ∧
    (factory ready).boot.otp.keys.getD 2 none = none ∧ (factory ready).boot.otp.keys.getD 3 none = none ∧
    ready.controlOn = true ∧ ready.boot.otp.lc ≠ 1 ∧ ready.answers .botBistCtl 0 ∧ ready.boot.bist = none ∧
    ready.power.cpuHalt = false ∧ ready.boot.sessionFw = none ∧ ready.boot.sessionPl = none ∧ ready.flashBusy = false ∧
    ready.answers .botCustCmd 0 ∧ ((ready.begun .A .link).rd .botCustAddr).toNat % 4096 = 0 ∧
    ((ready.begun .A .link).rd .botCustAddr).toNat < 0x400000 ∧
    ((ready.wr .botCustAddr 0x3FF000).begun .A .link |>.rd .botCustAddr).toNat % 4096 = 0 ∧ ready.boot.cust = none ∧
    (owned 2 .A ready).owner 2 = some .A ∧ (owned 2 .B ready).owner 2 = some (otherPort .A) ∧ (owned 2 .A ready).Inv ∧
    (ready.onBoot fun b => { b with bist := some 1 }).answers .botBistCtl 0 ∧
    (ready.onBoot fun b => { b with bist := some 1 }).boot.bist.isSome ∧
    (ready.onBoot fun b => { b with bist := some 1 }).Inv := by
  and_intros <;> first | rfl | decide

theorem witness_calibrationRegisters :
    (owned 3 .A ready).Inv ∧ (owned 3 .A ready).answers .calCmd 0 ∧ (owned 3 .A ready).owner 3 = some .A ∧
    ready.power.state = .standby ∧ (owned 3 .A running).Inv ∧ (owned 3 .A running).power.state ≠ .standby ∧
    (owned 3 .A running).answers .calCtrl 0 ∧ (owned 3 .B running).owner 3 = some (otherPort .A) ∧
    (owned 3 .B running).Inv ∧ running.owner 3 = none ∧ running.answers .calCmd 0 := by
  and_intros <;> first | rfl | decide

theorem witness_checksAndCounters :
    ready.Inv ∧ ready.chkBusy 0 = false ∧ ready.chkBusy 3 = false ∧ ready.answers .chkCfg 0 ∧ ready.answers .chkState 3 ∧
    (0xFFFFFFFF : Word).toNat < 2 ^ crcWidth (ready.chkAlg 3) ∧ ready.answers .chkData8 3 ∧ ready.answers .chkData16 3 ∧
    ready.answers .chkData32 3 ∧ (scanning ready).Inv ∧ (scanning ready).chkBusy 3 = true ∧
    (scanning ready).answers .chkCfg 3 ∧ (ready.wr .chkCfg 3 0).Inv ∧
    2 ^ crcWidth (((ready.wr .chkCfg 3 0).begun .A .link).chkAlg 0) ≤ (0x100 : Word).toNat ∧
    ready.answers .chkScanCtl 0 ∧ ready.boot.plate.isSome ∧ (ready.wr .chkScanAddr (word cellarBase)).Inv ∧
    ((ready.wr .chkScanAddr (word cellarBase)).begun .A .link).scanRefusal 0 cellarBase 0 = none ∧
    ((ready.wr .chkScanAddr (word cellarBase)).begun .A .link).scanRefusal 0 cellarBase 8 = none ∧
    ready.chkScan 3 = none ∧ (scanning ready).chkScan 3 = some { addr := cellarBase, left := 4, saved := 1, savedCount := 2 } ∧
    (scanning ready).eccHit cellarBase 4 = false ∧ (scanning ready).cleanBytes cellarBase 4 = 4 ∧
    (ruined (scanning ready)).cleanBytes cellarBase 4 = 0 ∧
    (let b := ((scanning ready).wr .chkScanAddr (word cellarBase) 3).begun .A .link
     b.scanRefusal 3 (b.rd .chkScanAddr 3).toNat (b.fld .chkScanLen 0 24 3) = some .busy) ∧
    ((scanning ready).wr .chkScanAddr (word cellarBase) 3).answers .chkScanCtl 3 ∧
    ((scanning ready).noteOne (Reg.chkScanCtl.key .A 3 0)).wroteOne (Reg.chkScanCtl.key .A 3 0) = true ∧
    (scanning ready).wroteOne (Reg.chkScanCtl.key .A 3 0) = false ∧
    ((scanning ready).noteOne (Reg.chkScanCtl.key .A 3 0)).Inv ∧ (ruined (scanning ready)).eccHit cellarBase 4 = true ∧
    (ruined (scanning ready)).Inv ∧ ready.answers .pmcCnt 0 ∧ ready.answers .pmcCnt 31 ∧
    bit ((ready.begun .A .link).countsNow.rd .pmcSel 31) 9 = false ∧ (ready.wr .pmcSel 0x200 31).Inv ∧
    bit (((ready.wr .pmcSel 0x200 31).begun .A .link).countsNow.rd .pmcSel 31) 9 = true ∧ ready.answers .pmcSel 0 ∧
    Reg.legal .pmcSel 0x301 = true ∧ bit 0x301 8 = true ∧ ready.answers .pmcSmpCfg 0 ∧
    bit ((ready.begun .A .link).rd .pmcSmpCfg) 0 = false := by
  and_intros <;> first | rfl | decide

theorem witness_linkRegisters :
    (linked .up ready).Inv ∧ (linked .up ready).answers .lnkCtrl 0 ∧ (linked .up ready).answers .lnkCtrl 1 ∧
    Reg.legal .lnkCtrl ((linked .up ready).rd .lnkCtrl 0) = true ∧
    (linked .up ready).rd .lnkCtrl 0 &&& 0x1773 = (linked .up ready).rd .lnkCtrl 0 ∧
    bit ((linked .up ready).rd .lnkCtrl 0) 0 = true ∧ ((linked .up ready).link .A).state = .up ∧
    ((linked .caps ready).link .A).state ≠ .up ∧ ((linked .caps ready).link .A).state ≠ .disabled ∧
    bit ((linked .caps ready).rd .lnkCtrl 0) 1 = false ∧ (linked .caps ready).Inv ∧
    (linkOffState ready).Inv ∧ bit ((linkOffState ready).rd .lnkCtrl 0) 0 = false ∧
    field ((linkOffState ready).rd .lnkLoop 0) 0 2 = 0 ∧ (linkOffState (ready.wr .lnkLoop 1 0)).Inv ∧
    field ((linkOffState (ready.wr .lnkLoop 1 0)).rd .lnkLoop 0) 0 2 ≠ 0 ∧
    Reg.legal .lnkCtrl ((linkOffState ready).rd .lnkCtrl 0) = true ∧ ready.answers .lnkRejoin 0 ∧
    ready.answers .lnkLoop 0 ∧ ready.answers .lnkPrbs 1 := by
  and_intros <;> first | rfl | decide

theorem witness_registerWrites :
    running.Inv ∧ running.controlOn = true ∧ running.quiet ∧ running.answers .adcEvent 0 ∧ running.answers .pmcOvf 0 ∧
    Reg.adcEvent.row.acc = .w1c ∧ Reg.pmcOvf.row.acc = .w1c ∧ running.answers .botCustBuf 1023 ∧
    running.answers .safTestCfg 0 ∧ running.locked .safTestCfg = false ∧
    Reg.legal .safTestCfg Reg.safTestCfg.row.reset = true ∧ (lockedPlate running).Inv ∧
    (lockedPlate running).answers .safTestCfg 0 ∧
    (ready.begun .A .bus).blockOn (Reg.row .adcSctl).blk (some .adcSctl) 0 = false ∧ Reg.glbScratch ∈ plainRegs ∧ running.answers .glbScratch 0 ∧
    Reg.legal .glbScratch 0xFFFFFFFF = true ∧ Reg.adcUcalTarget ∈ plainRegs ∧
    Reg.legal .adcUcalTarget 0 = false ∧ running.answers .adcUcalTarget 0 ∧
    Reg.glbPart.row.acc = .ro ∧ running.answers .glbPart 0 ∧ Reg.scnEvent.row.acc = .w1c ∧ running.answers .scnEvent 0 ∧
    running.answers .safHbCfg 0 ∧ running.locked .safHbCfg = false ∧
    Reg.legal .safHbCfg (Reg.safHbCfg.row.reset) = true ∧ (lockedPlate running).locked .safHbCfg = true ∧
    ready.Inv ∧ ready.blockOn (Reg.row .adcSctl).blk (some .adcSctl) 0 = false ∧ ready.earlyRefusal .adcSctl 0 1 = none ∧
    place 0xFFFFFFFC = .nowhere := by
  and_intros <;> first | rfl | decide

theorem witness_capturingReads :
    Reg.highHalf .glbTimeLo = some .glbTimeHi ∧ running.answers .glbTimeLo 0 ∧ running.answers .glbTimeHi 0 ∧
    running.answers .pmcCnt 0 ∧ (running.begun .A .link).countsNow.chained 0 = false ∧ (running.wr .pmcSel 0x100 31).Inv ∧
    running.answers .pmcCnt 31 ∧ ((running.wr .pmcSel 0x100 31).begun .A .link).countsNow.chained 31 = true := by
  and_intros <;> first | rfl | decide

theorem witness_managementBus :
    running.Inv ∧ running.busOn = true ∧ (running.port .A).busNack = false ∧ Reg.glbScratch ∈ plainRegs ∧
    (running.busHead .A { target := running.busAddress, addr := some (Reg.addr .glbScratch 0 0) }).answers .glbScratch 0 ∧
    (running.onPort .A fun x => { x with busPtr := some (Reg.addr .glbScratch 0 0) }).answers .glbScratch 0 ∧
    (running.onPort .A fun x => { x with busPtr := some (Reg.addr .glbScratch 0 0) }).Inv ∧
    (running.port .A).busPtr = none ∧ (0 : Nat) ≠ running.busAddress ∧ (moving ready).busOn = true ∧ (running.onPort .A fun x => { x with busNack := true }).Inv ∧
    ((running.onPort .A fun x => { x with busNack := true }).port .A).busNack = true ∧
    (running.onPower fun w => { w with stage := .waiting }).Inv ∧
    (running.onPower fun w => { w with stage := .waiting }).busOn = false ∧
    ((running.onPort .A fun x => { x with busNack := true }).busHead .A
      { target := running.busAddress, addr := some (Reg.addr .glbScratch 0 0) }).answers .glbScratch 0 ∧
    ((running.onPort .A fun x => { x with busPtr := some (Reg.addr .glbScratch 0 0) }).port .A).busNack = false ∧
    ((running.onPort .A fun x => { x with busPtr := some (Reg.addr .glbScratch 0 0) }).port .A).busPtr.isSome := by
  and_intros <;> first | rfl | decide

/-! ### Link commands -/

/-- A command that has just arrived is offered. -/
theorem offered {s : State} {code : Nat} {h : CmdHead} {l : List Word} (h1 : h.len = l.length) (h2 : h.len < 65536)
    (h3 : fixedWords code h.len = none) (h4 : s.mayServe h.port (completionSize code h.len l) = true)
    (h6 : s.ready (otherPort h.port) = false) {t : Nat × Nat × State}
    (h5 : (s.retie h.port).takeFront h.port (headWord code h :: l) = some t) :
    s.offers code h l { port := h.port, opcode := code + 128 * boolNat h.quiet, tag := h.tag, len := h.len, qpos := t.1
                        arrived := t.2.1, streamed := false } (t.2.2.turn.takes h.port) :=
  ⟨h1, h2, h3, h4, h6, t.1, t.2.1, t.2.2, h5, rfl, rfl⟩

/-- Every link command of the statements below is offered in `running`. -/
theorem witness_offers :
    ∀ e ∈ ([(0x00, []), (0x00, [1, 2]), (0x08, []), (0x08, List.replicate 254 0), (0x08, List.replicate 255 0),
        (0x01, [word (Reg.addr .glbScratch 0 0), 1]), (0x02, [word (Reg.addr .glbScratch 0 0), 1]),
        (0x03, [word (Reg.addr .glbScratch 0 0), 1, 1]), (0x10, [0, 0, 7]), (0x11, [0]), (0x18, [0]), (0x19, [0]),
        (0x20, [0]), (0x21, [0]), (0x30, [0, 0x100]), (0x31, [0, 0, 1]), (0x32, [0, 0])] : List (Nat × List Word)),
      e.2.length < 65536 ∧ fixedWords e.1 e.2.length = none ∧
      running.mayServe .A (completionSize e.1 e.2.length e.2) = true ∧ running.ready .B = false ∧
      ((running.retie .A).takeFront .A (headWord e.1 (cmd e.2.length) :: e.2)).isSome := by decide +kernel

/-- A command that waits at the front of a queue is offered, and one behind it is not. -/
theorem witness_queue :
    let q := headWord 0 (cmd 0)
    let s := running.onPort .A fun x => { x with queue := [q, headWord 8 (cmd 0)], arrivals := [{ left := 2, time := 0, ahead := 0 }] }
    s.Inv ∧ (s.takeFront .A [q]).isSome ∧ (s.takeFront .A [headWord 8 (cmd 0)]).isNone := by
  and_intros <;> first | rfl | decide

theorem witness_plainCommands :
    running.Inv ∧ Reg.glbScratch ∈ plainRegs ∧ running.blockOn .glb (some .glbScratch) 0 = true ∧
    Reg.legal .glbScratch 1 = true ∧ Reg.adcUcalTarget ∈ plainRegs ∧
    running.blockOn .adc (some .adcUcalTarget) 0 = true ∧ Reg.legal .adcUcalTarget 0 = false ∧
    ∃ c b, running.offers 0x03 (cmd 3) [word (Reg.addr .adcUcalTarget 0 0), 0xFFFFFFFF, 0] c b ∧
      Reg.legal .adcUcalTarget ((b.rdp .A .adcUcalTarget &&& ~~~0xFFFFFFFF) ||| (0 &&& 0xFFFFFFFF)) = false := by
  refine ⟨by decide, by decide, by decide, by decide, by decide, by decide, by decide, _, _,
    offered rfl (by decide) rfl (by decide) rfl rfl, by decide⟩

theorem witness_layerWrites :
    running.blockOn .lyr none 0 = true ∧ running.slotWriteRefusal .A 0 0 4 = none ∧
    running.slotWriteRefusal .A 1 (pageSize - 4) 4 = none ∧
    (∀ x, (scanning running).chkScan 3 = some x → x.addr = cellarBase ∧ x.addr + x.left ≤ cellarBase + 4) ∧
    (scanning running).Inv ∧ (running.retie .A).ready .B = false ∧
    (ruined running).Inv ∧ (cellarBase + 8 ≤ running.slotBase 0 + 0 ∨ running.slotBase 0 + 4 ≤ cellarBase) ∧
    running.slotWriteRefusal .A 0 0 (4 * 1023) = none ∧ running.mayServe .A 2 = true ∧
    ((running.retie .A).takeFront .A [headWord 0x10 (cmd 1025), 0, 0]).isSome ∧ running.controlOn = true ∧
    (streaming running).Inv ∧ (streaming running).ready .B = false ∧ (((streaming running).retie .A).takeFront .A (List.replicate 16 7)).isSome ∧
    ((lastBlock running).port .A).stream.map (·.remain) = some 16 ∧ (lastBlock running).Inv ∧
    (((lastBlock running).retie .A).takeFront .A (List.replicate 16 7)).isSome ∧
    (∀ k ∈ [StreamKind.window 0 4, .nop], ∀ r ∈ [16, 1024], (streamed k r running).Inv ∧
      (streamed k r running).ready .B = false ∧
      (((streamed k r running).retie .A).takeFront .A (List.replicate 16 7)).isSome ∧
      ((streamed k r running).port .A).stream.map (·.kind) = some k) ∧
    ((running.retie .A).takeFront .A [headWord 0x00 (cmd 1025)]).isSome := by
  and_intros <;> first | rfl | decide

theorem witness_windowWrite :
    runPlace 0x1000000 = .window 0 ∧ running.bulkRefusal 0 = none ∧ running.slotAt 0 = some 0 ∧
    running.windowRefusal .A 0 0 (4 * 1024) = none ∧
    ((running.retie .A).takeFront .A [headWord 0x01 (cmd 1025), 0x1000000]).isSome := by
  and_intros <;> decide +kernel

theorem witness_commits :
    running.answers .cmpCommit 0 ∧ (running.begun .A .link).commitRefusal .A 1 = none ∧ bit 1 6 = false ∧
    (running.begun .A .link).commitRefusal .A ((0x40 : Word) &&& 0xFFFF1F7F) = some .refusedOwner ∧
    (running.begun .A .link).sealUe plate ((running.begun .A .link).stagedLayer .A 6) = false ∧
    (running.begun .B .link).commitRefusal .B 0x40 = none ∧ bit 0x40 6 = true ∧ running.answers .cmpCommit 0 ∧
    (held (sealWaits false running)).Inv ∧ (sealCommit false).live = true ∧ (sealCommit false).hasSeal = true ∧
    (sealCommit false).sealApplied = false ∧ ((held running).begun .B .link).commitRefusal .B 0x40 = none ∧
    (held running).power.trans = none ∧ (held (entering .standby 1 running)).Inv ∧
    (((sealWaits false running).begun .B .link).wr .cmpCommitCnt 1).commitRefusal .B 0x40 = none ∧
    (sealCommit false).seq ≠ ((sealWaits false running).wr .cmpCommitCnt 1).nextSeq := by
  and_intros <;> first | rfl | decide

/-- A Seal layer with content is accepted with its check value. -/
theorem witness_sealContent :
    ((sealStaged running).begun .B .link).commitRefusal .B 0x40 = none ∧ ((sealStaged running).stagedLayer .B 6).en = true ∧
    (sealStaged running).Inv := by
  and_intros <;> decide +kernel

theorem witness_updateCommands :
    (owned 2 .A ready).Inv ∧ (owned 2 .A ready).owner 2 = some .A ∧ ready.power.cpuHalt = false ∧
    ready.inactiveSlot false = 1 ∧ ready.inactiveSlot true = 3 ∧ ready.boot.otp.lc ≠ 3 ∧
    (0x100 : Word).toNat ≤ imageRoom 1 ∧ (0x200000 : Word).toNat ≤ imageRoom 1 ∧ (0x80000 : Word).toNat ≤ imageRoom 3 ∧
    (ready.image 1).role ≠ .pending ∧ ready.onTrial false = false ∧ ready.boot.recovery = false ∧
    (session 64 [] false ready).Inv ∧ (session 64 [] false ready).session false =
      some { size := 0x100, words := List.replicate 64 (0, 0), buffer := [], erasing := false } ∧
    (session 0 [] false ready).session false = some { size := 0x100, words := [], buffer := [], erasing := false } ∧
    ({ size := 0x100, words := [], buffer := [], erasing := false } : Session).at 63 = none ∧
    (session 0 [] false ready).bufferUsed + 0 + 1 ≤ 16384 ∧
    (session 64 [(0, 0)] false ready).session false =
      some { size := 0x100, words := List.replicate 64 (0, 0), buffer := [(0, 0)], erasing := false } ∧
    (session 64 [] false ready).imageValid 1 = false ∧ (session 64 [] false ready).flashSpoilt (imageBase 1) 0x100 = false ∧
    ((session 64 [] false ready).flashFails (imageBase 1 + 0xFF)).flashSpoilt (imageBase 1) 0x100 = true ∧
    ((session 64 [] false ready).flashFails (imageBase 1 + 0x100)).flashSpoilt (imageBase 1) 0x100 = false ∧
    ((session 64 [] false ready).flashFails (imageBase 1)).Inv ∧
    ((session 64 [] false ready).flashFails (imageBase 1)).session false =
      some { size := 0x100, words := List.replicate 64 (0, 0), buffer := [], erasing := false } := by
  and_intros <;> first | rfl | decide

/-- The signed image is valid: header, SHA-256 and signature. It is that of the inactive slot where slot 1 runs. -/
theorem witness_validImage :
    let s := (signedImage (session 64 [] false ready)).onBoot fun b => { b with fwSlot := 1 }
    s.inactiveSlot false = 0 ∧ s.imageValid 0 = true := by decide +kernel

/-! ### Packets and lanes -/

/-- A packet with a right check value: a header word and one payload word. -/
def packet (type seq : Nat) : RxPacket :=
  let h : Word := headerWord type seq 1
  { header := h, payload := [7], crc := packetCrc h [7] }

/-- The code groups of a packet on three lanes at negative running disparity. -/
def lined (k : RxPacket) : List (List LineItem) :=
  (stripe 3 Sym.comma ((bytesOfWords (k.header :: (k.payload ++ [k.crc]))).map .data)).map fun l =>
    (encodeSyms false (.sop :: (l ++ [.eop]))).map .group

/-- What the active lanes of port A hold after them. -/
def got (l : List (List LineItem)) (s : State) : Option RxPacket × State := ((hearing s).lanesReceive .A l).takePacket .A

theorem witness_packets :
    (hearing (linked .up ready)).Inv ∧ (got [] (linked .up ready)).1 = none ∧
    (got (lined (packet 1 4095)) (linked .up ready)).1 = some (packet 1 4095) ∧
    (got (lined (packet 4 0)) (linked .up ready)).1 = some (packet 4 0) ∧
    (got (lined (packet 5 0)) (linked .up ready)).1 = some (packet 5 0) ∧
    ((got (lined (packet 1 0)) (linked .up ready)).2.port .A).linkUp = true ∧
    ((got (lined (packet 1 0)) (linked .up ready)).2.port .A).inDiscard = false ∧
    ((got (lined (packet 1 0)) (linked .up ready)).2.port .A).sinceAck = 0 ∧
    ((got (lined (packet 1 0)) (linked .up ready)).2.port .A).expSeq = 0 ∧
    ((got (lined (packet 1 0)) (acking 7 (linked .up ready))).2.port .A).sinceAck = 7 ∧
    (hearing (acking 7 (linked .up ready))).Inv ∧ (hearing (nakking (linked .up ready))).Inv ∧
    ((got (lined (packet 1 0)) (nakking (linked .up ready))).2.port .A).nakOut.isSome ∧
    (0 + 4096 - 4095) % 4096 ≤ 2048 ∧ 2048 < (0 + 4096 - 1) % 4096 ∧ ((got [] ready).2.port .A).linkUp = false := by
  and_intros <;> decide +kernel

theorem witness_goodPacket :
    (packet 1 0).sound 1 = true ∧ (packet 4 0).sound 4 = true ∧ (packet 5 0).sound 5 = true ∧
    (packet 4 0).sound 1 = false ∧ (packet 2 0).sound 1 = false ∧ (packet 2 0).sound 4 = false ∧
    (packet 2 0).sound 5 = false ∧ field (packet 1 4095).header 4 12 = 4095 ∧
    (hearing (full (linked .up ready))).faults.reports = [] ∧ (hearing (full (linked .up ready))).heldDark = false ∧
    16384 - ((got (lined (packet 1 0)) (full (linked .up ready))).2.port .A).queue.length < (packet 1 0).payload.length := by
  and_intros <;> decide +kernel

theorem witness_outwardPackets :
    (sent 0 (linked .up ready)).Inv ∧ ((sent 0 (linked .up ready)).port .A).linkUp = true ∧
    ((sent 3 (linked .up ready)).port .A).ackTimer = some (0, 10) ∧ ((sent 3 (linked .up ready)).port .A).unacked ≠ [] ∧
    ((sent 3 (linked .up ready)).port .A).retries = 3 ∧ ((sent 4 (linked .up ready)).port .A).retries = 4 ∧
    ((acking 7 (linked .up ready)).port .A).oldest = some 0 ∧ ((nakking (linked .up ready)).port .A).nakOut = some 1 ∧
    ((nakking (linked .up ready)).port .A).nakTimer = some (0, 10) ∧ ready.Inv ∧
    (ready.port .A).silent = some (0, 1000000000) ∧ (ready.port .A).linkUp = false ∧ (ready.port .A).lost = false ∧
    (owned 15 .A ready).owner 15 = some .A ∧ ((streaming ready).port .A).stream.isSome ∧
    (streaming ready).comp.slots.length = 64 ∧ (halved ready).Inv ∧ ((halved ready).port .A).silent = some (0, 1000000000) ∧
    ready.slotBase 0 ∈ (halved ready).ecc ∧ ready.slotBase 0 < ready.slotBase 0 + 4 ∧
    ready.slotBase 0 + 4 < ready.slotBase 0 + 8 ∧ ready.ecc = [] := by
  and_intros <;> first | rfl | decide

/-- Link A after a marker column on lanes 0 and 1. -/
def columned (s : State) : State :=
  (s.lanesReceive .A (twoLanes.map (·.items))).onLanes .A fun k x => x.atMarker (twoLanes.getD k default).skew

/-- Four code groups that are no entry of the tables. -/
def noise : List LineItem := List.replicate 4 (.group 0)

/-- The host has acknowledged the rate, and the transmit lane has not stopped yet. -/
def restarting (s : State) : State :=
  (linked .rate s).onLink .A fun x => { x with
    wait := some { why := .rate, b4 := 3, b5 := 0, start := 0, length := 10, acked := true } }

/-- What lane `k` sees of a training set on lane 0. -/
def seesSet (t : TrainSet) (s : State) (k : Nat) : SetSeen :=
  let c := (hearing s).lanesReceive .A [(encodeSyms false t.symbols).map .group]
  if c.decodes .A k then (c.lane .A k).trainSet else .nothing

theorem witness_linkTraining :
    (linked .train ready).Inv ∧ ((linked .train ready).link .A).state = .train ∧
    (((marked [0, 1] ready).link .A).state = .train ∧ ((marked [0, 1] ready).link .A).prevSet = some [0, 1]) ∧
    (((columned (marked [0, 1] ready)).link .A).lanesWith fun x => x.aligned) = [0, 1] ∧
    ((columned (marked [0, 1] ready)).link .A).state = .train ∧
    ((columned (marked [0, 1] ready)).link .A).prevSet = some [0, 1] ∧
    (((columned (linked .train ready)).link .A).lanesWith fun x => x.aligned) = [] ∧
    (((columned (rated ready)).link .A).lanesWith fun x => x.aligned) = [0, 1] ∧
    (columned (rated ready)).requiredLanes .A ≤ 2 ∧
    ((linked .caps ready).link .A).state = .caps ∧ topRate (0x1E &&& ~~~0) ((linked .caps ready).link .A).maxRate ≠ 0 ∧
    topRate (0 &&& ~~~0) ((linked .caps ready).link .A).maxRate = 0 ∧
    (hearing (linked .caps ready)).Inv ∧ seesSet deviceCap (linked .caps ready) 0 = .set deviceCap ∧
    (∀ k, k < 4 → seesSet deviceCap (linked .caps ready) k = .nothing ∨
      ∃ n, seesSet deviceCap (linked .caps ready) k = .set { deviceCap with lane := n }) ∧
    deviceCap.code = 1 ∧ seesSet { deviceCap with code := 6 } (linked .caps ready) 0 = .damaged ∧
    (∀ k, k < 4 → seesSet { deviceCap with code := 6 } (linked .caps ready) k = .nothing ∨
      seesSet { deviceCap with code := 6 } (linked .caps ready) k = .damaged) ∧
    ((rated ready).link .A).state = .rate ∧ ((rated ready).link .A).restarted = true ∧
    ((rated ready).link .A).prevSet = some [0, 1] ∧ (rated ready).Inv ∧ ((stopped ready).link .A).stopped = some 0 ∧
    (stopped ready).Inv ∧ ((timed .caps ready).link .A).timer = some (0, 10) ∧ (timed .caps ready).Inv ∧
    ((timed .train ready).link .A).state = .train ∧
    (∀ x ∈ ((timed .train ready).link .A).lanes, x.aligned = false) ∧
    ((timed .rate ready).link .A).state = .rate ∧ (idling ready).Inv ∧ ((idling ready).link .A).idle = some 0 ∧
    ((linked .up ready).lane .A 0).role = .active ∧ ((linked .up ready).lane .A 3).role ≠ .active ∧
    ((linked .up ready).lane .A 3).lock = false ∧ ((linked .up ready).link .A).state ≠ .disabled ∧
    (linked .train ready).decodes .A 0 = true ∧ ready.decodes .A 0 = false ∧
    (Lane.takeAll [.idle 16] ((linked .train ready).lane .A 0)).1.lock = true ∧
    (Lane.takeAll [.idle 15] ((linked .train ready).lane .A 0)).1.lock = false ∧
    (Lane.takeAll noise ((hearing (linked .up ready)).lane .A 0)).2 = true ∧
    (hearing (linked .up ready)).cvLimit .A ≤ (Lane.takeAll (List.replicate 16 (.group 0)) ((hearing (linked .up ready)).lane .A 0)).1.cv ∧
    ((rated ready).link .A).wait = none ∧ (timed .rate (stopped ready)).Inv ∧
    ((restarting ready).link .A).wait = some { why := .rate, b4 := 3, b5 := 0, start := 0, length := 10, acked := true } ∧
    ((restarting ready).link .A).stopped = none ∧ ((restarting ready).link .A).restarted = false ∧ (restarting ready).Inv ∧
    (columned (restarting ready)).Inv ∧ ((columned (restarting ready)).link .A).state = .rate := by
  and_intros <;> decide +kernel

theorem witness_laneFaults :
    (linked .up ready).laneCause .A 0 .los = true ∧ (linked .up ready).laneCause .A 0 .lockLost = true ∧
    (linked .up ready).laneCause .A 0 .misaligned = false ∧
    (((linked .up ready).onLane .A 0 fun x => { x with missed := 2, cv := 255 }).laneCause .A 0 .misaligned = true) ∧
    (((linked .up ready).onLane .A 0 fun x => { x with missed := 2, cv := 255 }).laneCause .A 0 .violations = true) ∧
    ((linked .up ready).lane .A 0).faults = [] ∧ ((linked .up ready).lane .A 0).role = .active ∧
    ((deciding [.los, .los, .los] ready).link .A).deciding = some 0 ∧ (deciding [.los, .los, .los] ready).Inv ∧
    (∀ x ∈ ((deciding [.los, .los, .los] ready).link .A).activeLanes.map
      (fun j => ((deciding [.los, .los, .los] ready).link .A).lanes.getD j {}), x.faults ≠ []) ∧
    (∃ x ∈ ((deciding [.los] ready).link .A).activeLanes.map
      (fun j => ((deciding [.los] ready).link .A).lanes.getD j {}), x.faults = []) ∧
    (∃ x ∈ ((deciding [.los] ready).link .A).activeLanes.map
      (fun j => ((deciding [.los] ready).link .A).lanes.getD j {}), x.faults ≠ []) ∧
    ((deciding [.los] ready).link .A).wait = none ∧
    ((linked .up ready).link .A).wait = none ∧ earliestLane ((linked .up ready).link .A) [0, 1, 2, 3] = none ∧
    (awaiting .park ready).Inv ∧ ((awaiting .park ready).link .A).state = .up ∧
    earliestLane ((awaiting .park ready).link .A) [0, 1, 2, 3] = none ∧
    ((awaiting .join ready).link .A).wait = some { why := .join, b4 := 3, b5 := 0, start := 0, length := 10 } := by
  and_intros <;> first | rfl | decide

/-- What is awaited of the host, in the link states below. -/
def awaitedSet (y : TsFor) : TsWait := { why := y, b4 := 3, b5 := 0, start := 0, length := 10 }

theorem witness_laneChecks :
    (∀ y : TsFor, (awaiting y ready).Inv ∧
      ((awaiting y ready).link .A).awaited (BitVec.ofNat 8 (tsCode y)).toNat = some (awaitedSet y) ∧
      (BitVec.ofNat 8 (tsCode y)).toNat = tsCode (awaitedSet y).why ∧ (3 : Byte).toNat = (awaitedSet y).b4 ∧
      (0 : Byte).toNat = (awaitedSet y).b5 ∧ ∃ k ∈ ((awaiting y ready).link .A).ackLanes (awaitedSet y), k ∈ [0]) ∧
    seesSet { code := 5, lane := 0, b4 := 3, b5 := 3, b6 := 0 } (awaiting .park ready) 0 =
      .set { code := 5, lane := 0, b4 := 3, b5 := 3, b6 := 0 } ∧
    (∀ k, k < 4 → seesSet { code := 5, lane := 0, b4 := 3, b5 := 3, b6 := 0 } (awaiting .park ready) k = .nothing ∨
      ∃ n, seesSet { code := 5, lane := 0, b4 := 3, b5 := 3, b6 := 0 } (awaiting .park ready) k =
        .set { code := 5, lane := n, b4 := 3, b5 := 3, b6 := 0 }) ∧
    (held (awaiting .holdPark ready)).power.state = .hold ∧ (0xFF : Byte).toNat ≠ tsCode .park ∧
    (checked ready).Inv ∧ (((checked ready).link .A).lanes.filterMap Lane.rejoinAt).min? = some 10 ∧
    ((checked ready).link .A).state = .up ∧ (((linked .up ready).link .A).lanes.filterMap Lane.rejoinAt).min? = none ∧
    ((checked ready).lane .A 2).role = .check ∧ ((checked ready).lane .A 2).acked = true ∧
    ((checked ready).lane .A 2).checking = false ∧ ((checked ready).lane .A 2).timer = some (0, 10) ∧
    ((checked ready).lane .A 1).checking = true ∧ ((checked ready).lane .A 1).role = .check ∧
    ((checked ready).lane .A 1).timer = some (0, 10) ∧ (ready.link .A).state = .disabled ∧
    (ready.wr .lnkPrbs 0x80).loopChecks .A 3 = true ∧ ((ready.wr .lnkPrbs 0x80).lane .A 3).role ≠ .check ∧
    (ready.wr .lnkPrbs 0x80).ownPattern .A 3 = false ∧
    ((ready.wr .lnkPrbs 0x81).wr .lnkLoop 0xD).ownPattern .A 3 = true ∧
    ((ready.wr .lnkPrbs 0x81).wr .lnkLoop 0xD).loopChecks .A 3 = true ∧ (ready.wr .lnkPrbs 0x80).Inv ∧
    ((ready.wr .lnkPrbs 0x80).onLane .A 3 fun x => { x with checking := true }).Inv ∧
    ready.loopChecks .A 3 = false ∧ (ready.lane .A 3).role ≠ .check := by
  refine ⟨fun y => ?_, ?_⟩
  · cases y <;> exact ⟨by decide, by decide, by decide, by decide, by decide, 0, by decide, by decide⟩
  · and_intros <;> first | rfl | decide +kernel

/-- The checker locks on 64 bits of its pattern after bits that start it, and a wrong bit is one error (R328). -/
theorem witness_patternLock :
    64 ≤ (Lane.seekPattern 0 ((prbsSequence 0 71).take 71).reverse {}).streak ∧
    (Lane.seekPattern 0 (List.replicate 10 true) {}).streak < 64 ∧
    (prbsCount 0 [.good 5, .bits [!prbsNext 0 (prbsRunOn 0 5 (List.replicate 31 true))]] (List.replicate 31 true)).2 = 1 ∧
    State.reset.fld .lnkErrCfg 8 8 0 < 1 := by
  and_intros <;> decide +kernel

/-! ### Scan, samples and synchronisation -/

theorem witness_slotsAndDecision :
    running.scan.on = true ∧ running.scan.slot = 0 ∧ running.scan.scanLock = true ∧ running.scan.wire0 = true ∧
    running.scan.wire1 = true ∧ (atLine7 running).Inv ∧ (atLine7 running).scan.slot = 7 ∧
    (atLine7 running).now ≤ (atLine7 running).decisionAt ∧
    ((complete (atLine7 running)).advance (complete (atLine7 running)).decisionAt).candReady = true ∧
    (complete (atLine7 running)).Inv ∧ (complete (atLine7 running)).heldDark = false ∧
    (complete (atLine7 running)).leaving = false ∧
    ((atLine7 running).advance (atLine7 running).decisionAt).candReady = false ∧ running.domOn (arrDomain .L) = true ∧
    running.domOn (arrDomain .R) = true ∧ field ((running.wr .scnD2dL 4).rd .scnD2dL) 0 3 = 4 ∧ (running.wr .scnD2dL 4).Inv ∧
    field (running.rd .scnD2dL) 0 3 ≠ 4 ∧ running.scan.repairL = [] ∧ running.scan.repairR = [] ∧
    4 ≤ field (running.rd .scnD2dL) 0 3 + (running.onScan fun c => { c with repairL := [0, 1, 2, 3] }).scan.repairL.length ∧
    (running.onScan fun c => { c with repairL := [0, 1, 2, 3] }).Inv := by
  and_intros <;> first | rfl | decide

/-- Attic sinks of row group 0, of which column 5 is one: of every connection, failed and not, chosen and not. -/
theorem witness_attic :
    running.sinkFailed 5 = false ∧ (attics (.takeover 5) .parked running).holder 5 = some 0 ∧ running.holder 5 = none ∧
    groupOfColumn 5 = 0 ∧ running.ranks 0 1 ∧ (attics (.takeover 5) (.shadow 9) running).ranks 0 2 ∧
    (attics (.takeover 5) (.shadow 9) running).ranks 1 3 ∧ ¬ (attics (.replace 9) .parked running).ranks 0 1 ∧
    running.diag.toDrop = [] ∧ running.diag.toRejoin = [] ∧ (replacing 5 running).diag.toReplace = [(5, false)] ∧
    (∀ j q, (j = 2 * 0 ∨ j = 2 * 0 + 1) → ¬ (attics (.replace 8) (.replace 9) (replacing 5 running)).ranks j q) ∧
    (dropping 0 running).diag.toDrop = [0] ∧ ((attics (.takeover 5) .parked (dropping 0 running)).attic 0).replaces = false ∧
    (attics (.replace 5) .parked (dropping 0 running)).attic 0 = .replace 5 ∧
    (attics (.replace 5) .parked (dropping 0 running)).atticFailed 0 = true ∧
    (attics (.replace 5) .parked (dropping 0 running)).attic 1 = .parked ∧
    (attics (.replace 5) .parked (dropping 0 running)).atticFailed 1 = false ∧
    (running.region 0).stepOn = false ∧ (running.region 0).running = false ∧
    ((round 5 running).region 0).running = true ∧ ((round 5 running).region 0).ending = false ∧
    (round 5 running).calPaused (dieOf 0) = false ∧ (((round 5 running).releaseAttics 0).seek 0).1 = some 5 ∧
    ((round 5 running).releaseAttics 0).planned 0 5 = .working 5 ∧
    ((attics (.replace 5) .parked (round 5 running)).releaseAttics 0).planned 0 5 = .replaced 0 5 ∧
    (((round 8192 running).releaseAttics 0).seek 0).1 = some 8192 ∧
    ((round 8192 running).releaseAttics 0).planned 0 8192 = .attic 0 ∧
    ((round 8192 running).releaseAttics 0).shadowColumn 0 = some 0 := by
  refine ⟨rfl, by decide, rfl, rfl, ?_, ?_, ?_, ?_, rfl, rfl, rfl, ?_, rfl, ?_⟩
  · exact ⟨rfl, rfl⟩
  · exact ⟨rfl, rfl⟩
  · exact ⟨.inl rfl, rfl⟩
  · exact id
  · intro j q h; rcases h with rfl | rfl <;> exact id
  · and_intros <;> decide +kernel

theorem witness_cycleBoundaries :
    (atLine7 running).inStep .standby 1 = false ∧
    ((complete (atLine7 running)).onScan fun c => { c with flipPend := true }).Inv ∧
    ((complete (atLine7 running)).onScan fun c => { c with flipPend := true }).comp.cand =
      some { frame := {}, ipkL := 0, ipkR := 0, vreqL := 0, vreqR := 0 } ∧
    ((complete (atLine7 running)).onScan fun c => { c with flipPend := true }).calDue = false ∧
    (atLine7 running).scan.on = true ∧ (atLine7 running).scan.slot = 7 ∧
    (atLine7 running).comp.cand = none := by
  and_intros <;> first | rfl | decide

/-- Pixel (0, 0) is driven for a long pulse, in slot 0. -/
theorem witness_samples :
    (lit running).Inv ∧ (lit running).scan.on = true ∧ bit ((lit running).rd .scnDiagCfg) 0 = true ∧
    (lit running).columnSampled 0 0 = true ∧ (lit running).causes (pixelNo 0 0) = 0 ∧
    pixelNo 0 0 ∉ (lit running).diag.returned ∧
    250 ≤ (((lit running).advance ((lit running).slotStart + 248 * tickLen)).pulse 0 0).2 ∧
    ((lit running).classifyLit 0 false 0) = .opened ∧ (lit running).classifyLit 0 true 5000 = .short ∧
    (lit running).classifyLit 0 false 3000 = .sink ∧ 1 < (lit running).failN ∧
    (failing 3 (lit running)).failN ≤ (Confirm.next (tabGet noConfirm (failing 3 (lit running)).diag.pix (pixelNo 0 0)) .opened
      true).count ∧
    (failing 3 (lit running)).failN ≤ (Confirm.next (tabGet noConfirm (failing 3 (lit running)).diag.sinks 0) .sink true).count ∧
    (failing 3 (lit running)).Inv ∧ (lit running).driver (columnNo 0 0) < 131072 ∧
    running.columnSampled 4000 0 = false ∧ bit (running.rd .scnDiagCfg) 1 = true ∧
    (let d := running.advance (running.slotStart + (running.slotTicks - 32) * tickLen)
     d.columnSampled 0 0 = true ∧ d.servedInSlot (columnNo 0 0) = true ∧ d.pixelState 0 0 ≠ 3 ∧
     (wordPulse running.scan.cur running.scan.cycle 0 0 (d.stored 0 0)).2 = 0 ∧ wMask (d.stored 0 0) = false) ∧
    running.windowOf (pixelNo 0 0) = none ∧
    (running.onDiag fun d => { d with windows := [(pixelNo 0 0, 0, 0)] }).windowOf (pixelNo 0 0) = some (0, 0) ∧
    (running.onDiag fun d => { d with windows := [(pixelNo 0 0, 0, 0)] }).Inv ∧
    (running.onScan fun c => { c with scanLock := false }).Inv ∧
    pixelNo 0 0 ∉ running.diag.returned ∧ ((lit running).advance ((lit running).slotStart + 248 * tickLen)).columnSampled 0 0 = true ∧
    running.causes (pixelNo 0 0) &&& faultCause = 0 ∧
    (running.classifyDark 0 5000 = .short ∨ running.classifyDark 0 5000 = .leak) := by
  and_intros <;> decide +kernel

theorem witness_synchronisation :
    running.scan.role ≠ 2 ∧ (follower running).Inv ∧ (follower running).scan.stretching = none ∧
    (follower running).scan.lastEdge = none ∧ (follower running).scan.sync = .freeRun ∧
    (edged .freeRun running).Inv ∧ (edged .freeRun running).scan.lastEdge = some 0 ∧
    (edged .freeRun running).goodSpacing 0 = true ∧ (edged .freeRun running).scan.stretched = false ∧
    (edged .locked running).scan.sync = .locked ∧ ((edged .locked running).groupSync).phaseError.natAbs ≤ 250 ∧
    250 < ((shifted (edged .locked running)).groupSync).phaseError.natAbs ∧ (shifted (edged .locked running)).Inv ∧
    (shifted (edged .locked running)).goodSpacing 0 = true ∧ (shifted (edged .locked running)).scan.badPhase = 0 ∧
    ((shifted (edged .locked running)).onScan fun c => { c with badPhase := 1 }).Inv ∧
    ({ edged .freeRun running with now := 1 } : State).goodSpacing 0 = false ∧ running.scan.badSpacing = 0 ∧
    ((edged .freeRun running).onScan fun c => { c with badSpacing := 2 }).Inv ∧
    (({ edged .locked running with now := 1 } : State).onScan fun c => { c with badSpacing := 3 }).goodSpacing 0 = false ∧
    ((edged .acquire running).onScan fun c => { c with stretched := true }).Inv ∧
    ((edged .acquire running).groupSync).phaseError.natAbs ≤ 250 ∧
    250 < ((shifted (edged .acquire running)).groupSync).phaseError.natAbs ∧
    ((edged .acquire running).onScan fun c => { c with stretchDue := some 5 }).Inv ∧
    ((edged .acquire running).onScan fun c => { c with stretchDue := some 5 }).goodSpacing 0 = true ∧
    running.now ≤ running.scan.cycleStart + 5 ∧ running.now ≤ running.scan.cycleStart ∧
    (running.onScan fun c => { c with syncout := true }).Inv ∧ running.scan.syncout = false ∧
    (∀ o ∈ ([(5, false), (0, true), (0x3FFFF, false)] : List (Nat × Bool)), (camera o running).Inv ∧
      (camera o running).camDue = true ∧ (camera o running).scan.cam = some o) ∧
    5 * tickLen < running.boundaryAt ∧ running.boundaryAt ≤ 0x3FFFF * tickLen ∧ running.scan.cycleStart = 0 ∧
    ({ camera (5, false) running with now := 6 * tickLen } : State).Inv ∧
    ({ camera (5, false) running with now := 6 * tickLen } : State).camDue = true ∧ running.camDue = false ∧
    running.scan.cycleStart + running.fld .scnCamsyncOffset 0 18 * tickLen < running.boundaryAt ∧
    (running.wr .scnCamsyncOffset 0x3FFFF).boundaryAt ≤
      running.scan.cycleStart + (running.wr .scnCamsyncOffset 0x3FFFF).fld .scnCamsyncOffset 0 18 * tickLen ∧
    (running.wr .scnCamsyncOffset 0x3FFFF).Inv ∧ (running.wr .adcGrpCfg 0x200000).Inv ∧
    (running.wr .adcGrpCfg 0x200000).fld .adcGrpCfg 20 2 = 2 := by
  and_intros <;> first | rfl | decide

/-! ### Composition -/

theorem witness_passes :
    (asked running).Inv ∧ (asked running).boot.plate.isSome ∧ (asked running).now ≤ (asked running).passPoint ∧
    (asked running).passAllowed = true ∧ (asked running).intervalOver (asked running).passPoint = true ∧
    (asked running).passWanted = true ∧ (asked running).scan.flipPend = false ∧ (asked running).power.state ≠ .hold ∧
    ((asked running).onScan fun c => { c with flipPend := true }).Inv ∧ (held (asked running)).power.state = .hold ∧
    (held (asked running)).Inv ∧ (held (asked running)).passWanted = true ∧
    ((met (asked running)).comp.commits.map (·.state)) = [.ready] ∧ (met (asked running)).Inv ∧
    ((met (asked running)).advance (met (asked running)).passPoint).appliesWhole { waits with state := .ready, fence := none } =
      true ∧
    (sealWaits true running).Inv ∧ ((sealWaits true running).advance 0).appliesWhole (sealCommit true) = true ∧
    (fallen (sealWaits true running)).Inv ∧ ((fallen (sealWaits true running)).advance 0).appliesSeal (sealCommit true) = true ∧
    ((fallen (sealWaits false running)).advance 0).appliesSeal (sealCommit false) = true ∧
    (sealCommit true).hasRest plate = true ∧ (sealCommit false).hasRest plate = false ∧
    (fallen (sealWaits true running)).passWanted = true ∧ (sealWaits true running).passWanted = true ∧
    running.passWanted = false ∧ (passing running).Inv ∧ (passing running).comp.run = some { frame := {}, start := 0 } ∧
    ((passing running).dropRun).comp.run = some { frame := {}, start := 0, dropped := true } ∧
    (passing running).dropRun.Inv ∧ running.comp.run = none ∧ (passing running).vreqNow .L 250 0 ≤ 4200 ∧
    4200 < ((passing running).onBoot fun b => { b with plate := some { plate with vf0L := 4500 } }).vreqNow .L 250 0 := by
  and_intros <;> first | rfl | decide

theorem witness_passChecks :
    (checking running).Inv ∧
    ((checkedFrame).rects.getD 0 {}).w ≠ 0 ∧ checkedFrame.fallback = false ∧
    (checking running).comp.run = some { frame := checkedFrame, start := 0 } ∧
    (checking running).sealReads checkedFrame .palette 0 0 = some (0, 0) ∧
    (checking running).sealReads checkedFrame .output 0 0 = none ∧ (0 ^^^ 1 : Word) ≠ 0 ∧
    (checking (running.onComp fun c => { c with sealCrc := 5 })).Inv ∧
    (checking running).sealReads { checkedFrame with layers := List.replicate 6 {} ++ [{ ctrl := 1 }] } .content
      0 0 ≠ none := by
  and_intros <;> first | rfl | decide +kernel

/-- A rectangle whose expected value is its signature, and one whose expected value differs from it. -/
theorem witness_signatures (f : Frame) (v : RectVals) :
    f.signature v = { v with exp := f.signature v }.exp ∧ f.signature v ≠ { v with exp := f.signature v + 1 }.exp :=
  ⟨rfl, by simp⟩

theorem byte_outside (m : List Host.Cell) (a i : Nat) (w : Word) (h : i < a) : memByte (memSetWord m a w) i = memByte m i :=
  memByte_store_outside m (Or.inl h)

/-- A bank that holds the check value of its pattern, and one that holds another. -/
theorem witness_patterns (m : List Host.Cell) (b : Nat) :
    let c := crc32c (memBytes m (bankBase b) 0x8040)
    patternGood (memSetWord m (bankBase b + 0x8040) c) b 0 = true ∧
    patternGood (memSetWord m (bankBase b + 0x8040) (c + 1)) b 0 = false ∧
    ∀ d, d ≠ 0 → patternGood (memSetWord m (bankBase b + 0x8040) c) b d = false := by
  have h (w : Word) : memBytes (memSetWord m (bankBase b + 0x8040) w) (bankBase b) 0x8040 =
      memBytes m (bankBase b) 0x8040 :=
    List.map_congr_left fun i hi => byte_outside m _ _ w (Nat.add_lt_add_left (List.mem_range.1 hi) _)
  refine ⟨by simp [patternGood, h, memWord_setWord], by simp [patternGood, h, memWord_setWord], fun d hd => ?_⟩
  simp only [patternGood, h, memWord_setWord, beq_eq_false_iff_ne, ne_eq]
  intro e
  apply hd
  simpa [← BitVec.xor_assoc] using congrArg (crc32c (memBytes m (bankBase b) 0x8040) ^^^ ·) e

theorem witness_memoryErrors :
    running.boot.plate.map (·.fbBank) = some 3 ∧ bankBase 3 ≤ bankBase 3 + 0xFFFF ∧
    (running.onComp fun c => { c with fbReload := true }).comp.fbReload = true ∧
    (running.onComp fun c => { c with fbReload := true }).Inv ∧ (passing running).comp.run.isSome ∧
    (reading running).passReadsLayer (running.slotBase 0) = true ∧ (reading running).Inv ∧
    (reading running).passReadsLayer (running.slotBase 1) = false ∧
    (patterned running).passReadsBank 3 (bankBase 3 + 0xFFFF) = true ∧ (patterned running).Inv ∧
    (passing running).passReadsBank 3 (bankBase 3) = false := by
  and_intros <;> first | rfl | decide

/-! ### Rails, calibration and converters -/

theorem witness_railAnswers :
    (running.rail 2).req = none ∧ (asking 2 .raise 0 running).Inv ∧
    ((asking 2 .raise 2 running).rail 2).req = some { power := none, mv := 3000, why := .raise, fails := 2, sent := 0 } ∧
    ((asking 2 .raise 3 running).rail 2).req = some { power := none, mv := 3000, why := .raise, fails := 3, sent := 0 } ∧
    (asking 2 .raise 3 (awaited running)).candWaitsOn 2 = true ∧ (asking 2 .raise 3 (awaited running)).Inv ∧
    (entering .run 1 (asking 1 .entry 3 ready)).Inv ∧
    ((entering .run 1 (asking 1 .entry 3 ready)).rail 1).req =
      some { power := none, mv := 3000, why := .entry, fails := 3, sent := 0 } ∧
    (entering .run 1 (asking 1 .entry 3 ready)).power.trans =
      some { target := .run, source := .standby, port := .A, step := 1 } ∧
    (entering .standby 3 (asking 1 .entry 0 running)).Inv ∧ (entering .sleep 5 (asking 0 .entry 0 ready)).Inv ∧
    (entering .standby 3 (asking 1 .entry 0 running)).power.trans =
      some { target := .standby, source := .standby, port := .A, step := 3 } ∧
    (atStage (.step 1 3) (asking 0 .wake 0 ready)).Inv ∧ ((asking 0 .wake 0 ready).rail 0).req =
      some { power := none, mv := 3000, why := .wake, fails := 0, sent := 0 } ∧
    ((asking 0 .wake 0 ready).onRail 0 fun r =>
      { r with req := r.req.map fun q => { q with power := some true } }).Inv ∧
    ((asking 1 .loop 3 running).rail 1).req.map (·.why) = some .loop ∧ (asking 1 .loop 3 running).Inv ∧
    (entering .run 0 (asking 1 .other 0 ready)).Inv ∧ (entering .sleep 4 (asking 0 .other 0 ready)).Inv ∧
    ((asking 0 .entry 0 ready).onRail 0 fun r => { r with next := some (880, .other) }).Inv ∧ (ready.rail 0).acked ≠ 880 ∧
    0 + 20 * usec * ((0 - 0) / (20 * usec) + 1) ≤ 0 + 2 * msec ∧
    2 * msec < 20 * usec * (2 * msec / (20 * usec) + 1) := by
  and_intros <;> first | rfl | decide

theorem witness_headroomAndCalibration :
    running.Inv ∧ running.domOn (arrDomain .L) = true ∧ ready.domOn (arrDomain .L) = false ∧ ready.Inv ∧
    running.hmins .L = [] ∧ (running.rail 2).owed = false ∧
    ((running.onRail 2 fun r => { r with owed := true }).rail 2).owed = true ∧ (running.onRail 2 fun r => { r with owed := true }).Inv ∧
    (running.onRail 2 fun r => { r with owed := true }).hmins .L = [] ∧ (conducting running).hmins .L = [76, 305] ∧ (conducting running).Inv ∧
    ((running.onRegion 0 fun r => { r with sums := List.replicate 5 (252605, 192) }).region 0).sums.length = 5 ∧
    (running.onRegion 0 fun r => { r with sums := List.replicate 5 (252605, 192) }).Inv ∧ running.samplesOff = false ∧
    0 < running.cal.regions.length ∧ (readmitting running).diag.readmit.getD 0 none = some { tile := 0, unit := 1, attic := false } ∧
    0 < stepG goodSums ∧ 0 < goodSums.rref ∧ 0 < (stepG goodSums).toNat * 65536 / goodSums.rref % 2 ^ 32 ∧
    (calibrating running).Inv ∧ (calibrating running).scan.on = true ∧ ((calibrating running).region 0).stepOn = true ∧
    (calibrating running).stepCycle 0 = 7 ∧ ((calibrating running).region 0).readmitting = false ∧
    ((calibrating running).region 0).upset = false ∧ (calibrating running).calPaused (dieOf 0) = false ∧
    ((calibrating running).onRegion 0 fun r => { r with upset := true }).Inv ∧
    (readmitting ((calibrating running).onRegion 0 fun r => { r with readmitting := true })).Inv ∧
    ((readmitting ((calibrating running).onRegion 0 fun r => { r with readmitting := true })).diag.readmit.getD 0 none).isSome ∧
    (running.region 0).stepOn = false ∧ ((calibrating running).region 0).running = true ∧
    ((calibrating running).region 0).stalled = false ∧
    ((calibrating running).scan.cycle - ((calibrating running).region 0).startCycle).toNat < 270336 ∧
    270336 ≤ ((calibrating (running.onScan fun c => { c with cycle := 270336 })).scan.cycle - 0).toNat ∧
    ((running.onRegion 0 fun r => { r with stalled := true }).region 0).stalled = true ∧
    (running.onCal fun c => { c with flux := some (0, 10), dirty := true }).Inv ∧ running.cal.flux = none ∧
    (running.onRegion 0 fun r => { r with fallback := true }).Inv ∧ (running.region 0).fallback = false ∧
    running.controlOn = true ∧ running.cal.dirty = false ∧ running.diag.unsaved = none ∧
    (running.onDiag fun d => { d with unsaved := some 0 }).Inv ∧
    (running.onPower fun w => { w with stage := .waiting }).controlOn = false := by
  and_intros <;> first | rfl | decide

theorem witness_conversions :
    running.convOn 0 = true ∧ running.convOn 15 = true ∧ (running.conv 0).retired = false ∧ (running.conv 0).busy = none ∧
    ready.convOn 0 = false ∧ running.nextScheduled 0 = some (512 * tickLen, 512, 6) ∧ ready.nextScheduled 0 = none ∧
    running.convBusy 0 (512 * tickLen) = false ∧ (busyUntil 0 .host (600 * tickLen) running).Inv ∧
    (busyUntil 0 .host (600 * tickLen) running).convBusy 0 (512 * tickLen) = true ∧
    (busy 0 (.scheduled 512 0) running).Inv ∧ ((busy 0 (.scheduled 512 0) running).conv 0).busy.isSome ∧
    (requested 16 4 running).hostWants 16 = some (1, .host) ∧ running.hostWants 16 = none ∧
    (requested 16 4 running).urgentWaiting 16 ((requested 16 4 running).sampleAt 16 0) = false ∧
    (calibratingUser 0 .zero running).hostWants 16 = some (0, .ucal) ∧
    ({ requested 16 4 running with now := 100 * usec } : State).urgentWaiting 16 (100 * usec) = true ∧
    ({ requested 16 4 running with now := 100 * usec } : State).Inv ∧
    (requested 16 4 running).Inv ∧ ((requested 16 4 running).conv 16).req = some { input := 1, avg := 2, left := 4, sum := 0 } ∧
    (requested 16 4 running).convFree 16 0 = true ∧ (running.conv 16).req = none ∧ running.converterOf 0 = 16 ∧
    running.converterOf 16 = 0 ∧ running.converterOf 31 = 15 ∧ (busyUntil 16 .group (101 * usec) running).Inv ∧
    (busyUntil 16 .group (101 * usec) running).convFree 16 (running.urgentDue 0) = false ∧
    running.convFree 16 (running.urgentDue 0) = true ∧ running.fld .adcDropCfg 0 8 ≠ 0 ∧
    (running.dropsOf 0).2 < 255 ∧ (dropped 255 running).Inv ∧ 255 ≤ ((dropped 255 running).dropsOf 0).2 ∧
    satAdd 8 ((dropped 15 running).dropsOf 0).2 1 % ((dropped 15 running).wr .adcDropCfg 16).fld .adcDropCfg 0 8 = 0 ∧
    (triggered 5 running).groupDue = true ∧ (triggered 5 running).Inv ∧
    field ((triggered 5 running).rd .adcGrpPhase) 16 15 < running.scan.cur.len ∧
    running.scan.cur.len ≤ field ((triggered 0x7FFF running).rd .adcGrpPhase) 16 15 ∧ running.groupDue = false ∧
    ({ triggered 5 running with now := 6 * tickLen } : State).slotStart + 5 * tickLen < 6 * tickLen ∧
    ((busy 16 .host (requested 16 1 running)).conv 16).busy = some (1, .host, 10) ∧
    ((busy 16 .host (requested 16 1 running)).conv 16).req = some { input := 1, avg := 2, left := 1, sum := 0 } ∧
    (busy 16 .host (requested 16 1 running)).Inv ∧ ((busy 0 (.urgent 16) running).conv 0).busy = some (1, .urgent 16, 10) ∧
    ((busyUntil 0 .host (600 * tickLen) running).conv 0).retired = false ∧
    (synced 5 (busyUntil 16 .host (700 * usec) running)).Inv ∧ (synced 5 running).sampleAt 16 5 < 700 * usec ∧
    running.adc.syncAt = none ∧ (synced 5 running).adc.syncAt = some (5, [(16, 0)]) ∧
    (synced (101 * usec) (busyUntil 16 .host usec running)).Inv ∧ usec ≤ (synced (101 * usec) running).sampleAt 16 (101 * usec) ∧
    ((synced 0 running).syncGroup 0).convFree 16 0 = false ∧ (busy 16 (.urgent 7) running).Inv ∧
    ((running.onConv 16 fun c => { c with busy := some (6, .urgent 4, 10) }).conv 16).busy = some (6, .urgent 4, 10) ∧
    (running.onConv 16 fun c => { c with busy := some (6, .urgent 4, 10) }).Inv ∧
    (running.onConv 16 fun c => { c with busy := some (7, .urgent 4, 10) }).Inv ∧
    (busy 16 .ucal (calibratingUser 0 .zero running)).Inv ∧ (busy 16 .group (groupRunning 0 running)).Inv ∧
    ((busy 16 .host (requested 16 1 running)).advance 10).wroteOne ((ctlOf 16).1.key .A (ctlOf 16).2 0) = false ∧
    (((busy 16 .host (requested 16 1 running)).noteOne (Reg.adcSctl.key .A 0 0)).advance 10).wroteOne
      ((ctlOf 16).1.key .A (ctlOf 16).2 0) = true := by
  and_intros <;> first | rfl | decide

theorem witness_groupsAndUserCalibration :
    (groupEnding running).Inv ∧
    (groupEnding running).adc.group = some { sel := [0, 19], fin := 20000 } ∧ [0, 19].Nodup ∧
    (∀ n ∈ [0, 19], n < 20 ∧ ((groupEnding running).conv n).busy = some (1, .group, 10) ∧ 10 ≤ 20000) ∧
    ((groupEnding running).advance 20000).wroteOne (Reg.adcGrpCtl.key .A 0 0) = false ∧
    running.adc.group = none ∧ (calibrated 0 .zero 524288 false running).Inv ∧ (calibratingUser 0 .zero running).Inv ∧
    (calibratingUser 0 .zero running).adc.ucal = some { chan := 0, op := .zero } ∧
    (524288 + 128) / 256 ≤ 2048 ∧ 2048 < (524544 + 128) / 256 ∧
    ((calibrated 29 .full 0 true running).onAdc fun a => { a with zero := some (29, 100) }).Inv ∧
    (((256 * 60000 + 128) / 256 : Nat) : Int) - 100 = 59900 ∧ (((0 + 128) / 256 : Nat) : Int) - 100 ≤ 0 ∧
    16384 ≤ ((57000 : Nat) * 32768 + 59900 / 2) / 59900 ∧ (57000 * 32768 + 59900 / 2) / 59900 ≤ 65535 ∧
    (calibrated 0 .reset 0 false running).Inv ∧ running.adc.ucal = none ∧ running.adc.syncAt = none ∧
    (synced 0 running).Inv ∧ (synced 0 running).adc.group = none ∧ ((synced 0 running).syncGroup 0).adc.group.isSome := by
  and_intros <;> first | rfl | decide

/-! ### Power, start and wake -/

theorem witness_starts :
    (unpowered ready).Inv ∧ (unpowered ready).power.vin = false ∧ ready.power.vin = true ∧ ready.power.resetN = true ∧
    ready.power.state ≠ .off ∧ (ready.onPower fun w => { w with resetN := false }).Inv ∧ ready.supplyGood .vio = true ∧
    (ready.onPower fun w => { w with vphy := false }).supplyGood .vphy = false ∧
    (ready.onPower fun w => { w with vphy := false }).Inv ∧ (asleep ready).Inv ∧ (asleep ready).power.state = .sleep ∧
    (asleep ready).power.stage = .idle ∧ ready.power.state ≠ .sleep ∧ (atStage .retry ready).Inv ∧
    (atStage .retry ready).power.stage = .retry ∧ ready.power.stage ≠ .retry ∧
    (ready.onGuard fun g => { g with restartAt := some 5 }).Inv ∧ ready.guard.restartAt = none ∧
    (unpowered ready).power.resetN = true ∧ ((unpowered ready).onPower fun w => { w with resetN := false }).Inv ∧
    (unpowered ready).supplyGood .vio = true ∧ ((unpowered ready).onPower fun w => { w with vio := false }).Inv ∧
    ready.power.vio = true ∧ ready.power.vphy = true ∧ 0 < ready.power.rails.length := by
  and_intros <;> first | rfl | decide

theorem witness_startSteps :
    (atStage (.step 1 0) ready).Inv ∧ (atStage (.step 4 0) ready).Inv ∧ (atStage (.step 3 2) ready).Inv ∧
    (atStage (.step 3 3) ready).Inv ∧ ((atStage (.step 3 3) ready).onPower fun w => { w with wake := true }).Inv ∧
    (atStage (.step 3 2) ready).power.wake = false ∧ (atStage (.step 1 2) (asking 0 .wake 0 ready)).Inv ∧
    (atStage (.step 1 3) (asking 0 .wake 0 ready)).Inv := by
  and_intros <;> first | rfl | decide

theorem witness_startPhases :
    (atStage (.phase .a) ready).Inv ∧ (atStage (.phase .b) ready).Inv ∧ (atStage (.phase .c) ready).Inv ∧
    (atStage (.phase .d) ready).Inv ∧ (atStage (.phase .e) ready).Inv ∧ (atStage (.phase .f) ready).Inv ∧
    (atStage (.phase .g) (ready.onCal fun c => { c with loading := true })).Inv ∧ (atStage (.phase .h) ready).Inv ∧
    ((atStage (.phase .h) ready).onPower fun w => { w with wakeFailed := true }).Inv ∧
    ready.inRole false .trial = none ∧ ready.inRole false .pending = none ∧ ready.imageValid 0 = false ∧
    ready.imageValid (otherSlot 0) = false ∧ (pendingImage 1 ready).inRole false .pending = some 1 ∧
    (pendingImage 1 ready).imageValid 1 = false ∧ (pendingImage 0 ready).inRole false .pending = some 0 ∧
    (atStage (.phase .c) (pendingImage 1 ready)).Inv ∧ (onTrial 1 ready).inRole false .trial = some 1 ∧
    (atStage (.phase .c) (onTrial 1 ready)).Inv ∧ ready.chooseCopy = none ∧ ready.inRole true .trial = none ∧
    ready.inRole true .pending = none ∧ ready.plateReason 2 true = 1 ∧ (pendingImage 3 ready).inRole true .pending = some 3 ∧
    ready.power.stage = .complete ∧
    (recorded ready).newestRecord = some (true, { seq := 2, starts := 7 }) ∧ (atStage (.phase .b) (recorded ready)).Inv ∧
    (unrecorded ready).newestRecord = none ∧ (atStage (.phase .b) (unrecorded ready)).Inv ∧
    (onTrial 3 ready).inRole true .trial = some 3 ∧ (atStage (.phase .c) (onTrial 3 ready)).Inv := by
  and_intros <;> first | rfl | decide

/-- The ACTIVE firmware is valid; it is the other slot's where slot 1 is ACTIVE; a PENDING one is valid. -/
theorem witness_validFirmware :
    let s := signedImage ready
    s.activeSlot false = 0 ∧ s.imageValid 0 = true ∧
    ((s.onImage 0 fun x => { x with role := .none }).onImage 1 fun x => { x with role := .active }).activeSlot false = 1 ∧
    otherSlot 1 = 0 ∧ s.imageValid 1 = false := by decide +kernel

theorem witness_wakesAndDomains :
    0x5C + field (ready.rd .glbStrap) 0 2 = 92 ∧ squelchWakes 1 [(true, 2 * usec)] = true ∧
    squelchWakes 1 [(true, 2 * usec - 1)] = false ∧ squelchWakes 0 [(true, 2 * usec)] = false ∧
    squelchWakes 2 [(true, 5 * usec), (false, 20 * usec), (true, 5 * usec), (false, usec), (true, 5 * usec)] = true ∧
    squelchWakes 2 [(true, 5 * usec), (false, 20 * usec + 1), (true, 5 * usec), (false, usec), (true, 5 * usec)] = false ∧
    bit ready.wakeNow 0 = true ∧ bit ready.wakeNow 1 = true ∧ bit (ready.wr .pwrWakeCfg 0 |>.wakeNow) 0 = false ∧
    (ready.wr .pwrWakeCfg 0).Inv ∧ field ready.wakeNow 4 2 = 0 ∧ field (ready.wr .pwrWakeCfg 0x90 |>.wakeNow) 4 2 = 1 ∧
    field (ready.wr .pwrWakeCfg 0x90 |>.wakeNow) 6 2 = 2 ∧ bit (asleep ready).wakeNow 0 = true ∧
    ((asleep ready).onPower fun w => { w with wakeCfg := 0x10 }).Inv ∧ (entering .sleep 2 ready).Inv ∧
    (entering .sleep 2 ready).power.trans = some { target := .sleep, source := .standby, port := .A, step := 2 } ∧
    (atStage (.phase .h) (ready.onPower fun w => { w with wake := true })).wakeRuns = true ∧
    (atStage (.phase .h) (ready.onPower fun w => { w with wake := true })).Inv ∧
    bit (atStage (.phase .h) (ready.onPower fun w => { w with wake := true })).wakeNow 0 = true ∧
    (entering .sleep 2 ready).wakeRuns = false ∧ (entering .sleep 2 ready).power.state = .standby ∧
    (ready.onPort .A fun x => { x with sclHeld := true }).Inv ∧ (ready.port .A).sclHeld = false ∧
    ready.power.rising.getLsbD (domBit .bulk) = false ∧
    (rising (entering .run 2 ready)).Inv ∧ (rising (entering .run 2 ready)).power.rising.getLsbD (domBit .arrL) = true ∧
    (rising (entering .run 2 ready)).domOn .arrR = true ∧ (rising (entering .run 2 ready)).inStep .run 2 = true ∧
    (rising (entering .run 2 ready)).power.rising.getLsbD (domBit .phyA) = true ∧
    bit ((linked .disabled (rising ready)).rd .lnkCtrl) 0 = true ∧ ((linked .disabled (rising ready)).link .A).state = .disabled ∧
    (linked .disabled (rising ready)).Inv ∧ running.asleepNow = false ∧ (asleep ready).asleepNow = true ∧
    running.controlOn = true ∧ running.power.cpuHalt = false ∧ (running.onPower fun w => { w with cpuHalt := true }).Inv := by
  and_intros <;> first | rfl | decide

theorem witness_flashOperations :
    ready.power.trans = none ∧ (ready.addJob .trims).Inv ∧ FlashJob.trims ∈ (ready.addJob .trims).boot.jobs ∧
    FlashJob.settings ∈ (ready.addJob .settings).boot.jobs ∧ FlashJob.bootRecord ∈ (ready.addJob .bootRecord).boot.jobs ∧
    (customer .read ready).Inv ∧ (customer .read ready).boot.cust = some .read ∧
    (customer .erase ready).boot.cust = some .erase ∧ (customer .program ready).boot.cust = some .program ∧
    (ready.addJob .bootRecord).Inv ∧ (customer .read ready).flashSpoilt customerBase 4096 = false ∧
    ((customer .read ready).flashFails customerBase).flashSpoilt customerBase 4096 = true ∧
    ((customer .read ready).flashFails customerBase).Inv ∧
    FlashJob.trims ∉ ready.boot.jobs ∧ ready.boot.cust = none ∧ (ready.onBoot fun b => { b with bist := some 1 }).Inv ∧
    ready.boot.bist = none ∧ (ready.onCal fun c => { c with loading := true }).Inv ∧ ready.cal.loading = false ∧
    ready.cal.store.length = 16 ∧ ready.cal.source.length = 16 ∧ (session 0 [] true ready).Inv ∧
    (session 0 [] true ready).session false = some { size := 0x100, words := [], buffer := [], erasing := true } ∧
    (session 1 [(0, 7)] false ready).session (!false) = none := by
  and_intros <;> first | rfl | decide

/-! ### Guardian and faults -/

theorem witness_noInjection (i : Nat) : running.injOn i = false := by
  simp [State.injOn, running]

theorem witness_guardian :
    running.guard.inj = 0 ∧ ready.pair false = contacts ∧ State.reset.pair true = {} ∧
    (paired { state := .closing, c1 := true, timer := some (0, 10) } running).Inv ∧
    (paired { state := .closing, c1 := true, timer := some (0, 10) } running).pair false =
      { state := .closing, c1 := true, timer := some (0, 10) } ∧
    (paired { state := .opening, c2 := true, timer := some (0, 10) } running).Inv ∧
    (paired { state := .discrepancy, c1 := true } running).Inv ∧ running.asleepNow = false ∧
    (paired { state := .closing, c1 := true, timer := some (0, 10) } (asleep ready)).asleepNow = true ∧
    (paired { state := .closing, c1 := true, timer := some (0, 10) } (asleep ready)).Inv ∧
    (running.pair true).timer = none ∧ (output { cmd := true, rb := true, offDemand := some (0, 10) } running).Inv ∧
    running.guard.po1.offDemand = none ∧ running.guard.po1.cmd = true ∧ running.guard.po1.pulse = false ∧
    (output { cmd := true, rb := true, offDemand := some (0, 10) } (awaited running)).candWaits = true ∧
    running.power.vin = true ∧ (unpowered ready).power.vin = false ∧
    (paired { state := .closing, c1 := true, first := false, timer := some (0, 10) } running).Inv ∧
    running.guard.po1.testing = false ∧
    (let o := output { cmd := true, rb := true, offDemand := some (0, 10) } running
     (0 + 10) / aonCycle ≤ (o.advance (o.guard.pulseAt false 0)).now / aonCycle) ∧
    bit ((running.wr .safTestCfg 0x3000000).rd .safTestCfg) 24 = true ∧ bit ((running.wr .safTestCfg 0).rd .safTestCfg) 24 = false ∧
    (output { cmd := true, pulse := true } running).Inv ∧ (output { cmd := true, pulse := true, discard := true } running).Inv ∧
    (output { cmd := true, pulse := true, taken := true } running).Inv ∧
    (output { cmd := true, rb := true, verify := true } running).Inv ∧ running.guard.po1.verify = false ∧
    running.runLike = true := by
  and_intros <;> first | rfl | decide

theorem witness_guardianWatch :
    (running.onPower fun w => { w with hbSent := some (0, 10) }).Inv ∧
    (running.onPower fun w => { w with hbSent := some (0, 10) }).beating = true ∧
    (running.onPower fun w => { w with hbSent := some (0, 10), cpuHalt := true }).beating = false ∧
    (watched { inj := 0x10, injWas := 0x10 } running).injOn 4 = true ∧ (watched { inj := 0x10, injWas := 0x10 } running).Inv ∧
    running.injOn 4 = false ∧ running.power.vin = true ∧ running.guard.restartAt = none ∧
    (watched { restartAt := some 5 } running).guard.restartAt.isSome ∧
    running.guard.armed = false ∧ (watched { armed := true, lastBeat := 255 } running).guard.lastBeat + 1 = 0 ∧
    (watched { armed := true, lastBeat := 255 } running).Inv ∧ running.guard.action = false ∧
    (watched { armed := true, action := true } ready).Inv ∧ (watched { armed := true, action := true, goodBeats := 15 } ready).Inv ∧
    0 + 1 < ready.fld .safHbCfg 8 4 ∧ ready.fld .safHbCfg 8 4 ≤ 15 + 1 ∧
    (~~~(0 : Byte) ≠ 0) ∧ (watched { armed := true, badBeats := 1 } running).Inv ∧
    (watched { armed := true, hbTimer := some (0, 10) } running).Inv ∧ bit (running.rd .safHbCfg) 12 = false ∧
    bit ((running.wr .safHbCfg 0x1400).rd .safHbCfg) 12 = true ∧ running.guard.haltTold = false ∧
    (watched { armed := true, faTimer := some (0, 10) } running).Inv ∧ (watched { armed := true, faTimer := some (0, 10) } running).faRuns = true ∧
    (watched { armed := true, faTimer := some (0, 10) } (halted running)).faRuns = false ∧ running.guard.faLatched = false ∧
    running.guard.faDiffs = 0 ∧ (watched { faEdgeAt := some 0 } running).Inv ∧ running.guard.faEdgeAt = none ∧
    (watched { faEdgeAt := some 0, faDiffs := 1 } running).Inv ∧ (watched { faEdgeAt := some 0, faLatched := true } running).Inv ∧
    (dark running).Inv ∧ (dark running).po1Ok = true ∧ (dark running).guard.darkWait = true ∧
    (dark running).power.relightStep = 0 ∧ (dark running).guard.po1.cmd = false ∧ (dark running).guard.po1.pulse = false ∧
    (dark running).guard.po2.rb = false ∧ (dark running).power.rails.length = 4 ∧ ((dark running).rail 3).req = none ∧
    ready.po1Ok = false := by
  and_intros <;> first | rfl | decide

theorem witness_faultCollection :
    running.controlOn = true ∧ (running.onPower fun w => { w with stage := .waiting }).controlOn = false ∧
    unusedSource 0x10 = false ∧ bit (running.rd .fltFirst) 31 = false ∧
    bit ((running.wr .fltFirst 0x80000010).rd .fltFirst) 31 = true ∧ (running.wr .fltFirst 0x80000010).Inv ∧
    running.window 0x10 running.timeBase = none ∧ running.faults.buffer.length < 64 ∧
    (windowed running).Inv ∧ (windowed running).faults.windows.find? (fun e => e.1 == 0x10) = some (0x10, 0, 1) ∧
    running.faults.windows.find? (fun e => e.1 == 0x10) = none ∧ flipped.faults.buffer = [[1, 0, 0, 0, 0, 0, 0, 0]] ∧
    flipped.power.trans = none ∧ running.faults.buffer = [] := by
  and_intros <;> first | rfl | decide

/-- Each of the classes 0 to 4 is that of some source with the plate's matrix. -/
theorem witness_classes : ∀ c, c < 5 → ((matrix running).classes (0x10 + c)).1 = c := by decide

/-! ### The whole block -/

theorem witness_steps :
    ((queued .A running).serveNext .A).quiet ∧ running.nextTie = .A ∧ otherPort .B = running.nextTie ∧
    ((queued .A running).tie.serveNext .A).ready .A = false ∧
    (chosen .B running).thisCycle.chosen = some .B ∧ (chosen .B { running with nextTie := .B }).nextTie = .B ∧
    (chosen .B running).nextTie ≠ .B ∧ ((queued .B running).retie .A).nextTie = .A ∧
    ((queued .B { running with nextTie := .B }).retie .A).nextTie = otherPort .A ∧
    (((queued .B { running with nextTie := .B }).retie .A).tie.serveNext .B).ready .B = false ∧
    running.Inv ∧ running.pending = [] ∧ running.ready .A = false ∧ running.ready .B = false ∧
    (queued .A running).Inv ∧ (queued .A running).arbFree ≤ (queued .A running).now ∧ (queued .A running).ready .A = true ∧
    (queued .A running).ready .B = false ∧ (queued .B (queued .A running)).ready .A = true ∧
    (queued .B (queued .A running)).ready .B = true ∧ (queued .B (queued .A running)).Inv ∧
    ({ running with arbFree := 1 } : State).now < 1 ∧ Memory.wf running.mem = true := by
  and_intros <;> first | rfl | decide +kernel

/-- A lane and the lanes of a packet for the line code. -/
theorem witness_lineCode :
    ({ disp := some false } : Lane).viols.length < 4 ∧ (∀ e ∈ [Sym.comma, .data 7], e = .comma ∨ ∃ b, e = .data b) ∧
    (let l := (stripe 3 Sym.comma ((bytesOfWords [1, 2]).map .data)).map fun l =>
        { framed := true, held := (some .sop :: (l.map some ++ [some .eop])).reverse : Lane }
     l.length = 3 ∧ l.map frameBody =
       (stripe 3 Sym.comma ((bytesOfWords [1, 2]).map .data)).map fun l => some (l.map some)) := by
  refine ⟨by decide, ?_, by decide⟩
  intro e he
  simp only [List.mem_cons, List.not_mem_nil, or_false] at he
  exact he.imp_right fun h => ⟨7, h⟩

/-- Each kind of completion is quiet or not. -/
theorem witness_completions :
    128 ≤ 0x90 ∧ (0x90 % 128 ≠ 0x02 ∧ 0x90 % 128 ≠ 0x08) ∧ 0x82 % 128 = 0x02 ∧ Status.busy ≠ .ok ∧
    (∀ p, (running.begun p .bus).Inv) := by
  refine ⟨by decide, by decide, by decide, by decide, fun p => ?_⟩
  cases p <;> decide

/-! ### Ill-formed terms -/

/-- One ill-formed term for each check, and the like term that is well-formed. -/
theorem test_wellFormed :
    (∀ i ∈ ([.nop (cmd 0) [1], .nop (cmd 65536) [], .streamBlock .A (List.replicate 17 0), .slotOpen .A .bus 64,
        .fenceSet .A .bus 16 0, .registerWrite .A .bus (2 ^ 32) 0, .loHalfRead .A .bus (2 ^ 32), .chainRead .A .bus 32,
        .paletteWrite .A .bus 8 0 0, .paletteWrite .A .bus 0 256 0, .maskSetHost .A .bus 16 0 0,
        .maskSetHost .A .bus 0 1024 0, .maskClear .A .bus 0 0 64, .readmit .A .bus 16 0, .pixselWrite .A .bus 16 0,
        .tilAdcStart .A .bus 0 0, .adcStart .A .bus 4 1, .calZero .A .bus 16 0, .calFull .A .bus 0 16,
        .ucalReset .A .bus 16 0, .calZero .A .bus 0 16, .fltInjWrite .A .bus 0 [⟨128, 0⟩]] : List Instr),
      i.wf = false) ∧
    (∀ i ∈ ([.activate .A .bus 2 0, .activateNow .A .bus 0 2, .lcReq .A .bus 8, .keyProgram .A .bus 4, .keyRevoke .A .bus 4,
        .bistGo .A .bus 256, .bistDone [], .chkCfgWrite .A .bus 4 0, .chkStateWrite .A .bus 4 0, .chkData8 .A .bus 4 0,
        .chkData16 .A .bus 4 0, .chkData32 .A .bus 4 0, .chkScanGo .A .bus 4, .chkScanEnd 4, .pmcCntWrite .A .bus 32 0,
        .pmcSelWrite .A .bus 32 0, .programBufferDrain (2 ^ 32), .ackReceived .A (List.replicate 5 []),
        .nakReceived .A (List.replicate 5 []), .dataPacket .A (List.replicate 5 []), .markerColumn .A (List.replicate 5 default),
        .symbolLock .A 4 [] false [], .symbolLock .A 0 [] false (List.replicate 17 0)] : List Instr),
      i.wf = false) ∧
    (∀ i ∈ ([.hostCap .A (List.replicate 5 []), .tsAckReceived .A (List.replicate 5 []), .tsIgnored .A (List.replicate 5 []),
        .laneFault .A 4 .los, .prbsWindowDone .A 4 [], .prbsLockTimeout .A 4, .checkerLock .A 4 [] [],
        .mbWriteGroup .A (some ⟨128, none⟩) 0, .mbReadWord .A (some ⟨0, some (2 ^ 32)⟩), .litSample [⟨2048, 0, true, 0⟩], .darkSample [⟨0, 512, true, 0⟩],
        .cycleBoundary [2 ^ 20], .d2dTransferFail .L (some (2 ^ 16)), .nativeWake .A 128 true, .proofCompare 16, .sealCheck .output 2048 0 0, .storeEccError 16, .fenceTimeout (.group 16),
        .avsAcknowledge 4, .avsNack 4, .avsTimeout 4, .avsStatusPoll 4 true, .calStepEnd 16 true, .roundStall 16,
        .scheduledConversion 16] : List Instr),
      i.wf = false) ∧
    (∀ i ∈ ([.conversionDone 20 0, .conversionDone 0 65536, .urgentRequest 32, .hostConversionStart 20, .groupDone [65536],
        .start 16, .inputAccepted [(4, true)], .faultEvent [⟨0, 65536⟩], .windowElapse 128,
        .memoryEccError (.layerMem (2 ^ 32)) false, .memoryEccError (.flash 0x2000000) false, .memoryEccError (.storeroom 16) false, .memoryEccError (.logRecord (2 ^ 32)) false,
        .memoryEccError (.tileStore true (2 ^ 20)) false] : List Instr),
      i.wf = false) ∧
    (∀ i ∈ ([.nop (cmd 1) [1], .slotOpen .A .bus 63, .adcStart .A .bus 3 1, .dataPacket .A (lined (packet 1 0)), .faultEvent [⟨127, 65535⟩],
        .fenceTimeout (.group 15), .memoryEccError (.flash 0x1FFFFFF) true, .relight] : List Instr),
      i.wf = true) := by
  and_intros <;> decide +kernel

/-! ### The line code -/

/-- Entries of the tables of IEEE 802.3, Clause 36, which R298 names: D0.0, D21.5, D7.3, D17.7 and K28.5 at either
disparity, and code groups that are no entry, or one of the other disparity only. -/
theorem test_lineCode :
    encodeSym false (.data 0x00) = 0b1001110100 ∧ encodeSym true (.data 0x00) = 0b0110001011 ∧
    encodeSym false (.data 0xB5) = 0b1010101010 ∧ encodeSym true (.data 0xB5) = 0b1010101010 ∧
    encodeSym false (.data 0x67) = 0b1110001100 ∧ encodeSym true (.data 0x67) = 0b0001110011 ∧
    encodeSym false (.data 0xF1) = 0b1000110111 ∧ encodeSym true (.data 0xF1) = 0b1000110001 ∧
    encodeSym false .comma = 0b0011111010 ∧ encodeSym true .comma = 0b1100000101 ∧
    symAt false 0b1111111111 = none ∧ symAt true 0b1001110100 = none ∧ symAt false 0b1010101010 = some (.data 0xB5) ∧
    symAt false 0b1111010111 = none := by
  and_intros <;> decide +kernel

/-- R306: the check byte of a training set is the NOT of the XOR of the five bytes before it. -/
theorem test_checkByte :
    ({ code := 2, lane := 0, b4 := 3, b5 := 0, b6 := 0 } : TrainSet).check = 0xFE := by decide

/-! ### Worked examples of the manual -/

/-- R555: the check values of "123456789" under the four algorithms. -/
theorem test_checkValues :
    let s : List Byte := [0x31, 0x32, 0x33, 0x34, 0x35, 0x36, 0x37, 0x38, 0x39]
    crcOf 0 s = 0xCBF43926 ∧ crcOf 1 s = 0xE3069283 ∧ crcOf 2 s = 0x29B1 ∧ crcOf 3 s = 0x4B := by
  and_intros <;> decide +kernel

/-- "Locating a pixel" (after R13): pixel (1,234, 300). -/
theorem test_locate :
    tileOf 1234 300 = 307 ∧ regionOf 1234 300 = 12 ∧ sinkOf 1234 300 = 82 ∧ groupAttics 1 = [2, 3] ∧
    pixelOf 307 4 82 = (1234, 300) := by
  and_intros <;> decide

/-- "One palette value in S0 and S2" (after R134) and "a budget clip": charge, split, scale factor and V_req. -/
theorem test_driveWords :
    chargeOf { mode := 0, blank := 256 } 3061 = 768370 ∧ splitOf 64 16128 768370 = (64, 3001, 2) ∧
    chargeOf { mode := 0, blank := 256 } 61183 = 15358123 ∧ splitOf 64 16128 15358123 = (239, 16065, 0) ∧
    vreqOf (vreqRaw 2850 60 4894720 250 0) = 3395 ∧ vreqOf (vreqRaw 2850 60 1310720 250 0) = 3180 := by
  and_intros <;> decide

/-- "One step and its commit" (after R411): gain and trim of working sink 82 of tile 307. -/
theorem test_calibrationStep :
    State.reset.gradeAgainst (State.reset.rd .calCfg)
      { r0 := 252605, r1 := 757432, r2 := 1262258, r3 := 1767085, rref := 2516580, regOk := true } (some 131179) 5 =
    (131465, .pass (-13), State.reset) := by decide +kernel

/-- The worked example of the user calibration (after R446). -/
theorem test_userCalibration :
    (calibrated 4 .zero 9574 false running).ucalEnd.adc.zero = some (4, 37) ∧
    tabGet (0, 32768) ((calibrated 4 .full 15690930 false running).onAdc fun a =>
      { a with zero := some (4, 37) }).ucalEnd.adc.coef 4 = (37, 32866) ∧
    correct 30700 37 32866 65535 = 30755 ∧ correct 61293 37 32866 65535 = 61439 := by
  and_intros <;> decide +kernel

end Sys2Proof.Tests
end

section
/-! SUPPORT. Where the registers stand (R610, R611, R620): every register of the map is found at its address. -/

namespace Sys2Proof.Machine

/-! ### Rows of a register table -/

/-- Bytes from the first register of a group of a row to its last. -/
def RegRow.width (r : RegRow) : Nat := r.inner * (r.each - 1)

/-- Bytes from the first register of a row to its last. -/
def RegRow.span (r : RegRow) : Nat := r.stride * (r.count - 1) + r.width

/-- The registers of a row stand at addresses of their own. -/
def RegRow.spread (r : RegRow) : Bool :=
  (decide (r.count = 1) || decide (r.width < r.stride)) && (decide (r.each = 1) || decide (0 < r.inner))

/-- The registers of a row are words, inside their block. -/
def RegRow.inside (r : RegRow) : Bool :=
  decide (r.off + r.span < r.blk.size) && decide (r.off % 4 = 0) && decide (r.stride % 4 = 0) &&
    decide (r.inner % 4 = 0)

/-- No register of one row stands where one of the other does: one row ends below the other, or in every stride of both
the registers of one end below those of the other. -/
def RegRow.apart (a b : RegRow) : Bool :=
  decide (a.off + a.span < b.off) || decide (b.off + b.span < a.off) ||
  (decide (a.stride = b.stride) &&
    ((decide (a.off % a.stride + a.width < b.off % b.stride) && decide (b.off % b.stride + b.width < b.stride)) ||
     (decide (b.off % b.stride + b.width < a.off % a.stride) && decide (a.off % a.stride + a.width < a.stride))))

theorem regs_apart (b : Block) : (b.regs.map Reg.row).Pairwise fun x y => x.apart y = true := by
  cases b <;> decide +kernel

theorem row_placed (r : Reg) : (r.row.blk.regs.contains r && r.row.spread && r.row.inside) = true := by
  cases r <;> rfl
theorem regs_row (r : Reg) : r ∈ r.row.blk.regs := by
  have h := row_placed r
  simp only [Bool.and_eq_true] at h
  simpa using h.1.1

theorem row_spread (r : Reg) : r.row.spread = true := by
  have h := row_placed r
  simp only [Bool.and_eq_true] at h
  exact h.1.2

theorem row_inside (r : Reg) : r.row.inside = true := by
  have h := row_placed r
  simp only [Bool.and_eq_true] at h
  exact h.2

/-! ### Offsets and indices -/

/-- Offset in its block of the register with indices `(k, j)`. -/
def RegRow.at (r : RegRow) (k j : Nat) : Nat := r.off + r.stride * k + r.inner * j

theorem inner_le_width {r : RegRow} {j : Nat} (hj : j < r.each) : r.inner * j ≤ r.width :=
  Nat.mul_le_mul_left _ (by omega)

theorem at_le {r : RegRow} {k j : Nat} (hk : k < r.count) (hj : j < r.each) : r.at k j ≤ r.off + r.span := by
  have h1 : r.stride * k ≤ r.stride * (r.count - 1) := Nat.mul_le_mul_left _ (by omega)
  have h2 := inner_le_width hj
  simp only [RegRow.at, RegRow.span]
  omega

/-- A register found at an offset stands there. -/
theorem at_of_indexOf {r : RegRow} {o k j : Nat} (h : r.indexOf o = some (k, j)) :
    k < r.count ∧ j < r.each ∧ o = r.at k j := by
  unfold RegRow.indexOf at h
  by_cases ho : o < r.off
  · rw [if_pos ho] at h; cases h
  · simp only [if_neg ho, Option.ite_none_right_eq_some, Option.some.injEq, Prod.mk.injEq] at h
    obtain ⟨⟨hk, hj, he⟩, rfl, rfl⟩ := h
    refine ⟨hk, hj, ?_⟩
    have hd : r.stride * (if r.count = 1 then 0 else (o - r.off) / r.stride) ≤ o - r.off := by
      split
      · simp
      · exact Nat.mul_div_le _ _
    simp only [RegRow.at]
    omega

/-- In a row whose registers stand apart, the register with indices `(k, j)` is found at its offset. -/
theorem indexOf_at {r : RegRow} (hs : r.spread = true) {k j : Nat} (hk : k < r.count) (hj : j < r.each) :
    r.indexOf (r.at k j) = some (k, j) := by
  simp only [RegRow.spread, Bool.and_eq_true, Bool.or_eq_true, decide_eq_true_eq] at hs
  obtain ⟨hc, he⟩ := hs
  have hw := inner_le_width hj
  have hd : r.at k j - r.off = r.inner * j + r.stride * k := by simp only [RegRow.at]; omega
  have hk' : (if r.count = 1 then 0 else (r.inner * j + r.stride * k) / r.stride) = k := by
    split
    · omega
    · rw [Nat.add_mul_div_left _ _ (by omega), Nat.div_eq_of_lt (by omega), Nat.zero_add]
  have hj' : (if r.each = 1 then 0 else r.inner * j / r.inner) = j := by
    split
    · omega
    · exact Nat.mul_div_cancel_left _ (by omega)
  unfold RegRow.indexOf
  rw [if_neg (by simp only [RegRow.at]; omega)]
  simp only [hd, hk', Nat.add_sub_cancel, hj', and_true]
  rw [if_pos ⟨hk, hj⟩]

/-- Where a register of a row stands, none of a row apart from it does. -/
theorem indexOf_apart {a b : RegRow} (h : a.apart b = true) {k j : Nat} (hk : k < b.count) (hj : j < b.each) :
    a.indexOf (b.at k j) = none := by
  cases hi : a.indexOf (b.at k j) with
  | none => rfl
  | some e =>
    obtain ⟨ha, hb, ho⟩ := at_of_indexOf hi
    have h1 := at_le ha hb
    have h2 := at_le hk hj
    have h3 := inner_le_width hb
    have h4 := inner_le_width hj
    have hlow : ∀ (r : RegRow) (i n : Nat), r.off ≤ r.at i n := fun r i n => by simp only [RegRow.at]; omega
    have h5 := hlow a e.1 e.2
    have h6 := hlow b k j
    have hmod : ∀ (r : RegRow) (i n : Nat), r.at i n % r.stride = (r.off % r.stride + r.inner * n) % r.stride :=
      fun r i n => by
        rw [RegRow.at, Nat.add_right_comm, Nat.add_mul_mod_self_left, Nat.mod_add_mod]
    simp only [RegRow.apart, Bool.or_eq_true, Bool.and_eq_true, decide_eq_true_eq] at h
    rcases h with (h | h) | ⟨hst, h⟩
    · omega
    · omega
    · have hm : b.at k j % b.stride = a.at e.1 e.2 % b.stride := by rw [ho]
      have ha' := hmod a e.1 e.2
      have hb' := hmod b k j
      rw [hst] at ha' h
      have hlt : a.off % b.stride + a.inner * e.2 < b.stride ∧ b.off % b.stride + b.inner * j < b.stride := by omega
      rw [Nat.mod_eq_of_lt hlt.1] at ha'
      rw [Nat.mod_eq_of_lt hlt.2] at hb'
      omega

/-- In a list of rows apart, the register of a row is found at its offset. -/
theorem findReg_at {l : List Reg} (h : (l.map Reg.row).Pairwise fun x y => x.apart y = true) {r : Reg} (hr : r ∈ l)
    {k j : Nat} (hk : k < r.row.count) (hj : j < r.row.each) : findReg (r.row.at k j) l = some (r, k, j) := by
  induction l with
  | nil => simp at hr
  | cons x l ih =>
    rw [List.map_cons, List.pairwise_cons] at h
    obtain ⟨hx, hl⟩ := h
    rcases List.mem_cons.mp hr with rfl | hm
    · simp only [findReg, indexOf_at (row_spread r) hk hj]
    · simp only [findReg, indexOf_apart (hx _ (List.mem_map_of_mem hm)) hk hj]
      exact ih hl hm

/-! ### Addresses -/

theorem blocks_apart : Block.all.Pairwise fun x y => x.base + x.size ≤ y.base := by decide

/-- In a list of blocks apart, the block of a range is found at every address of the range. -/
theorem blockOf_range {l : List Block} (h : l.Pairwise fun x y => x.base + x.size ≤ y.base) {b : Block} (hb : b ∈ l)
    {a : Nat} (ha : b.base ≤ a) (he : a < b.base + b.size) : blockOf a l = some b := by
  induction l with
  | nil => simp at hb
  | cons x l ih =>
    rw [List.pairwise_cons] at h
    obtain ⟨hx, hl⟩ := h
    rcases List.mem_cons.mp hb with rfl | hm
    · rw [blockOf, if_pos ⟨ha, he⟩]
    · have := hx b hm
      rw [blockOf, if_neg (by omega), ih hl hm]

theorem mem_all (b : Block) : b ∈ Block.all := by cases b <;> decide

theorem base_add_lt (b : Block) {o : Nat} (h : o < b.size) : b.base + o < bulkBase := by
  cases b <;> simp only [Block.size] at h <;> simp only [Block.base, bulkBase] <;> omega

theorem four_dvd_base (b : Block) : 4 ∣ b.base := by cases b <;> decide

/-- Every register of the map is found at its address (R610, R620). -/
theorem place_addr (r : Reg) {k j : Nat} (hk : k < r.row.count) (hj : j < r.row.each) :
    place (r.addr k j) = .reg r.row.blk r k j := by
  have hin := row_inside r
  simp only [RegRow.inside, Bool.and_eq_true, decide_eq_true_eq] at hin
  obtain ⟨⟨⟨hend, h1⟩, h2⟩, h3⟩ := hin
  have ha : r.addr k j = r.row.blk.base + r.row.at k j := by simp only [Reg.addr, RegRow.at]; omega
  have hlt : r.row.at k j < r.row.blk.size := Nat.lt_of_le_of_lt (at_le hk hj) hend
  have hbulk := base_add_lt r.row.blk hlt
  have hmod : (r.row.blk.base + r.row.at k j) % 4 = 0 :=
    Nat.mod_eq_zero_of_dvd (Nat.dvd_add (four_dvd_base _)
      (Nat.dvd_add (Nat.dvd_add (Nat.dvd_of_mod_eq_zero h1) (Nat.dvd_mul_right_of_dvd (Nat.dvd_of_mod_eq_zero h2) k))
        (Nat.dvd_mul_right_of_dvd (Nat.dvd_of_mod_eq_zero h3) j)))
  have hc : bulkBase ≤ cellarBase := by decide
  rw [ha, place, if_neg (by omega), if_neg (by omega), blockOf_range blocks_apart (mem_all r.row.blk) (by omega) (by omega)]
  simp only [hmod, if_true, Nat.add_sub_cancel_left, findReg_at (regs_apart _) (regs_row r) hk hj]

end Sys2Proof.Machine
end

section
/-! SUPPORT. Register writes that one port requests while none waits (R16 to R25): from the request to the effect of its
register. -/

namespace Sys2Proof.Machine

variable {s : State}

/-! ### Between two commands -/

theorem inv_begun (h : s.Inv) (p : Port) (w : Path) : (s.begun p w).Inv :=
  inv_congr (by simp) (by simp) (by simp) (by simp) (by simp) (by simp) (by simp) h

/-- A request whose effect ends between two commands ends there. -/
theorem finish_ended {u : State} (h : u.Inv) (p : Port) (w : Path) (st : Status) :
    finish (u.ended p w st) = .next (u.ended p w st) :=
  finish_of_inv (inv_ended p w st rfl rfl rfl rfl rfl rfl rfl h)

/-! ### Refusals that rank before BLOCK_OFF -/

/-- The registers that a code of R25 before BLOCK_OFF can refuse. -/
def earlyRegs : List Reg :=
  [.lyrSlotCmd, .cmpCommit, .cmpFenceSig, .pwrReq, .chkScanCtl, .fltInj, .safInj, .botKeyCmd]

theorem earlyRefusal_of_not_mem (s : State) {r : Reg} (h : r ∉ earlyRegs) (k : Nat) (v : Word) :
    s.earlyRefusal r k v = none := by
  unfold State.earlyRefusal
  split <;> simp_all [earlyRegs]

/-- But for the address of a scan, which is a register, what ranks before BLOCK_OFF stands when the service begins. -/
theorem earlyRefusal_begun {r : Reg} (h : r ≠ .chkScanCtl) (p : Port) (w : Path) (k : Nat) (v : Word) :
    (s.begun p w).earlyRefusal r k v = s.earlyRefusal r k v := by
  unfold State.earlyRefusal
  split <;> simp_all

/-! ### From a request to its effect -/

/-- A write of a register of an answering block that nothing refuses before BLOCK_OFF has the register's effect. -/
theorem regWrite_addr {p : Port} {w : Path} {r : Reg} {k j : Nat} {v : Word} (ha : s.answers r k)
    (hk : k < r.row.count) (hj : j < r.row.each) (he : r ∉ earlyRegs) :
    (s.begun p w).regWrite p (r.addr k j) v = (s.begun p w).writeReg p r k j v :=
  regWrite_reg (place_addr r hk hj) (earlyRefusal_of_not_mem _ he k v) (answers_begun ha p w)

/-- A state after a request is at rest where the effect keeps what holds between two commands. -/
theorem rests_written {p : Port} {w : Path} {st : Status} {f : State → State} (h : (f (s.begun p w)).Inv) :
    (s.written p w st f).rests = s.written p w st f :=
  Host.Outcome.next.inj (finish_ended h p w st)

/-- A write request before which none waits, by the effect of its address. -/
theorem finish_writeRequest {p : Port} {w : Path} {a : Nat} {v : Word} {st : Status} {f : State → State}
    (hc : s.controlOn = true) (hq : s.quiet) (hw : (s.begun p w).regWrite p a v = (st, f (s.begun p w))) :
    finish (s.writeRequest p w a v) = .next (s.written p w st f).rests := by
  rw [writeRequest_eq hc hq hw]
  rfl

theorem finish_writeRequest_of_inv {p : Port} {w : Path} {a : Nat} {v : Word} {st : Status} {f : State → State}
    (hc : s.controlOn = true) (hq : s.quiet) (hw : (s.begun p w).regWrite p a v = (st, f (s.begun p w)))
    (hi : (f (s.begun p w)).Inv) : finish (s.writeRequest p w a v) = .next (s.written p w st f) :=
  (finish_writeRequest hc hq hw).trans (congrArg _ (rests_written hi))

/-! ### Writes by kind of access (R16) -/

theorem writeReg_plain {r : Reg} (h : r ∈ plainRegs) (s : State) (p : Port) (k j : Nat) (v : Word) :
    s.writeReg p r k j v = s.plain p r k j v := by
  simp only [plainRegs, List.mem_cons, List.not_mem_nil, or_false] at h
  repeat' rcases h with rfl | h
  all_goals rfl

theorem writeReg_ro {r : Reg} (h : r.row.acc = .ro) (s : State) (p : Port) (k j : Nat) (v : Word) :
    s.writeReg p r k j v = (.ok, s) := by
  cases r <;> cases h <;> rfl

theorem writeReg_w1c {r : Reg} (h : r.row.acc = .w1c) (s : State) (p : Port) (k j : Nat) (v : Word) :
    s.writeReg p r k j v =
      (.ok, (if r = .adcEvent then s.syncGroup s.now else if r = .pmcOvf then s.countsNow else s).clearOnes p r k j v) := by
  cases r <;> cases h <;> rfl

/-- The registers that a plate locks and whose writes do nothing else than to be written. -/
theorem writeReg_locked {r : Reg} (h : r ∈ [.scnDiagVth, .safInCfg, .safTestCfg, .safFaCfg, .safHbCfg]) (s : State)
    (p : Port) (k j : Nat) (v : Word) (hl : s.locked r = true) : s.writeReg p r k j v = (.state, s) := by
  simp only [List.mem_cons, List.not_mem_nil, or_false] at h
  rcases h with rfl | rfl | rfl | rfl | rfl <;> exact if_pos hl

theorem writeReg_unlocked {r : Reg} (h : r ∈ [.scnDiagVth, .safInCfg, .safTestCfg, .safFaCfg, .safHbCfg]) (s : State)
    (p : Port) (k j : Nat) (v : Word) (hl : s.locked r = false) (hv : r.legal v = true) :
    s.writeReg p r k j v = (.ok, if r = .safTestCfg then (s.wr r (v &&& r.row.mask)).takeTestCfg
      else s.swWr p r (v &&& r.row.mask) k j) := by
  have hu (t : Status × State) : s.unlocked r t = t := by simp [State.unlocked, hl]
  simp only [List.mem_cons, List.not_mem_nil, or_false] at h
  rcases h with rfl | rfl | rfl | rfl | rfl <;> exact (hu _).trans (checked_of_legal hv _)

theorem plain_of_legal {r : Reg} {v : Word} (h : r.legal v = true) (s : State) (p : Port) (k j : Nat) :
    s.plain p r k j v = (.ok, s.swWr p r (v &&& r.row.mask) k j) :=
  checked_of_legal h _

theorem plain_of_illegal {r : Reg} {v : Word} (h : r.legal v = false) (s : State) (p : Port) (k j : Nat) :
    s.plain p r k j v = (.state, s) := by
  simp [State.plain, State.checked, h]

end Sys2Proof.Machine
end

section
/-! A register write by its register's kind of access (R16 to R19, R22, R289). -/

namespace Sys2Proof.Machine

variable {s : State}

theorem locked_begun (s : State) (p : Port) (w : Path) (r : Reg) : (s.begun p w).locked r = s.locked r := by
  unfold State.locked
  rw [begun_boot]

theorem plain_not_early {r : Reg} (h : r ∈ plainRegs) : r ∉ earlyRegs := by
  revert r; decide

theorem ro_not_early {r : Reg} (h : r.row.acc = .ro) : r ∉ earlyRegs := by
  intro he
  simp only [earlyRegs, List.mem_cons, List.not_mem_nil, or_false] at he
  rcases he with rfl | rfl | rfl | rfl | rfl | rfl | rfl | rfl <;> cases h

theorem w1c_not_early {r : Reg} (h : r.row.acc = .w1c) : r ∉ earlyRegs := by
  intro he
  simp only [earlyRegs, List.mem_cons, List.not_mem_nil, or_false] at he
  rcases he with rfl | rfl | rfl | rfl | rfl | rfl | rfl | rfl <;> cases h

theorem lockable_not_early {r : Reg} (h : r ∈ [Reg.scnDiagVth, .safInCfg, .safTestCfg, .safFaCfg, .safHbCfg]) :
    r ∉ earlyRegs := by
  revert r; decide

/-- A write of the register file leaves what holds between two commands. -/
theorem inv_swWr (h : s.Inv) (p : Port) (r : Reg) (v : Word) (k j : Nat) : (s.swWr p r v k j).Inv :=
  inv_congr rfl rfl rfl rfl rfl rfl rfl h

theorem inv_takeTestCfg (h : s.Inv) (r : Reg) (v : Word) : (s.wr r v).takeTestCfg.Inv := inv_of_view rfl h

theorem inv_blockOff (h : s.Inv) (p : Port) : (s.blockOff p).Inv := by
  refine inv_congr ?_ ?_ ?_ ?_ ?_ ?_ ?_ h <;> simp [State.blockOff, State.pcount, State.pflag, State.noteFlags]

end Sys2Proof.Machine

open Sys2Proof Sys2Proof.Machine

/-- Settles O19: every address of the map leads to its register, whose write is that of its kind of access. -/
theorem registerWrites : Obligations.RegisterWrites := by
  intro s p w r k j v hi hc hq hk hj
  have hb := inv_begun hi p w
  refine ⟨fun ha => ?_, fun hoff he hscan => ?_, fun a ha => ?_⟩
  · have hw (he : r ∉ earlyRegs) := regWrite_addr (p := p) (w := w) (v := v) ha hk hj he
    refine ⟨fun hr hv => ?_, fun hr hv => ?_, fun hr => ?_, fun hr => ?_, ?_, fun hr => ⟨fun hl => ?_, fun hl hv => ?_⟩⟩
    · refine finish_writeRequest_of_inv hc hq ((hw (plain_not_early hr)).trans ?_) (inv_swWr hb ..)
      rw [writeReg_plain hr, plain_of_legal hv]
    · refine finish_writeRequest_of_inv hc hq ((hw (plain_not_early hr)).trans ?_) hb
      rw [writeReg_plain hr, plain_of_illegal hv, id]
    · exact finish_writeRequest_of_inv hc hq ((hw (ro_not_early hr)).trans (writeReg_ro hr ..)) hb
    · exact finish_writeRequest hc hq ((hw (w1c_not_early hr)).trans (writeReg_w1c hr ..))
    · rintro rfl
      obtain rfl : j = 0 := by change j < 1 at hj; omega
      exact finish_writeRequest_of_inv hc hq (hw (by decide)) (inv_congr rfl rfl rfl rfl rfl rfl rfl hb)
    · have hl' := (locked_begun s p w r).trans hl
      exact finish_writeRequest_of_inv hc hq ((hw (lockable_not_early hr)).trans (writeReg_locked hr _ p k j v hl')) hb
    · have hl' := (locked_begun s p w r).trans hl
      refine finish_writeRequest_of_inv hc hq ((hw (lockable_not_early hr)).trans (writeReg_unlocked hr _ p k j v hl' hv)) ?_
      split
      · exact inv_takeTestCfg hb ..
      · exact inv_swWr hb ..
  · refine finish_writeRequest_of_inv hc hq ?_ (inv_blockOff hb p)
    simp [State.regWrite, place_addr r hk hj, earlyRefusal_begun hscan, he, hoff]
  · refine finish_writeRequest_of_inv hc hq ?_ hb
    simp [State.regWrite, ha]
end

section
/-! Errors of memories (R8, R196, R384, R503), and the reload of the fallback bank. -/

namespace Sys2Proof.Machine

variable {s : State}

/-! ### What a running scan changes (R561 to R564) -/

/-- `t` differs from `s` in the register file and the record of the same cycle, the free values drawn and the running
scans only. -/
def ScansOnly (s t : State) : Prop := t = { s with regs := t.regs, cyc := t.cyc, free := t.free, scans := t.scans }

theorem ScansOnly.refl (s : State) : ScansOnly s s := rfl

theorem ScansOnly.trans {s t u : State} (h : ScansOnly s t) (k : ScansOnly t u) : ScansOnly s u := by
  unfold ScansOnly at *
  rw [h] at k
  exact k

theorem RegsOnly.scansOnly {s t : State} (h : RegsOnly s t) : ScansOnly s t := by
  unfold ScansOnly
  rw [h.out]

theorem regsOnly_chkFeed (s : State) (u : Nat) (bs : List Byte) : RegsOnly s (s.chkFeed u bs) := by
  unfold State.chkFeed
  generalize ht : (s.wr .chkState (crcFeed (s.chkAlg u) (s.rd .chkState u) bs) u).count .chkCount 0 32 bs.length u = t
  have h : RegsOnly s t := by subst ht; rfl
  exact h.trans (regsOnly_pmc t _ _)

theorem scansOnly_scanOn (s : State) (u : Nat) : ScansOnly s (s.scanOn u) := by
  unfold State.scanOn
  split
  · exact .refl s
  · refine .trans ?_ (regsOnly_chkFeed _ u _).scansOnly
    rfl

theorem ScansOnly.foldl {β : Type} {f : State → β → State} (hf : ∀ s b, ScansOnly s (f s b)) (l : List β) (s : State) :
    ScansOnly s (l.foldl f s) := by
  induction l generalizing s with
  | nil => exact .refl s
  | cons b l ih => exact (hf s b).trans (ih _)

/-- Bytes that change let the scans before them come further, and nothing else. -/
theorem scansOnly_scansBefore (s : State) (a e : Nat) : ScansOnly s (s.scansBefore a e) := by
  refine .foldl (fun t u => ?_) _ s
  split
  · split
    · exact scansOnly_scanOn t u
    · exact .refl t
  · exact .refl t

theorem ScansOnly.inv {s t : State} (h : ScansOnly s t) (hi : s.Inv) : t.Inv := by
  rw [h]
  exact inv_congr rfl rfl rfl rfl rfl rfl rfl hi

/-- The reload of the fallback bank keeps what holds between two commands. -/
theorem inv_reloadPattern (hi : s.Inv) (pl : Plate) :
    ((s.reloadPattern pl).onComp fun c => { c with fbReload := false }).Inv :=
  inv_of_view (s := s.scansBefore (bankBase pl.fbBank) (bankBase pl.fbBank + 0x10000)) rfl
    ((scansOnly_scansBefore s _ _).inv hi)

/-! ### The row of the memory errors -/

theorem execMemoryEccError_eq (s : State) (x : EccPlace) (corrected : Bool) :
    exec (.memoryEccError x corrected) s = .next (s.memoryEcc x corrected).rests := rfl

/-- An uncorrectable error of layer memory marks its word, and discards a pass that reads it. -/
theorem memoryEcc_layerMem (s : State) (a : Nat) :
    s.memoryEcc (.layerMem a) false =
      if s.passReadsLayer (a / 8 * 8) then ({ s with ecc := addNat (a / 8 * 8) s.ecc }.report 0x22).dropRun
      else { s with ecc := addNat (a / 8 * 8) s.ecc }.report 0x22 := rfl

/-- An uncorrectable error of the cellar marks its word; in the fallback bank it discards a pass that reads it and asks
for a reload. -/
theorem memoryEcc_fallbackBank {pl : Plate} (hpl : s.boot.plate = some pl) {a : Nat} (h1 : bankBase pl.fbBank ≤ a)
    (h2 : a < bankBase pl.fbBank + 0x10000) :
    s.memoryEcc (.cellar a) false =
      (if s.passReadsBank pl.fbBank a then ({ s with ecc := addNat (a / 8 * 8) s.ecc }.report 0x24).dropRun
        else { s with ecc := addNat (a / 8 * 8) s.ecc }.report 0x24).onComp fun c => { c with fbReload := true } := by
  have hp : ({ s with ecc := addNat (a / 8 * 8) s.ecc }.report 0x24).boot.plate = some pl := hpl
  simp [State.memoryEcc, hp, h1, h2]

/-- A pass reads the fallback pattern in its bank only. -/
theorem passReadsBank_outside {b a : Nat} (h : a < bankBase b ∨ bankBase b + 0x10000 ≤ a) :
    s.passReadsBank b a = false := by
  unfold State.passReadsBank
  split
  · simp only [Bool.and_eq_false_iff, decide_eq_false_iff_not]
    omega
  · rfl

theorem memoryEcc_otherBank {pl : Plate} (hpl : s.boot.plate = some pl) {a : Nat}
    (h : a < bankBase pl.fbBank ∨ bankBase pl.fbBank + 0x10000 ≤ a) :
    s.memoryEcc (.cellar a) false = { s with ecc := addNat (a / 8 * 8) s.ecc }.report 0x24 := by
  have hp : ({ s with ecc := addNat (a / 8 * 8) s.ecc }.report 0x24).boot.plate = some pl := hpl
  have hout : ¬ (bankBase pl.fbBank ≤ a ∧ a < bankBase pl.fbBank + 0x10000) := by omega
  simp [State.memoryEcc, hp, passReadsBank_outside h, hout]

/-- A reload that was asked for ends with the check of the pattern (R196). -/
theorem reloadDone_eq {pl : Plate} (h : s.boot.plate = some pl) (hr : s.comp.fbReload = true) (disturb : Word) :
    s.reloadDone disturb =
      let u := (s.reloadPattern pl).onComp fun c => { c with fbReload := false }
      if patternGood u.mem pl.fbBank disturb then u else (u.report 0x45).onComp fun c => { c with fbDead := true } := by
  simp only [State.reloadDone, h, hr, if_true]

end Sys2Proof.Machine

open Sys2Proof Sys2Proof.Machine

/-- Settles O39, place by place. -/
theorem memoryErrors : Obligations.MemoryErrors := by
  intro s a hi marked c
  refine ⟨fun h => ?_, fun h => ?_, rfl, rfl, rfl, rfl, rfl, rfl, rfl, rfl, rfl, fun b i => rfl, fun p => rfl,
    fun pl hpl => ⟨fun h1 h2 => ?_, fun h => ?_, fun hr => ?_⟩, fun g hg hr => ?_, fun hr g => ?_⟩
  · rw [execMemoryEccError_eq, memoryEcc_layerMem, if_pos h]
  · rw [execMemoryEccError_eq, memoryEcc_layerMem, h]
    rfl
  · rw [execMemoryEccError_eq, memoryEcc_fallbackBank hpl h1 h2]
  · rw [execMemoryEccError_eq, memoryEcc_otherBank hpl h]
  · intro u disturb
    have hd : exec (.fallbackReloadDone disturb) s = finish (if patternGood u.mem pl.fbBank disturb then u
      else (u.report 0x45).onComp fun c => { c with fbDead := true }) := congrArg finish (reloadDone_eq hpl hr disturb)
    refine ⟨fun hg => ?_, fun hg => ?_⟩
    · rw [hd, if_pos hg]
      exact finish_of_inv (inv_reloadPattern hi pl)
    · rw [hd, hg]
      rfl
  · show finish (s.storeEcc g) = _
    rw [State.storeEcc, if_pos ⟨hg, hr⟩]
    rfl
  · show finish (s.storeEcc g) = _
    rw [State.storeEcc, if_neg (by simp [hr])]
    exact finish_of_inv hi
end

section
/-! Host masks and re-admission requests (R353 to R357, R365, R371). -/

namespace Sys2Proof.Machine

variable {s : State}

/-! ### Fields of a written word -/

theorem field_word_at {n : Nat} (h : n < 2 ^ 32) (lsb width : Nat) : field (word n) lsb width = n / 2 ^ lsb % 2 ^ width := by
  unfold field word
  rw [BitVec.toNat_ofNat, Nat.mod_eq_of_lt h, Nat.shiftRight_eq_div_pow]

theorem bit_word {n : Nat} (h : n < 2 ^ 32) (i : Nat) : bit (word n) i = decide (n / 2 ^ i % 2 = 1) := by
  unfold bit word
  rw [← BitVec.testBit_toNat, BitVec.toNat_ofNat, Nat.mod_eq_of_lt h, Nat.testBit_eq_decide_div_mod_eq]

/-! ### A change of a pixel's causes -/

/-- The state keeps its place between two commands, and what a flip applies, while the compositor's refresh conditions
and the diagnostics' mask change. -/
structure Masked (s : State) (n : Nat) (c : BitVec 3) (u : State) : Prop where
  frame : u = { s with comp := u.comp, diag := u.diag }
  causes : u.causes n = c
  others : ∀ m, m ≠ n → u.causes m = s.causes m
  view : u.invView = s.invView
  cand : u.comp.cand = s.comp.cand
  commits : u.comp.commits = s.comp.commits

/-- A refresh condition asks for a pass and changes nothing else. -/
theorem refreshBoth_eq (s : State) :
    ∃ r h, s.refreshBoth = s.onComp fun c => { c with refresh := r, holdRefresh := h } := by
  unfold State.refreshBoth State.refreshHold State.refreshRun
  split
  · exact ⟨s.comp.refresh, true, rfl⟩
  · exact ⟨true, s.comp.holdRefresh, rfl⟩

theorem Masked.refreshBoth {n : Nat} {c : BitVec 3} {u : State} (h : Masked s n c u) : Masked s n c u.refreshBoth := by
  obtain ⟨r, x, hu⟩ := refreshBoth_eq u
  rw [hu]
  refine ⟨?_, h.causes, h.others, h.view, h.cand, h.commits⟩
  rw [h.frame]
  rfl

theorem Masked.noteChange {n : Nat} {c : BitVec 3} {u : State} (h : Masked s n c u) : Masked s n c u.noteChange := by
  refine ⟨?_, h.causes, h.others, h.view, h.cand, h.commits⟩
  rw [h.frame]
  rfl

/-- The diagnostics once the causes of pixel `n` have become `c`. -/
def Diag.masked (d : Diag) (n : Nat) (c : BitVec 3) : Diag :=
  { d with mask := tabSet 0 d.mask n c
           holdOff := if decide (c = 0) then d.holdOff.filter (· != n) else d.holdOff
           holdNext := if decide (c = 0) then d.holdNext.filter (· != n) else d.holdNext
           returned := if decide (c = 0) then addNat n d.returned else d.returned.filter (· != n)
           pix := if decide (c = 0) then restartCount n d.pix else d.pix }

/-- The state once they have, with the change that the settings record is to hold (R358). -/
def State.maskedAs (s : State) (n : Nat) (c : BitVec 3) : State :=
  if c &&& 3 = s.causes n &&& 3 then s.onDiag (·.masked n c) else (s.onDiag (·.masked n c)).noteChange

theorem setCauses_of_ne {n : Nat} {c : BitVec 3} (h : s.causes n ≠ c) :
    s.setCauses n c = (if s.maskedIn (regionOfPixel n) ≤ s.maskMax ∧ s.maskMax < (s.maskedAs n c).maskedIn (regionOfPixel n)
      then (s.maskedAs n c).report 0x56 (regionOfPixel n) else s.maskedAs n c).refreshBoth := by
  simp only [State.setCauses, if_neg h]
  rfl

theorem maskedAs_mask (s : State) (n : Nat) (c : BitVec 3) : (s.maskedAs n c).diag.mask = tabSet 0 s.diag.mask n c := by
  unfold State.maskedAs
  split <;> rfl

theorem masked_maskedAs (s : State) (n : Nat) (c : BitVec 3) : Masked s n c (s.maskedAs n c) := by
  have h : Masked s n c (s.onDiag (·.masked n c)) :=
    ⟨rfl, tabGet_set_same 0 _ n c, fun _ hm => tabGet_set_other 0 0 hm _ c, rfl, rfl, rfl⟩
  unfold State.maskedAs
  split
  · exact h
  · exact h.noteChange

/-- The causes of a pixel become `c`, where the masked pixels of its region do not come to exceed MASKMAX (R371). -/
theorem masked_setCauses {n : Nat} {c : BitVec 3}
    (h : ({ s with diag := { s.diag with mask := tabSet 0 s.diag.mask n c } } : State).maskedIn (regionOfPixel n) ≤ s.maskMax) :
    Masked s n c (s.setCauses n c) := by
  by_cases hc : s.causes n = c
  · rw [State.setCauses, if_pos hc]
    exact ⟨rfl, hc, fun _ _ => rfl, rfl, rfl, rfl⟩
  · have hm : (s.maskedAs n c).maskedIn (regionOfPixel n) ≤ s.maskMax := by
      rw [State.maskedIn, maskedAs_mask]
      exact h
    rw [setCauses_of_ne hc, if_neg (by omega)]
    exact (masked_maskedAs s n c).refreshBoth

/-! ### The requests -/

theorem maskMax_begun (s : State) (p : Port) (w : Path) : (s.begun p w).maskMax = s.maskMax := by
  have h := sameRegs_begun s p w (fun _ h => h) (Reg.row .scnDiagLim).reset (Reg.key .scnDiagLim .A 0 0)
    (by cases p <;> decide) (by decide)
  exact congrArg (field · 0 17) h

/-- A request that gives a pixel of the region the causes `c`. -/
theorem finish_maskRequest {p : Port} {w : Path} {g n : Nat} {v : Word} {c : BitVec 3} (hi : s.Inv) (hg : g < 16)
    (ha : s.answers .tilMaskCmd g) (hw : (s.begun p w).writeReg p .tilMaskCmd g 0 v = (.ok, (s.begun p w).setCauses n c))
    (h : ({ s with diag := { s.diag with mask := tabSet 0 s.diag.mask n c } } : State).maskedIn (regionOfPixel n) ≤ s.maskMax) :
    ∃ u : State, finish (s.put p w .tilMaskCmd v g) = .next (u.ended p w .ok) ∧ u.causes n = c ∧
      (∀ m, m ≠ n → u.causes m = s.causes m) ∧ u = { s.begun p w with comp := u.comp, diag := u.diag } ∧
      u.comp.cand = s.comp.cand ∧ u.comp.commits = s.comp.commits := by
  have hm : Masked (s.begun p w) n c ((s.begun p w).setCauses n c) := by
    apply masked_setCauses
    rw [maskMax_begun, begun_diag]
    exact h
  have hr := regWrite_addr (p := p) (w := w) (v := v) ha hg (show 0 < (Reg.row .tilMaskCmd).each by decide) (by decide)
  refine ⟨(s.begun p w).setCauses n c, ?_, hm.causes, fun m hne => ?_, hm.frame, ?_, ?_⟩
  · exact finish_writeRequest_of_inv (f := fun b => b.setCauses n c) ha.1 ha.2.1 (hr.trans hw)
      (inv_of_view hm.view (inv_begun hi p w))
  · rw [hm.others m hne]
    simp [State.causes]
  · rw [hm.cand, begun_comp]
  · rw [hm.commits, begun_comp]

/-- TIL_MASK_CMD of a pixel with a code of R357 commands that pixel. -/
theorem writeReg_maskCmd (s : State) (p : Port) {g x y op : Nat} (hx : x < 1024) (hy : y < 64) (ho : op < 2) :
    s.writeReg p .tilMaskCmd g 0 (word (x + 0x10000 * y + 0x1000000 * op)) = (.ok, s.maskCommand g x y (decide (op = 1))) := by
  have hn : x + 0x10000 * y + 0x1000000 * op < 2 ^ 32 := by omega
  have hl : Reg.legal .tilMaskCmd (word (x + 0x10000 * y + 0x1000000 * op)) = true := by
    simp only [Reg.legal, Reg.row, Limit.ok, List.all_cons, List.all_nil, field_word_at hn]
    simp; omega
  have h1 := (field_and (word (x + 0x10000 * y + 0x1000000 * op)) 0x33F03FF 0 10 (by decide)).trans (field_word_at hn 0 10)
  have h2 := (field_and (word (x + 0x10000 * y + 0x1000000 * op)) 0x33F03FF 16 6 (by decide)).trans (field_word_at hn 16 6)
  have h3 := (bit_and (word (x + 0x10000 * y + 0x1000000 * op)) 0x33F03FF 24 (by decide)).trans (bit_word hn 24)
  show s.checked .tilMaskCmd _ (fun u => (.ok, s.maskCommand g (field u 0 10) (field u 16 6) (bit u 24))) = _
  rw [checked_of_legal hl]
  simp only [Reg.kept, Reg.row, h1, h2, h3]
  rw [show (x + 0x10000 * y + 0x1000000 * op) / 2 ^ 0 % 2 ^ 10 = x by omega,
    show (x + 0x10000 * y + 0x1000000 * op) / 2 ^ 16 % 2 ^ 6 = y by omega,
    show (x + 0x10000 * y + 0x1000000 * op) / 2 ^ 24 % 2 = op by omega]

theorem unitFailed_begun (s : State) (p : Port) (w : Path) (u : Readmit) : (s.begun p w).unitFailed u = s.unitFailed u := by
  simp [State.unitFailed, State.atticFailed, State.sinkFailed]

/-- The unit of a region that a value of TIL_READMIT names (R365). -/
def readmitUnit (g : Nat) (v : Word) : Readmit := { tile := tileOfLocal g (field v 0 5), unit := field v 8 8, attic := bit v 16 }

/-- TIL_READMIT of a value without reserved encodings requests the unit that it names. -/
theorem writeReg_readmit (s : State) (p : Port) (g : Nat) {v : Word} (hv : Reg.legal .tilReadmit v = true) :
    s.writeReg p .tilReadmit g 0 v =
      if (readmitUnit g v).attic && decide (8 ≤ (readmitUnit g v).unit) then (.state, s)
      else if !s.unitFailed (readmitUnit g v) && decide (s.diag.readmit.getD g none ≠ some (readmitUnit g v)) then (.state, s)
      else if (s.diag.readmit.getD g none).isSome then (.busy, s)
      else (.ok, s.onDiag fun d => { d with readmit := modifyAt (fun _ => some (readmitUnit g v)) g d.readmit }) := by
  refine (checked_of_legal hv _).trans ?_
  have hu : readmitUnit g (Reg.kept .tilReadmit v) = readmitUnit g v := by
    simp only [readmitUnit, Reg.kept, Reg.row]
    rw [field_and _ _ 0 5 (by decide), field_and _ _ 8 8 (by decide), bit_and _ _ 16 (by decide)]
  rw [← hu]
  rfl

end Sys2Proof.Machine

open Sys2Proof Sys2Proof.Machine

/-- Settles O6: each command is one change of a pixel's causes, or of the unit that a region is to re-admit. -/
theorem maskAndReadmit : Obligations.MaskAndReadmit := by
  intro s p w g hi hg
  have hc (n : Nat) : (s.begun p w).causes n = s.causes n := by simp [State.causes]
  refine ⟨fun x y hx hy ha => ?_, fun v ha hv => ?_⟩
  · intro n stay masked
    have hset : (s.begun p w).maskCommand g x y false = (s.begun p w).setCauses n (s.causes n ||| hostCause) := by
      rw [← hc]
      rfl
    have hclear : (s.begun p w).maskCommand g x y true = (s.begun p w).setCauses n (s.causes n &&& stay) := by
      rw [← hc]
      rfl
    exact ⟨finish_maskRequest hi hg ha ((writeReg_maskCmd _ p hx hy (by decide : 0 < 2)).trans (congrArg _ hset)),
      finish_maskRequest hi hg ha ((writeReg_maskCmd _ p hx hy (by decide : 1 < 2)).trans (congrArg _ hclear))⟩
  · have hr := (regWrite_addr (p := p) (w := w) ha hg (show 0 < (Reg.row .tilReadmit).each by decide) (by decide)).trans
      (writeReg_readmit _ p g hv)
    rw [unitFailed_begun, begun_diag] at hr
    have hb := inv_begun hi p w
    refine ⟨fun (hf : s.unitFailed (readmitUnit g v) = true)
        (hu : (readmitUnit g v).attic = true → (readmitUnit g v).unit < 8) hn => ?_,
      fun (hf : s.unitFailed (readmitUnit g v) = false) hn => ?_,
      fun (hf : s.unitFailed (readmitUnit g v) = true)
        (hu : (readmitUnit g v).attic = true → (readmitUnit g v).unit < 8) hn => ?_⟩
    · rw [if_neg (by simpa using hu), if_neg (by simp [hf]), if_neg (by simp only [hn]; decide)] at hr
      exact finish_writeRequest_of_inv ha.1 ha.2.1 hr (inv_of_view rfl hb)
    · have hno : (!s.unitFailed (readmitUnit g v) && decide (s.diag.readmit.getD g none ≠ some (readmitUnit g v))) = true := by
        simp only [hf, hn]
        simp
      rw [if_pos hno, ite_self] at hr
      exact finish_writeRequest_of_inv ha.1 ha.2.1 hr hb
    · rw [if_neg (by simpa using hu), if_neg (by simp [hf]), if_pos hn] at hr
      exact finish_writeRequest_of_inv ha.1 ha.2.1 hr hb
end

section
/-! Requests for conversions (R429 to R451). -/

namespace Sys2Proof.Machine

variable {s : State}

/-- The state once the group has started, or been skipped, whose SYNCIN trigger has come due. -/
abbrev State.synced (s : State) : State := s.syncGroup s.now

/-- A request to write a register of an answering block, by the register's effect. -/
theorem finish_put {p : Port} {w : Path} {r : Reg} {v : Word} {k j : Nat} {st : Status} {u : State} (ha : s.answers r k)
    (hk : k < r.row.count) (hj : j < r.row.each) (he : r ∉ earlyRegs)
    (hw : (s.begun p w).writeReg p r k j v = (st, u)) : finish (s.put p w r v k j) = .next (u.ended p w st).rests :=
  finish_writeRequest (f := fun _ => u) ha.1 ha.2.1 ((regWrite_addr ha hk hj he).trans hw)

/-! ### Host conversions -/

/-- START of a converter whose register does not hold it requests a conversion, unless the converter is retired. -/
theorem adcControl_idle {n k : Nat} {r : Reg} {v : Word} (hn : ctlOf n = (r, k)) (hv : bit v 0 = true)
    (h : bit (s.rd r k) 0 = false) :
    s.adcControl n v = if (s.conv n).retired then (.state, s) else (.ok, (s.wr r v k).hostRequest n v) := by
  simp only [State.adcControl, hn, h, hv, if_true]
  rfl

/-- START of a converter whose register holds it changes nothing (R437); the same value counts for R21. -/
theorem adcControl_running {n k : Nat} {r : Reg} {v : Word} (hn : ctlOf n = (r, k)) (hv : bit v 0 = true)
    (h : bit (s.rd r k) 0 = true) :
    s.adcControl n v = if v = s.rd r k then (.ok, s.noteOne (r.key .A k 0)) else (.busy, s) := by
  have hone : v ||| 1 = v := by
    ext i
    rcases i with _ | i <;> simp_all [bit]
  simp only [State.adcControl, hn, h, if_true, hone]
  split <;> rfl

/-- A host's START of converter `n`, in register `k` of row `r`. -/
theorem finish_start {p : Port} {w : Path} {n k : Nat} {r : Reg} {v : Word} (hn : ctlOf n = (r, k)) (ha : s.answers r k)
    (hk : k < r.row.count) (hj : 0 < r.row.each) (he : r ∉ earlyRegs) (hb : bit (v &&& r.row.mask) 0 = true)
    (hw : ∀ t : State, t.writeReg p r k 0 v = t.synced.adcControl n (v &&& r.row.mask)) :
    (bit ((s.begun p w).synced.rd r k) 0 = false → ((s.begun p w).synced.conv n).retired = false →
      finish (s.put p w r v k) =
        .next ((((s.begun p w).synced.wr r (v &&& r.row.mask) k).hostRequest n (v &&& r.row.mask)).ended p w .ok).rests) ∧
    (bit ((s.begun p w).synced.rd r k) 0 = false → ((s.begun p w).synced.conv n).retired = true →
      finish (s.put p w r v k) = .next ((s.begun p w).synced.ended p w .state).rests) ∧
    (bit ((s.begun p w).synced.rd r k) 0 = true → v &&& r.row.mask ≠ (s.begun p w).synced.rd r k →
      finish (s.put p w r v k) = .next ((s.begun p w).synced.ended p w .busy).rests) ∧
    (bit ((s.begun p w).synced.rd r k) 0 = true → v &&& r.row.mask = (s.begun p w).synced.rd r k →
      finish (s.put p w r v k) = .next (((s.begun p w).synced.noteOne (r.key .A k 0)).ended p w .ok).rests) := by
  refine ⟨fun h hc => ?_, fun h hc => ?_, fun h hc => ?_, fun h hc => ?_⟩ <;>
    refine finish_put ha hk hj he ((hw _).trans ?_)
  · rw [adcControl_idle hn hb h, hc]
    rfl
  · rw [adcControl_idle hn hb h, if_pos hc]
  · rw [adcControl_running hn hb h, if_neg hc]
  · rw [adcControl_running hn hb h, if_pos hc]

theorem hostRequest_tile (s : State) {n : Nat} (hn : n < 16) (v : Word) :
    s.hostRequest n (v &&& Reg.tilAdcCtl.row.mask) = s.onConv n fun c =>
      { c with req := some { input := field v 4 4, avg := field v 8 4, left := 2 ^ field v 8 4, sum := 0 } } := by
  simp only [State.hostRequest, if_pos hn, Reg.row, field_and v 0xFF1 4 4 (by decide), field_and v 0xFF1 8 4 (by decide)]

theorem hostRequest_system (s : State) (n : Nat) (v : Word) :
    s.hostRequest (16 + n) (v &&& Reg.adcSctl.row.mask) = s.onConv (16 + n) fun c =>
      { c with req := some { input := field v 4 3, avg := field v 8 4, left := 2 ^ field v 8 4, sum := 0 } } := by
  simp only [State.hostRequest, if_neg (by omega : ¬ 16 + n < 16), Reg.row, field_and v 0xF71 4 3 (by decide),
    field_and v 0xF71 8 4 (by decide)]

/-! ### Group conversions -/

/-- The converters that a trigger of this instant starts are those that ADC_GRP_CFG chooses. -/
theorem groupPlan_sel (s : State) : s.groupPlan.map (·.1) = s.groupSel := by
  simp [State.groupPlan, Function.comp_def]

/-- What the chosen converters have converted by their first sample instants of instant `t`. -/
def State.groupBy (s : State) (t : Nat) : State := s.groupSel.foldl (fun u n => u.convBy n (s.sampleAt n t)) s

/-- The chosen converters start, each at its first sample instant. -/
def State.groupOn (s : State) (t : Nat) : State :=
  (s.groupSel.foldl (fun u n => u.startConv n (s.groupInput n) .group ((s.groupBy t).sampleAt n t)) (s.groupBy t)).onAdc
    fun a => { a with
      groupAt := some (t / 200, true)
      group := some { sel := s.groupSel
                      fin := s.groupSel.foldl (fun m n => max m ((s.groupBy t).sampleAt n t + convTime n)) t } }

/-- The group is skipped, and counted. -/
def State.groupMissed (s : State) (t : Nat) : State :=
  (((s.groupBy t).count .adcGrpMiss 0 32).flag .adcEvent 2).onAdc fun a => { a with groupAt := some (t / 200, false) }

theorem groupTried_iff (s : State) (t : Nat) : s.groupTried t = true ↔ ∃ on, s.adc.groupAt = some (t / 200, on) := by
  cases h : s.adc.groupAt with
  | none => simp [State.groupTried, h]
  | some x => simp [State.groupTried, h, Prod.ext_iff]

/-- The chosen converters start together, or the group is missed, once in a CK_ADC cycle. -/
theorem groupStart_plan (s : State) (t : Nat) :
    s.groupStart t s.groupPlan =
      if s.groupTried t then s else if (s.groupBy t).groupCan s.groupSel t then s.groupOn t else s.groupMissed t := by
  simp only [State.groupStart, groupPlan_sel]
  simp only [State.groupPlan, List.foldl_map]
  rfl

/-- A write of 1 to GO that no chosen converter refuses. -/
theorem writeReg_go {p : Port} (h : ∀ k ∈ s.groupSel, (s.conv k).retired = false) :
    s.writeReg p .adcGrpCtl 0 0 1 =
      (.ok, if bit (s.rd .adcGrpCtl) 0 then s.noteOne (Reg.adcGrpCtl.key .A 0 0) else s.groupGoStart) := by
  have hr : (s.groupSel.any fun n => (s.conv n).retired) = false := by simpa using h
  show s.groupGo = _
  rw [State.groupGo, if_neg (by simp [hr])]
  split <;> rfl

/-- GO reads 1 where the write has started a group, or joined one of its CK_ADC cycle. -/
theorem groupGoStart_eq (s : State) :
    s.groupGoStart =
      if (s.synced.groupStart s.now s.synced.groupPlan).groupFresh s.now then
        (s.synced.groupStart s.now s.synced.groupPlan).wr .adcGrpCtl 1
      else s.synced.groupStart s.now s.synced.groupPlan := rfl

theorem groupGoStart_starts (h : ∀ on, s.synced.adc.groupAt ≠ some (s.now / 200, on))
    (hc : (s.synced.groupBy s.now).groupCan s.synced.groupSel s.now = true) :
    s.groupGoStart = (s.synced.groupOn s.now).wr .adcGrpCtl 1 := by
  have ht : ¬ s.synced.groupTried s.now = true := by simpa [groupTried_iff] using h
  rw [groupGoStart_eq, groupStart_plan, if_neg ht, if_pos hc, if_pos (by simp [State.groupFresh, State.groupOn, State.onAdc])]

theorem groupGoStart_misses (h : ∀ on, s.synced.adc.groupAt ≠ some (s.now / 200, on))
    (hc : (s.synced.groupBy s.now).groupCan s.synced.groupSel s.now = false) :
    s.groupGoStart = s.synced.groupMissed s.now := by
  have ht : ¬ s.synced.groupTried s.now = true := by simpa [groupTried_iff] using h
  have hf : ¬ (s.synced.groupMissed s.now).groupFresh s.now = true := by
    simp [State.groupFresh, State.groupMissed, State.onAdc]
  rw [groupGoStart_eq, groupStart_plan, if_neg ht, hc, if_neg Bool.false_ne_true, if_neg hf]

theorem groupGoStart_joins (h : s.synced.adc.groupAt = some (s.now / 200, true)) (hg : s.synced.adc.group.isSome = true) :
    s.groupGoStart = s.synced.wr .adcGrpCtl 1 := by
  rw [groupGoStart_eq, groupStart_plan, if_pos ((groupTried_iff _ _).2 ⟨_, h⟩),
    if_pos (by simp [State.groupFresh, h, hg])]

theorem groupGoStart_late (h : ∃ on, s.synced.adc.groupAt = some (s.now / 200, on))
    (hg : s.synced.groupFresh s.now = false) : s.groupGoStart = s.synced := by
  rw [groupGoStart_eq, groupStart_plan, if_pos ((groupTried_iff _ _).2 h), if_neg (by simp [hg])]

/-! ### User calibration -/

/-- The zero of channel `k` is held. -/
def State.zeroHeld (s : State) (k : Nat) : Bool :=
  match s.adc.zero with
  | some (c, _) => decide (c = k)
  | none => false

/-- Operation of a field OP of ADC_UCAL. -/
def ucalOpOf (o : Nat) : UcalOp :=
  match o with
  | 0 => .zero
  | 1 => .full
  | _ => .reset

/-- An operation on channel `k` starts. -/
def State.ucalBegin (s : State) (k : Nat) (op : UcalOp) : State :=
  (s.onAdc fun x => { x with ucal := some { chan := k, op := op }, zero := if s.zeroHeld k then x.zero else none }).wr
    .adcUcalStat (setField (setField (setField (s.rd .adcUcalStat) 0 1 1) 1 1 (boolNat (s.zeroHeld k))) 2 5 k)

theorem ucalStart_eq {v : Word} (hi : field v 4 3 < 6) (hr : (s.conv (16 + field v 0 2)).retired = false) :
    s.ucalStart v =
      if ucalOpOf (field v 8 2) = .full ∧ (!s.zeroHeld (8 * field v 0 2 + field v 4 3)) = true then (.state, s)
      else if s.adc.ucal.isSome then (.busy, s)
      else (.ok, s.ucalBegin (8 * field v 0 2 + field v 4 3) (ucalOpOf (field v 8 2))) := by
  refine (if_neg (by omega)).trans ((if_neg (by simp [hr])).trans ?_)
  rfl

/-- ADC_UCAL of an input of a system converter in service. -/
theorem writeReg_ucal {p : Port} {n i o : Nat} (hn : n < 4) (hi : i < 6) (ho : o < 3)
    (hr : (s.synced.conv (16 + n)).retired = false) :
    s.writeReg p .adcUcal 0 0 (word (n + 0x10 * i + 0x100 * o)) =
      if ucalOpOf o = .full ∧ (!s.synced.zeroHeld (8 * n + i)) = true then (.state, s.synced)
      else if s.synced.adc.ucal.isSome then (.busy, s.synced)
      else (.ok, s.synced.ucalBegin (8 * n + i) (ucalOpOf o)) := by
  have hs : n + 0x10 * i + 0x100 * o < 2 ^ 32 := by omega
  have hl : Reg.legal .adcUcal (word (n + 0x10 * i + 0x100 * o)) = true := by
    simp only [Reg.legal, Reg.row, Limit.ok, List.all_cons, List.all_nil, field_word_at hs]
    simp; omega
  have h1 := (field_and (word (n + 0x10 * i + 0x100 * o)) 0x373 0 2 (by decide)).trans (field_word_at hs 0 2)
  have h2 := (field_and (word (n + 0x10 * i + 0x100 * o)) 0x373 4 3 (by decide)).trans (field_word_at hs 4 3)
  have h3 := (field_and (word (n + 0x10 * i + 0x100 * o)) 0x373 8 2 (by decide)).trans (field_word_at hs 8 2)
  rw [show (n + 0x10 * i + 0x100 * o) / 2 ^ 0 % 2 ^ 2 = n by omega] at h1
  rw [show (n + 0x10 * i + 0x100 * o) / 2 ^ 4 % 2 ^ 3 = i by omega] at h2
  rw [show (n + 0x10 * i + 0x100 * o) / 2 ^ 8 % 2 ^ 2 = o by omega] at h3
  have hu := ucalStart_eq (s := s.synced) (h2 ▸ hi) (by rw [h1]; exact hr)
  rw [h1, h2, h3] at hu
  exact (checked_of_legal hl _).trans hu

end Sys2Proof.Machine

open Sys2Proof Sys2Proof.Machine

/-- Settles O7: a START, a GO and a user calibration each act on the state in which a group that has come due has
started or been skipped. -/
theorem conversionRequests : Obligations.ConversionRequests := by
  refine ⟨fun s p w n v hi => ⟨fun hn ha hl hv => ?_, fun hn ha hl hv => ?_, fun ha hsel => ⟨fun hgo => ?_, fun hgo => ?_⟩⟩,
    fun s p w n i hi ha hn hi6 => ?_⟩
  · have h := finish_start (p := p) (w := w) (v := v) (if_pos hn) ha hn (by decide) (by decide)
      ((bit_and v 0xFF1 0 (by decide)).trans hv) (fun t => checked_of_legal hl _)
    rw [hostRequest_tile _ hn] at h
    exact h
  · have h := finish_start (p := p) (w := w) (n := 16 + n) (v := v) (by simp [ctlOf]) ha hn (by decide) (by decide)
      ((bit_and v 0xF71 0 (by decide)).trans hv) (fun t => checked_of_legal hl _)
    rw [hostRequest_system] at h
    exact h
  · have hw := writeReg_go (p := p) hsel
    rw [hgo, if_neg Bool.false_ne_true] at hw
    have hput {u : State} (h : (s.begun p w).groupGoStart = u) := finish_put ha (by decide) (by decide) (by decide)
      (hw.trans (congrArg (Prod.mk Status.ok) h))
    refine ⟨fun hfresh => ⟨fun hcan => hput (groupGoStart_starts hfresh hcan), fun hcan => hput (groupGoStart_misses hfresh hcan)⟩,
      fun hon hg => hput (groupGoStart_joins hon hg), fun hlate => hput ?_⟩
    rcases hlate with hoff | ⟨hdone, hnone⟩
    · exact groupGoStart_late ⟨_, hoff⟩ (by simp [State.groupFresh, hoff])
    · exact groupGoStart_late hdone (by simp [State.groupFresh, hnone])
  · have hw := writeReg_go (p := p) hsel
    rw [hgo, if_pos rfl] at hw
    exact finish_writeRequest_of_inv ha.1 ha.2.1 ((regWrite_addr ha (by decide) (by decide) (by decide)).trans hw)
      (inv_of_view rfl (inv_begun hi p w))
  · intro b a done held begins hr
    have hw {o : Nat} (ho : o < 3) := writeReg_ucal (s := b) (p := p) hn hi6 ho hr
    have hzero := hw (show 0 < 3 by decide)
    have hfull := hw (show 1 < 3 by decide)
    have hreset := hw (show 2 < 3 by decide)
    rw [if_neg (by simp [ucalOpOf])] at hzero hreset
    have hput {v : Word} {st : Status} {u : State} (h : b.writeReg p .adcUcal 0 0 v = (st, u)) :=
      finish_put ha (by decide) (by decide) (by decide) h
    refine ⟨fun hidle => ⟨hput ?_, hput ?_, fun hheld => hput ?_⟩, fun hbusy => ⟨hput ?_, hput ?_⟩, fun hheld => hput ?_⟩
    · exact hzero.trans (if_neg (by simp [show b.synced.adc.ucal = none from hidle]))
    · exact hreset.trans (if_neg (by simp [show b.synced.adc.ucal = none from hidle]))
    · exact hfull.trans ((if_neg (by simp [show b.synced.zeroHeld (8 * n + i) = true from hheld])).trans
        (if_neg (by simp [show b.synced.adc.ucal = none from hidle])))
    · exact hzero.trans (if_pos hbusy)
    · exact hreset.trans (if_pos hbusy)
    · exact hfull.trans (if_pos ⟨rfl, by simp [show b.synced.zeroHeld (8 * n + i) = false from hheld]⟩)
end

section
/-! A write into layer memory that makes a performance counter pass its end (R212, R570). -/

namespace Sys2Proof.Machine

/-! ### What a completion leaves of the CK_FAB cycle -/

theorem setPort_cyc (s : State) (p : Port) (x : PortState) : (s.setPort p x).cyc = s.cyc := by
  cases p <;> rfl

theorem post_cyc (s : State) (p : Port) (i : OutItem) : (s.post p i).cyc = s.cyc := by
  obtain ⟨x, hx⟩ := post_frame s p i
  rw [hx, setPort_cyc]

theorem sampleStore_cyc (s : State) (ws : List Word) : (s.sampleStore ws).cyc = s.cyc := by
  simp only [State.sampleStore]
  split <;> rfl

theorem sample_cyc (s : State) (c : SampledCommand) : (s.sample c).cyc = s.cyc := by
  simp only [State.sample]
  split
  · split
    · exact sampleStore_cyc _ _
    · rfl
  · rfl

/-- A completion records nothing of what hardware does in its CK_FAB cycle. -/
theorem completed_cyc (u : State) (c : Served) (n : Nat) (st : Status) (v : Word) (d : List Word) :
    (u.completed c n st v d).cyc = u.cyc := by
  simp only [State.completed, State.complete, sample_cyc, apply_ite State.cyc, post_cyc]
  split <;> split <;> rfl

/-! ### The counterexample -/

/-- A plate with one memory slot. -/
def oneSlotPlate : Plate :=
  { (default : Plate) with nlayers := 1, ops := [0], sealOwner := .B, slots := [(0, 1, false)] }

/-- STANDBY after a complete start, in which performance counter 0 counts the 8-byte words that hosts write to layer
memory (event 0x21, R570) and stands at its end. -/
def counterAtEnd : State :=
  (({ State.reset with
      boot := { plate := some oneSlotPlate }
      power := { stage := .complete, doms := 0x3F, rising := 0, cpuRun := true } } : State).wr .pmcSel 0x221 0).wr .pmcCnt
    0xFFFFFFFF 0

/-- Port A's LAYER_WRITE of one word. -/
def oneWordWrite : CmdHead := { port := .A, tag := 5, quiet := false, len := 3 }

theorem counterAtEnd_inv : counterAtEnd.Inv := by decide

/-- The write is offered and layer memory answers; no event has been noted when its effect begins. -/
theorem counterAtEnd_offers : ∃ c b, counterAtEnd.offers 0x10 oneWordWrite [0, 0, 7] c b ∧ b.blockOn .lyr none 0 = true ∧
    b.cyc.flags = [] :=
  ⟨_, _, ⟨rfl, by decide, rfl, by decide, rfl, _, _, _, rfl, rfl, rfl⟩, by decide, by decide⟩

/-- The events noted in the CK_FAB cycle in which a command has run. -/
def eventsAfter : Host.Outcome State Fault Refusal → Tab Word
  | .next t => t.cyc.flags
  | _ => []

/-- The counter passes its end, which PMC_OVF notes (R570). -/
theorem counterAtEnd_overflows : eventsAfter (exec (.layerWrite oneWordWrite [0, 0, 7]) counterAtEnd) ≠ [] := by
  decide +kernel

end Sys2Proof.Machine

open Sys2Proof Sys2Proof.Machine

/-- Refutes O23: the words written count as performance event 0x21, and where they make a counter pass its end, hardware
sets its bit of PMC_OVF and the record of the CK_FAB cycle notes it, while the statement has that record stay. -/
theorem not_layerWrites : ¬ Obligations.LayerWrites := by
  intro h
  obtain ⟨c, b, ho, hb, hnone⟩ := counterAtEnd_offers
  obtain ⟨u, hu, -, -, -, -, hframe, -, -⟩ := h counterAtEnd oneWordWrite 0 0 [7] c b counterAtEnd_inv (by decide) ho hb
    (by decide) (by decide)
  have hsame : u.cyc = b.cyc := by rw [hframe]
  apply counterAtEnd_overflows
  rw [hu]
  show (u.completed c _ .ok _ []).cyc.flags = []
  rw [completed_cyc, hsame, hnone]
end

section
/-! Checks of a running pass: proof rectangles, the Seal content and output, and the fallback pattern (R179, R187, R188,
R196). -/

namespace Sys2Proof.Machine

variable {s : State} {r : Pass}

/-- Time that passes keeps what holds between two commands. -/
theorem inv_advance (h : s.Inv) (t : Nat) : (s.advance t).Inv :=
  inv_congr (by simp) (by simp) (by simp) (by simp) (by simp) (by simp) (by simp) h

/-- The proof compare of an enabled rectangle of a pass that is not in fallback. -/
theorem proofCompare_eq (hr : s.comp.run = some r) (hf : r.frame.fallback = false) {k : Nat} (hk : k < 16)
    (hw : (r.frame.rects.getD k {}).w ≠ 0) :
    s.proofCompare k =
      let v := r.frame.rects.getD k {}
      let a := s.advance (pixelTime r (v.x0 + v.w - 1) (v.y0 + v.h - 1))
      let b := a.flag .prfMismatch k
      let c := if r.missed then b else b.count .prfMissCnt 0 32
      if r.frame.signature v = v.exp then a
      else ((c.onComp fun x => { x with run := some { r with missed := true } }).dropRun).report 0x40 k := by
  simp only [State.proofCompare, hr]
  rw [if_neg]
  simp only [hf, Bool.false_eq_true, false_or, not_or]
  exact ⟨hw, by omega⟩

theorem proofCompare_fallback (hr : s.comp.run = some r) (hf : r.frame.fallback = true) (k : Nat) :
    s.proofCompare k = s := by
  simp only [State.proofCompare, hr]
  exact if_pos (.inl hf)

/-- A Seal check that is not made changes nothing. -/
theorem sealCheck_none (hr : s.comp.run = some r) {part : SealPart} {x y : Nat}
    (h : s.sealReads r.frame part x y = none) (disturb : Word) : s.sealCheck part x y disturb = s := by
  simp only [State.sealCheck, hr, h]

/-- A Seal check acts at the instant of its last pixel. -/
theorem sealCheck_some (hr : s.comp.run = some r) {part : SealPart} {x y : Nat} {got want : Word}
    (h : s.sealReads r.frame part x y = some (got, want)) (disturb : Word) :
    s.sealCheck part x y disturb =
      if got ^^^ disturb = want then s.advance (r.sealInstant part x y)
      else (((s.advance (r.sealInstant part x y)).flag .cmpEvent 2).dropRun).report
        (if part = .output then 0x42 else 0x41) := by
  simp only [State.sealCheck, hr, h]

/-- The check of a fallback pattern that the pass shows and no reload is to write again. -/
theorem patternCheck_eq (hr : s.comp.run = some r) {pl : Plate} (hpl : r.frame.plate = some pl)
    (hp : r.frame.pattern = true) (hb : s.comp.fbReload = false) (disturb : Word) :
    s.patternCheck disturb =
      if patternGood r.frame.mem pl.fbBank disturb then s
      else (((s.flag .cmpEvent 3).dropRun).report 0x45).onComp fun c => { c with fbReload := true } := by
  simp only [State.patternCheck, hr, hpl, hp, hb]
  cases patternGood r.frame.mem pl.fbBank disturb <;> rfl

theorem dropRun_eq (hr : s.comp.run = some r) (hd : r.dropped = false) :
    s.dropRun =
      ((s.onComp fun c => { c with run := some { r with dropped := true } }).count .cmpDiscardCnt 0 32).pmc 0x07 := by
  simp only [State.dropRun, hr, hd, Bool.false_eq_true, if_false]

end Sys2Proof.Machine

open Sys2Proof Sys2Proof.Machine

/-- Settles O38, check by check: one that agrees lets time pass at most, one that differs discards and reports. -/
theorem passChecks : Obligations.PassChecks := by
  intro s r disturb hi hr
  refine ⟨fun k hk hf hw => ?_, fun hf k => ?_, fun part x y => ⟨fun hn => ?_, fun got want hs => ?_⟩,
    fun pl hpl hp hb => ?_, dropRun_eq hr⟩
  · have hc : exec (.proofCompare k) s = finish (s.proofCompare k) := rfl
    rw [hc, proofCompare_eq hr hf hk hw]
    refine ⟨fun he => ?_, fun hne => ?_⟩
    · exact (congrArg finish (if_pos he)).trans (finish_of_inv (inv_advance hi _))
    · exact congrArg finish (if_neg hne)
  · exact (congrArg finish (proofCompare_fallback hr hf k)).trans (finish_of_inv hi)
  · exact (congrArg finish (sealCheck_none hr hn disturb)).trans (finish_of_inv hi)
  · have hc := sealCheck_some hr hs disturb
    refine ⟨fun he => ?_, fun hne => ?_⟩
    · exact (congrArg finish (hc.trans (if_pos he))).trans (finish_of_inv (inv_advance hi _))
    · exact congrArg finish (hc.trans (if_neg hne))
  · have hc := patternCheck_eq hr hpl hp hb disturb
    refine ⟨fun hg => ?_, fun hg => ?_⟩
    · rw [hg] at hc
      exact (congrArg finish hc).trans (finish_of_inv hi)
    · rw [hg] at hc
      exact congrArg finish hc
end

section
/-! Waiting commits: their ends, their results, and what makes them READY (R159 to R178). -/

namespace Sys2Proof.Machine

variable {s : State}

/-! ### Registers -/

/-- Registers that an event of a port may change: those that count a dropped one. -/
def eventKeys : List Nat :=
  [Reg.key .hptEvtDrop .A 0 0, Reg.key .hptEvent .A 0 0, Reg.key .hptEvtDrop .B 0 0, Reg.key .hptEvent .B 0 0]

theorem sameRegs_event_port (s : State) (p : Port) (code detail : Nat) : SameRegs eventKeys s (s.event p code detail) :=
  sameRegs_event s p code detail (by cases p <;> decide) (by cases p <;> decide)

/-- A register outside the keys and the performance counters reads as before. -/
theorem SameRegs.rdp {ks : List Nat} {t : State} (h : SameRegs ks s t) {p : Port} {r : Reg} {k j : Nat}
    (hk : r.key p k j ∉ ks) (hp : r.key p k j < 0x100000 ∨ 0x100104 ≤ r.key p k j) : t.rdp p r k j = s.rdp p r k j :=
  h _ _ hk hp

/-! ### What the commits' operations leave alone -/

/-- `t` differs from `s` in the waiting commits and their results, the staged palettes, and what an event of a port
changes. -/
structure CommitsMove (s t : State) : Prop where
  frame : t = { s with
    regs := t.regs
    cyc := t.cyc
    portA := t.portA
    portB := t.portB
    comp := { s.comp with
      commits := t.comp.commits
      resultsA := t.comp.resultsA
      resultsB := t.comp.resultsB
      stageA := t.comp.stageA
      stageB := t.comp.stageB } }
  regs : SameRegs eventKeys s t

namespace CommitsMove

theorem refl (s : State) : CommitsMove s s := ⟨rfl, .refl _ s⟩

theorem trans {s t u : State} (h : CommitsMove s t) (k : CommitsMove t u) : CommitsMove s u := by
  refine ⟨?_, h.regs.trans k.regs⟩
  have hu := k.frame
  rw [h.frame] at hu
  exact hu

theorem foldl {α : Type} {f : State → α → State} (hf : ∀ t a, CommitsMove t (f t a)) (l : List α) (s : State) :
    CommitsMove s (l.foldl f s) := by
  induction l generalizing s with
  | nil => exact refl s
  | cons a l ih => exact (hf s a).trans (ih _)

theorem power {t : State} (h : CommitsMove s t) : t.power = s.power := by rw [h.frame]

theorem inv {t : State} (h : CommitsMove s t) (hi : s.Inv) : t.Inv := by
  rw [h.frame]
  exact inv_of_view rfl hi

end CommitsMove

theorem commitsMove_setResults (s : State) (p : Port) (l : List CommitResult) : CommitsMove s (s.setResults p l) := by
  cases p <;> exact ⟨rfl, .of_regs rfl (.refl _ s)⟩

theorem commitsMove_showResult (s : State) (p : Port) (n : Nat) (st : CommitState) (code : Status) :
    CommitsMove s (s.showResult p n st code) := commitsMove_setResults s p _

theorem commitsMove_onCommits (s : State) (f : List Commit → List Commit) :
    CommitsMove s (s.onComp fun c => { c with commits := f c.commits }) := ⟨rfl, .of_regs rfl (.refl _ s)⟩

theorem commitsMove_event (s : State) (p : Port) (code detail : Nat) : CommitsMove s (s.event p code detail) := by
  refine ⟨?_, sameRegs_event_port s p code detail⟩
  obtain ⟨x, r, c, h⟩ := event_frame s p code detail
  rw [h]
  cases p <;> rfl

/-! ### Results (R199, R201) -/

/-- A result once commit `n` shows a state. -/
def CommitResult.showing (n : Nat) (st : CommitState) (code : Status) (r : CommitResult) : CommitResult :=
  if r.seq = n then { r with state := st, status := code } else r

/-- Every result of port `p` for commit `n` shows this state. -/
def Shows (s : State) (p : Port) (n : Nat) (st : CommitState) (code : Status) : Prop :=
  ∀ x ∈ s.results p, x.seq = n → x.state = st ∧ x.status = code

theorem results_congr {t : State} (h : t.comp = s.comp) (p : Port) : t.results p = s.results p := by
  cases p <;> simp only [State.results, h]

theorem setResults_results_same (s : State) (p : Port) (l : List CommitResult) : (s.setResults p l).results p = l := by
  cases p <;> rfl

@[simp] theorem setResults_commits (s : State) (p : Port) (l : List CommitResult) :
    (s.setResults p l).comp.commits = s.comp.commits := by
  cases p <;> rfl

@[simp] theorem showResult_commits (s : State) (p : Port) (n : Nat) (st : CommitState) (code : Status) :
    (s.showResult p n st code).comp.commits = s.comp.commits := setResults_commits s p _

/-- Only the results of the commit's own port show its new state. -/
theorem showResult_results (s : State) (p q : Port) (n : Nat) (st : CommitState) (code : Status) :
    (s.showResult p n st code).results q =
      if q = p then (s.results q).map (.showing n st code) else s.results q := by
  cases p <;> cases q <;> rfl

theorem showing_seq (n : Nat) (st : CommitState) (code : Status) (r : CommitResult) :
    (r.showing n st code).seq = r.seq := by
  unfold CommitResult.showing
  split <;> rfl

theorem showing_other {n : Nat} {st : CommitState} {code : Status} {r : CommitResult} (h : r.seq ≠ n) :
    r.showing n st code = r := if_neg h

/-- What results show depends on their list alone. -/
theorem Shows.congr {t : State} {p : Port} {n : Nat} {st : CommitState} {code : Status} (h : Shows s p n st code)
    (e : t.results p = s.results p) : Shows t p n st code := by
  unfold Shows
  rw [e]
  exact h

theorem shows_showResult (s : State) (p : Port) (n : Nat) (st : CommitState) (code : Status) :
    Shows (s.showResult p n st code) p n st code := by
  intro x hx hn
  rw [showResult_results, if_pos rfl, List.mem_map] at hx
  obtain ⟨r, -, rfl⟩ := hx
  rw [showing_seq] at hn
  simp [CommitResult.showing, hn]

/-- Another commit's new state leaves a result as it is; the same state shows again. -/
theorem Shows.showResult {p q : Port} {n m : Nat} {st st' : CommitState} {code code' : Status}
    (h : Shows s p n st code) (hm : m = n → st' = st ∧ code' = code) : Shows (s.showResult q m st' code') p n st code := by
  intro x hx hn
  rw [showResult_results] at hx
  split at hx
  · obtain ⟨r, hr, rfl⟩ := List.mem_map.1 hx
    rw [showing_seq] at hn
    by_cases hrm : r.seq = m
    · obtain ⟨rfl, rfl⟩ := hm (hrm.symm.trans hn)
      simp [CommitResult.showing, hrm]
    · rw [showing_other hrm]
      exact h r hr hn
  · exact h x hx hn

/-- The newest result stays where another commit shows a new state, or this one the state that it shows. -/
theorem head_showResult {p q : Port} {r : CommitResult} {m : Nat} {st : CommitState} {code : Status}
    (h : (s.results p).head? = some r) (hm : m = r.seq → st = r.state ∧ code = r.status) :
    ((s.showResult q m st code).results p).head? = some r := by
  rw [showResult_results]
  split
  · rw [List.head?_map, h, Option.map_some]
    congr 1
    by_cases hr : r.seq = m
    · obtain ⟨rfl, rfl⟩ := hm hr.symm
      simp [CommitResult.showing]
    · exact showing_other hr
  · exact h

/-! ### Ends of commits (R170) -/

/-- The release of palettes changes staged palettes only. -/
theorem releasePals_frame (p : Port) (l : List Nat) (s : State) :
    ∃ a b, s.releasePals p l = s.onComp fun c => { c with stageA := a, stageB := b } := by
  unfold State.releasePals
  induction l generalizing s with
  | nil => exact ⟨s.comp.stageA, s.comp.stageB, rfl⟩
  | cons q l ih =>
    rw [List.foldl_cons]
    split
    · exact ih s
    · obtain ⟨a, b, h⟩ := ih (s.onStage p q fun _ => {})
      refine ⟨a, b, h.trans ?_⟩
      cases p <;> rfl

theorem commitsMove_releasePals (s : State) (p : Port) (l : List Nat) : CommitsMove s (s.releasePals p l) := by
  obtain ⟨a, b, h⟩ := releasePals_frame p l s
  rw [h]
  exact ⟨rfl, .of_regs rfl (.refl _ s)⟩

theorem releasePals_commits (s : State) (p : Port) (l : List Nat) :
    (s.releasePals p l).comp.commits = s.comp.commits := by
  obtain ⟨a, b, h⟩ := releasePals_frame p l s
  rw [h]
  rfl

theorem releasePals_results (s : State) (p q : Port) (l : List Nat) :
    (s.releasePals p l).results q = s.results q := by
  obtain ⟨a, b, h⟩ := releasePals_frame p l s
  rw [h]
  cases q <;> rfl

theorem commitsMove_endCommit (s : State) (c : Commit) (st : CommitState) (code : Status) :
    CommitsMove s (s.endCommit c st code) :=
  (commitsMove_onCommits s _).trans ((commitsMove_showResult _ _ _ _ _).trans
    ((commitsMove_releasePals _ _ _).trans (commitsMove_event _ _ _ _)))

/-- A commit that ends leaves the list. -/
theorem endCommit_commits (s : State) (c : Commit) (st : CommitState) (code : Status) :
    (s.endCommit c st code).comp.commits = s.comp.commits.filter fun d => decide (d.seq ≠ c.seq) := by
  simp only [State.endCommit, event_comp, releasePals_commits, showResult_commits, onComp_comp]

/-- Its results show its end, and no other result changes. -/
theorem endCommit_results (s : State) (c : Commit) (st : CommitState) (code : Status) (q : Port) :
    (s.endCommit c st code).results q = (s.showResult c.port c.seq st code).results q := by
  rw [State.endCommit, results_congr (event_comp ..), releasePals_results, showResult_results, showResult_results]
  cases q <;> rfl

/-- Commits that end in the same way, one after the other. -/
def State.endAll (s : State) (st : CommitState) (code : Status) (l : List Commit) : State :=
  l.foldl (fun t c => t.endCommit c st code) s

theorem endAll_cons (s : State) (st : CommitState) (code : Status) (c : Commit) (l : List Commit) :
    s.endAll st code (c :: l) = (s.endCommit c st code).endAll st code l := rfl

theorem commitsMove_endAll (s : State) (st : CommitState) (code : Status) (l : List Commit) :
    CommitsMove s (s.endAll st code l) := .foldl (fun t c => commitsMove_endCommit t c st code) l s

/-- The commits with other numbers stay. -/
theorem mem_endAll_commits {st : CommitState} {code : Status} {l : List Commit} {d : Commit} :
    d ∈ (s.endAll st code l).comp.commits ↔ d ∈ s.comp.commits ∧ ∀ c ∈ l, d.seq ≠ c.seq := by
  induction l generalizing s with
  | nil => simp [State.endAll]
  | cons c l ih =>
    rw [endAll_cons, ih, endCommit_commits, List.mem_filter, List.forall_mem_cons, and_assoc, decide_eq_true_iff]

theorem Shows.endAll {p : Port} {n : Nat} {st : CommitState} {code : Status} (h : Shows s p n st code)
    (l : List Commit) : Shows (s.endAll st code l) p n st code := by
  induction l generalizing s with
  | nil => exact h
  | cons c l ih => exact ih ((h.showResult fun _ => ⟨rfl, rfl⟩).congr (endCommit_results s c st code p))

/-- The results of the ended commits show their end. -/
theorem shows_endAll {st : CommitState} {code : Status} {l : List Commit} {d : Commit} (h : d ∈ l) :
    Shows (s.endAll st code l) d.port d.seq st code := by
  induction l generalizing s with
  | nil => cases h
  | cons c l ih =>
    rcases List.mem_cons.1 h with rfl | hl
    · exact ((shows_showResult s d.port d.seq st code).congr (endCommit_results s d st code d.port)).endAll l
    · exact ih hl

/-- The newest result stays where it is not one of theirs. -/
theorem head_endAll {p : Port} {r : CommitResult} {st : CommitState} {code : Status} {l : List Commit}
    (h : (s.results p).head? = some r) (hl : ∀ c ∈ l, c.seq ≠ r.seq) :
    ((s.endAll st code l).results p).head? = some r := by
  induction l generalizing s with
  | nil => exact h
  | cons c l ih =>
    obtain ⟨hc, hl⟩ := List.forall_mem_cons.1 hl
    refine ih ?_ hl
    rw [endCommit_results]
    exact head_showResult h fun e => absurd e hc

/-! ### Commits that become READY (R167, R170) -/

/-- A commit becomes READY, and its result shows it. -/
def State.readied (s : State) (c : Commit) : State :=
  (s.onCommit c.seq fun d => { d with state := .ready }).showResult c.port c.seq .ready .ok

/-- The PENDING commits that can become READY. -/
def State.dueCommits (s : State) : List Commit :=
  s.comp.commits.filter fun c => decide (c.state = .pending) && s.canReady c

theorem readyCommits_eq (s : State) : s.readyCommits = s.dueCommits.foldl State.readied s := rfl

theorem commitsMove_readied (s : State) (c : Commit) : CommitsMove s (s.readied c) :=
  (commitsMove_onCommits s _).trans (commitsMove_showResult _ _ _ _ _)

theorem commitsMove_readyCommits (s : State) : CommitsMove s s.readyCommits := .foldl commitsMove_readied _ s

/-- `e` is commit `d`, which may have become READY. -/
def Commit.MayReady (d e : Commit) : Prop := e = d ∨ e = { d with state := .ready }

theorem Commit.MayReady.trans {c d e : Commit} (h : c.MayReady d) (k : d.MayReady e) : c.MayReady e := by
  rcases h with rfl | rfl
  · exact k
  · exact .inr (k.elim id id)

theorem Commit.MayReady.seq {d e : Commit} (h : d.MayReady e) : e.seq = d.seq := by
  rcases h with rfl | rfl <;> rfl

theorem Commit.MayReady.layers {d e : Commit} (h : d.MayReady e) : e.layers = d.layers := by
  rcases h with rfl | rfl <;> rfl

theorem Commit.MayReady.sealApplied {d e : Commit} (h : d.MayReady e) : e.sealApplied = d.sealApplied := by
  rcases h with rfl | rfl <;> rfl

theorem Commit.MayReady.of_ready {d e : Commit} (h : d.MayReady e) (hd : d.state = .ready) : e = d := by
  rcases h with rfl | rfl
  · rfl
  · rw [← hd]

/-- Every commit of `s` stands in `t`, and `t` holds no others; they may have become READY. -/
structure ReadiesIn (s t : State) : Prop where
  stays : ∀ d ∈ s.comp.commits, ∃ e ∈ t.comp.commits, d.MayReady e
  only : ∀ e ∈ t.comp.commits, ∃ d ∈ s.comp.commits, d.MayReady e

theorem readiesIn_readied (s : State) (c : Commit) : ReadiesIn s (s.readied c) := by
  have hc : (s.readied c).comp.commits =
      s.comp.commits.map fun d => if d.seq = c.seq then { d with state := .ready } else d := by
    simp only [State.readied, showResult_commits]
    rfl
  have hm (d : Commit) : d.MayReady (if d.seq = c.seq then { d with state := .ready } else d) := by
    split
    · exact .inr rfl
    · exact .inl rfl
  refine ⟨fun d hd => ⟨_, hc ▸ List.mem_map_of_mem hd, hm d⟩, fun e he => ?_⟩
  rw [hc] at he
  obtain ⟨d, hd, rfl⟩ := List.mem_map.1 he
  exact ⟨d, hd, hm d⟩

theorem readiesIn_foldl (l : List Commit) (s : State) : ReadiesIn s (l.foldl State.readied s) := by
  induction l generalizing s with
  | nil => exact ⟨fun d hd => ⟨d, hd, .inl rfl⟩, fun e he => ⟨e, he, .inl rfl⟩⟩
  | cons c l ih =>
    refine ⟨fun d hd => ?_, fun e he => ?_⟩
    · obtain ⟨d', hd', h⟩ := (readiesIn_readied s c).stays d hd
      obtain ⟨e, he, k⟩ := (ih _).stays d' hd'
      exact ⟨e, he, h.trans k⟩
    · obtain ⟨d', hd', k⟩ := (ih _).only e he
      obtain ⟨d, hd, h⟩ := (readiesIn_readied s c).only d' hd'
      exact ⟨d, hd, h.trans k⟩

theorem readiesIn_readyCommits (s : State) : ReadiesIn s s.readyCommits := readiesIn_foldl _ s

theorem readied_results (s : State) (c : Commit) (q : Port) :
    (s.readied c).results q = (s.showResult c.port c.seq .ready .ok).results q := by
  simp only [State.readied, showResult_results]
  cases q <;> rfl

/-- The results of a number that no waiting commit has stay. -/
theorem Shows.readyCommits {p : Port} {n : Nat} {st : CommitState} {code : Status} (h : Shows s p n st code)
    (hn : ∀ c ∈ s.comp.commits, c.seq ≠ n) : Shows s.readyCommits p n st code := by
  have hl : ∀ c ∈ s.dueCommits, c.seq ≠ n := fun c hc => hn c (List.mem_filter.1 hc).1
  rw [readyCommits_eq]
  generalize s.dueCommits = l at hl
  clear hn
  induction l generalizing s with
  | nil => exact h
  | cons c l ih =>
    obtain ⟨hc, hl⟩ := List.forall_mem_cons.1 hl
    exact ih ((h.showResult fun e => absurd e hc).congr (readied_results s c p)) hl

/-- The newest result stays where it shows READY. -/
theorem head_readyCommits {p : Port} {r : CommitResult} (h : (s.results p).head? = some r) (hr : r.state = .ready)
    (hc : r.status = .ok) : (s.readyCommits.results p).head? = some r := by
  rw [readyCommits_eq]
  generalize s.dueCommits = l
  induction l generalizing s with
  | nil => exact h
  | cons c l ih =>
    refine ih ?_
    rw [readied_results]
    exact head_showResult h fun _ => ⟨hr.symm, hc.symm⟩

end Sys2Proof.Machine
end

section
/-! The exit from HOLD (R458), and a commit that is accepted or refused (R159 to R178). -/

namespace Sys2Proof.Machine

variable {s : State}

/-! ### Leaving HOLD -/

/-- The waiting commits and their results are the same, and so is every register but those that an event of a port
changes. -/
structure SameCommits (s t : State) : Prop where
  commits : t.comp.commits = s.comp.commits
  results : ∀ p, t.results p = s.results p
  regs : SameRegs eventKeys s t

namespace SameCommits

theorem refl (s : State) : SameCommits s s := ⟨rfl, fun _ => rfl, .refl _ s⟩

theorem trans {s t u : State} (h : SameCommits s t) (k : SameCommits t u) : SameCommits s u :=
  ⟨k.commits.trans h.commits, fun p => (k.results p).trans (h.results p), h.regs.trans k.regs⟩

theorem of_comp {t : State} (hc : t.comp = s.comp) (hr : t.regs = s.regs) : SameCommits s t :=
  ⟨by rw [hc], results_congr hc, .of_regs hr (.refl _ s)⟩

end SameCommits

theorem sameCommits_event (s : State) (p : Port) (code detail : Nat) : SameCommits s (s.event p code detail) :=
  ⟨by rw [event_comp], results_congr (event_comp ..), sameRegs_event_port s p code detail⟩

/-- `t` differs from `s` in the guardian only. -/
def GuardOnly (s t : State) : Prop := t = { s with guard := t.guard }

theorem GuardOnly.trans {s t u : State} (h : GuardOnly s t) (k : GuardOnly t u) : GuardOnly s u := by
  unfold GuardOnly at *
  rw [h] at k
  exact k

theorem GuardOnly.ite {c : Prop} [Decidable c] {s t u : State} (h : GuardOnly s t) (k : GuardOnly s u) :
    GuardOnly s (if c then t else u) := by
  split
  · exact h
  · exact k

theorem guardOnly_faFollow (s : State) : GuardOnly s s.faFollow := .ite rfl rfl

theorem guardOnly_guardOutputs (s : State) : GuardOnly s s.guardOutputs := by
  unfold State.guardOutputs
  extract_lets s1 s2
  have h1 : GuardOnly s s1 := .ite (.ite rfl (by split <;> rfl)) rfl
  have h2 : GuardOnly s1 s2 := .ite (.ite rfl rfl) (.ite rfl rfl)
  exact (h1.trans h2).trans (guardOnly_faFollow s2)

/-- A new power state. -/
theorem powerIs_power (s : State) (x : PowerState) : (s.powerIs x).power = { s.power with state := x, trans := none } := by
  have h := guardOnly_guardOutputs (s.onPower fun w => { w with state := x, trans := none })
  rw [State.powerIs, State.eventAll, event_power, event_power, h]
  rfl

theorem sameCommits_powerIs (s : State) (x : PowerState) : SameCommits s (s.powerIs x) := by
  have hg : SameCommits s (s.onPower fun w => { w with state := x, trans := none }).guardOutputs := by
    rw [guardOnly_guardOutputs]
    exact .of_comp rfl rfl
  exact hg.trans ((sameCommits_event _ _ _ _).trans (sameCommits_event _ _ _ _))

/-- Lanes that enter CHECK change their port and its link only. -/
theorem lanesUnhold_frame (s : State) (p : Port) : ∃ x l, s.lanesUnhold p = (s.setPort p x).setLink p l := by
  unfold State.lanesUnhold State.startCheck
  extract_lets l named
  split
  · exact ⟨s.port p, s.link p, by cases p <;> rfl⟩
  · cases p <;> exact ⟨_, _, rfl⟩

theorem lanesUnhold_power (s : State) (p : Port) : (s.lanesUnhold p).power = s.power := by
  obtain ⟨x, l, h⟩ := lanesUnhold_frame s p
  rw [h]
  cases p <;> rfl

theorem sameCommits_lanesUnhold (s : State) (p : Port) : SameCommits s (s.lanesUnhold p) := by
  obtain ⟨x, l, h⟩ := lanesUnhold_frame s p
  rw [h]
  cases p <;> exact .of_comp rfl rfl

/-- The frames that HOLD composed go with the candidate, the running pass and the pending flip; nothing else changes. -/
theorem dropHoldFrames_frame (s : State) :
    s.dropHoldFrames = { s with
      comp := { s.comp with cand := s.dropHoldFrames.comp.cand, run := s.dropHoldFrames.comp.run }
      scan := { s.scan with flipPend := s.dropHoldFrames.scan.flipPend } } := by
  unfold State.dropHoldFrames
  extract_lets other gone s1
  cases gone <;> rfl

theorem sameCommits_dropHoldFrames (s : State) : SameCommits s s.dropHoldFrames := by
  rw [dropHoldFrames_frame]
  exact ⟨rfl, fun p => by cases p <;> rfl, .of_regs rfl (.refl _ s)⟩

theorem exitHold_power (s : State) : s.exitHold.power = { s.power with state := .run, trans := none } := by
  rw [State.exitHold, lanesUnhold_power, lanesUnhold_power, onComp_power, onScan_power, powerIs_power,
    dropHoldFrames_frame]

theorem sameCommits_exitHold (s : State) : SameCommits s s.exitHold := by
  have hs (t : State) : SameCommits t (t.onScan fun c => { c with replay := false }) := .of_comp rfl rfl
  have hn (t : State) : SameCommits t (t.onComp fun c => { c with noWait := true }) :=
    ⟨rfl, fun p => by cases p <;> rfl, .of_regs rfl (.refl _ t)⟩
  exact (sameCommits_dropHoldFrames s).trans ((sameCommits_powerIs _ _).trans ((hs _).trans
    ((hn _).trans ((sameCommits_lanesUnhold _ _).trans (sameCommits_lanesUnhold _ _)))))

theorem leaveHold_idle (h : s.power.state = .hold) (ht : s.power.trans = none) : s.leaveHold = s.exitHold := by
  simp only [State.leaveHold, h, ht, if_true]

theorem leaveHold_standby {t : Transition} (h : s.power.state = .hold) (ht : s.power.trans = some t)
    (hs : t.target = .standby) :
    s.leaveHold = s.onPower fun w => { w with trans := some { t with leave := true } } := by
  simp only [State.leaveHold, h, ht, hs, if_true]

theorem leaveHold_other {t : Transition} (h : s.power.state = .hold) (ht : s.power.trans = some t)
    (hs : t.target ≠ .standby) : s.leaveHold = s := by
  simp only [State.leaveHold, h, ht, if_neg hs, if_true]

theorem leaveHold_out (h : s.power.state ≠ .hold) : s.leaveHold = s := if_neg h

/-- An exit from HOLD leaves the commits alone. -/
theorem sameCommits_leaveHold (s : State) : SameCommits s s.leaveHold := by
  by_cases h : s.power.state = .hold
  · cases ht : s.power.trans with
    | none =>
      rw [leaveHold_idle h ht]
      exact sameCommits_exitHold s
    | some t =>
      by_cases hs : t.target = .standby
      · rw [leaveHold_standby h ht hs]
        exact .of_comp rfl rfl
      · rw [leaveHold_other h ht hs]
        exact .refl s
  · rw [leaveHold_out h]
    exact .refl s

/-! ### Acceptance (R159, R160, R170) -/

/-- The next sequence number is shown, and the commit is counted. -/
def State.numbered (s : State) (p : Port) : State :=
  ((s.wr .cmpCommitCnt (word s.nextSeq)).wrp p .cmpClast (word s.nextSeq)).pmc 0x08

/-- An accepted commit has entered the list and the results of its port. -/
def State.entered (s : State) (pl : Plate) (p : Port) (v : Word) : State :=
  let c := s.newCommit pl p v s.nextSeq
  ((s.numbered p).onComp fun x => { x with commits := x.commits ++ [c] }).setResults p
    (({ seq := s.nextSeq, state := c.state, status := .ok } :: s.results p).take 16)

/-- The earlier Seal commits that commit `n` supersedes. -/
def State.supersededBy (s : State) (n : Nat) : List Commit :=
  s.comp.commits.filter fun c => c.live && c.hasSeal && !c.sealApplied && decide (c.seq ≠ n)

theorem supersede_eq (s : State) (n : Nat) : s.supersede n = s.endAll .superseded .ok (s.supersededBy n) := rfl

theorem numbered_comp (s : State) (p : Port) : (s.numbered p).comp = s.comp := by simp [State.numbered]

theorem numbered_power (s : State) (p : Port) : (s.numbered p).power = s.power := by simp [State.numbered]

theorem acceptCommit_eq (s : State) (pl : Plate) (p : Port) (v : Word) :
    s.acceptCommit pl p v =
      if bit v 6 then
        (if bit v 6 then (s.entered pl p v).supersede s.nextSeq else s.entered pl p v).readyCommits.leaveHold
      else (if bit v 6 then (s.entered pl p v).supersede s.nextSeq else s.entered pl p v).readyCommits := by
  have hr : ((s.numbered p).onComp fun x => { x with commits := x.commits ++ [s.newCommit pl p v s.nextSeq] }).results p =
      s.results p := by
    cases p <;> simp only [State.results, onComp_comp, numbered_comp]
  rw [State.entered, ← hr]
  rfl

theorem acceptCommit_general {v : Word} (h : bit v 6 = false) (s : State) (pl : Plate) (p : Port) :
    s.acceptCommit pl p v = (s.entered pl p v).readyCommits := by
  simp only [acceptCommit_eq, h, Bool.false_eq_true, if_false]

/-- A Seal commit supersedes the earlier ones, and leaves HOLD (R176, R177). -/
theorem acceptCommit_seal {v : Word} (h : bit v 6 = true) (s : State) (pl : Plate) (p : Port) :
    s.acceptCommit pl p v = ((s.entered pl p v).supersede s.nextSeq).readyCommits.leaveHold := by
  simp only [acceptCommit_eq, h, if_true]

theorem commitsMove_entered (s : State) (pl : Plate) (p : Port) (v : Word) :
    CommitsMove (s.numbered p) (s.entered pl p v) :=
  (commitsMove_onCommits (s.numbered p) (· ++ [s.newCommit pl p v s.nextSeq])).trans (commitsMove_setResults _ p _)

theorem inv_numbered (h : s.Inv) (p : Port) : (s.numbered p).Inv :=
  inv_congr (by simp [State.numbered]) (by simp [State.numbered]) (by simp [State.numbered]) (by simp [State.numbered])
    (by simp [State.numbered]) (by simp [State.numbered]) (by simp [State.numbered]) h

theorem entered_commits (s : State) (pl : Plate) (p : Port) (v : Word) :
    (s.entered pl p v).comp.commits = s.comp.commits ++ [s.newCommit pl p v s.nextSeq] := by
  simp only [State.entered, setResults_commits, onComp_comp, numbered_comp]

theorem head_entered (s : State) (pl : Plate) (p : Port) (v : Word) :
    ((s.entered pl p v).results p).head? =
      some { seq := s.nextSeq, state := (s.newCommit pl p v s.nextSeq).state, status := .ok } := by
  rw [State.entered, setResults_results_same]
  rfl

/-- CMP_COMMIT_CNT shows the number of the accepted commit. -/
theorem numbered_count (s : State) (p : Port) : (s.numbered p).rd .cmpCommitCnt = word s.nextSeq := by
  have h : SameRegs [Reg.key .cmpClast p 0 0] (s.wr .cmpCommitCnt (word s.nextSeq)) (s.numbered p) :=
    (sameRegs_wrp _ p .cmpClast _ 0 0 (by simp)).trans (sameRegs_pmc _ _ _ _)
  exact (h.rdp (p := .A) (by cases p <;> decide) (by decide)).trans (rd_wr_same _ _ _ _ _)

/-! ### The commit that is made -/

/-- A commit is READY at once when it belongs to no group and its fence is met (R167, R170). -/
theorem newCommit_ready_iff (s : State) (pl : Plate) (p : Port) (v : Word) (n : Nat) :
    (s.newCommit pl p v n).state = .ready ↔ groupOf v = 0 ∧ s.fenceMet (s.newCommit pl p v n) = true := by
  have h : (s.newCommit pl p v n).state =
      if groupOf v = 0 ∧ s.fenceMet (s.newCommit pl p v n) then .ready else .pending := rfl
  rw [h]
  split <;> simp_all

theorem ite_some_eq_none {α : Type} {c : Prop} [Decidable c] {a : α} {o : Option α} :
    (if c then some a else o) = none ↔ ¬c ∧ o = none := by
  split <;> simp [*]

/-- The checks of R161 that a Seal commit has passed: STATE and CRC_FAIL. -/
theorem checks_of_accepted {pl : Plate} {p : Port} {v : Word} (hpl : s.boot.plate = some pl)
    (h : s.commitRefusal p v = none) : s.commitState pl p v = false ∧ s.commitCrc pl p v = false := by
  simp only [State.commitRefusal, hpl, ite_some_eq_none, Bool.not_eq_true] at h
  obtain ⟨-, -, -, hstate, -, hcrc, -⟩ := h
  exact ⟨hstate, hcrc⟩

/-- A Seal commit belongs to no group and has no fence (R161). -/
theorem ungrouped_of_seal {pl : Plate} {p : Port} {v : Word} (h : s.commitState pl p v = false) (hv : bit v 6 = true) :
    groupOf v = 0 ∧ bit v 12 = false := by
  simp only [State.commitState, hv, Bool.or_eq_false_iff, Bool.true_and, decide_eq_false_iff_not,
    Decidable.not_not] at h
  obtain ⟨⟨⟨-, hgroup, hfence⟩, -⟩, -⟩ := h
  exact ⟨hgroup, hfence⟩

/-- The content check value of an accepted Seal commit is that of the Seal source rows (R178). -/
theorem sealCrc_of_accepted {pl : Plate} {p : Port} {v : Word} (h : s.commitCrc pl p v = false) (hv : bit v 6 = true)
    (he : (s.stagedLayer p 6).en = true) (n : Nat) :
    (s.newCommit pl p v n).sealCrc = sealCrc pl s.mem (s.stagedLayer p 6) := by
  simp only [State.commitCrc, hv, he, Bool.true_and, Bool.or_eq_false_iff, decide_eq_false_iff_not,
    Decidable.not_not] at h
  exact h.2.symm

theorem fenceMet_of_none {c : Commit} (h : c.fence = none) : s.fenceMet c = true := by
  simp only [State.fenceMet, h]

/-! ### An accepted Seal commit -/

/-- The state once an accepted Seal commit has superseded the earlier ones and every due commit is READY. -/
def State.sealTaken (s : State) (pl : Plate) (p : Port) (v : Word) : State :=
  ((s.entered pl p v).supersede s.nextSeq).readyCommits

theorem mem_superseded {pl : Plate} {p : Port} {v : Word} {d : Commit} :
    d ∈ (s.entered pl p v).supersededBy s.nextSeq ↔
      d ∈ s.comp.commits ∧ d.live = true ∧ d.hasSeal = true ∧ d.sealApplied = false ∧ d.seq ≠ s.nextSeq := by
  have hc (h : d = s.newCommit pl p v s.nextSeq) : d.seq = s.nextSeq := h ▸ rfl
  simp only [State.supersededBy, List.mem_filter, entered_commits, List.mem_append, List.mem_singleton, Bool.and_eq_true,
    Bool.not_eq_true', decide_eq_true_iff]
  constructor
  · rintro ⟨hd | hd, ⟨⟨h1, h2⟩, h3⟩, h4⟩
    · exact ⟨hd, h1, h2, h3, h4⟩
    · exact absurd (hc hd) h4
  · rintro ⟨hd, h1, h2, h3, h4⟩
    exact ⟨.inl hd, ⟨⟨h1, h2⟩, h3⟩, h4⟩

theorem seq_ne_of_superseded {pl : Plate} {p : Port} {v : Word} {d : Commit}
    (h : d ∈ (s.entered pl p v).supersededBy s.nextSeq) : d.seq ≠ s.nextSeq := by
  obtain ⟨-, -, -, -, hne⟩ := mem_superseded.1 h
  exact hne

/-- The commits that stay are those that it does not supersede, and itself. -/
theorem mem_afterSupersede {pl : Plate} {p : Port} {v : Word} {d : Commit} :
    d ∈ ((s.entered pl p v).supersede s.nextSeq).comp.commits ↔
      (d ∈ s.comp.commits ∨ d = s.newCommit pl p v s.nextSeq) ∧
        ∀ e ∈ (s.entered pl p v).supersededBy s.nextSeq, d.seq ≠ e.seq := by
  rw [supersede_eq, mem_endAll_commits, entered_commits, List.mem_append, List.mem_singleton]

theorem commitsMove_sealTaken (s : State) (pl : Plate) (p : Port) (v : Word) :
    CommitsMove (s.numbered p) (s.sealTaken pl p v) :=
  (commitsMove_entered s pl p v).trans ((commitsMove_endAll _ _ _ _).trans (commitsMove_readyCommits _))

theorem sealTaken_power (s : State) (pl : Plate) (p : Port) (v : Word) : (s.sealTaken pl p v).power = s.power :=
  (commitsMove_sealTaken s pl p v).power.trans (numbered_power s p)

/-- The READY commit itself stands in the list. -/
theorem new_mem_sealTaken {pl : Plate} {p : Port} {v : Word} (h : (s.newCommit pl p v s.nextSeq).state = .ready) :
    s.newCommit pl p v s.nextSeq ∈ (s.sealTaken pl p v).comp.commits := by
  have hm : s.newCommit pl p v s.nextSeq ∈ ((s.entered pl p v).supersede s.nextSeq).comp.commits :=
    mem_afterSupersede.2 ⟨.inr rfl, fun e he => (seq_ne_of_superseded he).symm⟩
  obtain ⟨e, he, hr⟩ := (readiesIn_readyCommits _).stays _ hm
  rwa [hr.of_ready h] at he

/-- Its result is the newest of its port. -/
theorem head_sealTaken {pl : Plate} {p : Port} {v : Word} (h : (s.newCommit pl p v s.nextSeq).state = .ready) :
    ((s.sealTaken pl p v).results p).head? = some { seq := s.nextSeq, state := .ready, status := .ok } := by
  have he := head_entered s pl p v
  rw [h] at he
  exact head_readyCommits (head_endAll he fun e => seq_ne_of_superseded) rfl rfl

/-- An earlier Seal commit whose Seal layer is not applied ends as SUPERSEDED (R177). -/
theorem endsAs_sealTaken {pl : Plate} {p : Port} {v : Word} {d : Commit}
    (h : d ∈ (s.entered pl p v).supersededBy s.nextSeq) : EndsAs (s.sealTaken pl p v) d .superseded := by
  have hgone : ∀ e ∈ ((s.entered pl p v).supersede s.nextSeq).comp.commits, e.seq ≠ d.seq :=
    fun e he => (mem_afterSupersede.1 he).2 d h
  refine ⟨fun e he => ?_, (shows_endAll h).readyCommits hgone⟩
  obtain ⟨e', he', hr⟩ := (readiesIn_readyCommits _).only e he
  rw [hr.seq]
  exact hgone e' he'

/-- Every other commit stays, with its layers. -/
theorem stays_sealTaken {pl : Plate} {p : Port} {v : Word} {d : Commit} (hd : d ∈ s.comp.commits)
    (h : ∀ e ∈ (s.entered pl p v).supersededBy s.nextSeq, e.seq ≠ d.seq) :
    ∃ e ∈ (s.sealTaken pl p v).comp.commits, e.seq = d.seq ∧ e.layers = d.layers ∧ e.sealApplied = d.sealApplied := by
  obtain ⟨e, he, hr⟩ := (readiesIn_readyCommits _).stays d (mem_afterSupersede.2 ⟨.inl hd, fun x hx => (h x hx).symm⟩)
  exact ⟨e, he, hr.seq, hr.layers, hr.sealApplied⟩

/-- CMP_COMMIT_CNT shows its number, also after HOLD is left. -/
theorem count_sealTaken (s : State) (pl : Plate) (p : Port) (v : Word) :
    (s.sealTaken pl p v).leaveHold.rd .cmpCommitCnt = word s.nextSeq :=
  (((commitsMove_sealTaken s pl p v).regs.trans (sameCommits_leaveHold _).regs).rdp (p := .A) (by decide)
    (by decide)).trans (numbered_count s p)

theorem EndsAs.congr {u t : State} {d : Commit} {st : CommitState} (h : EndsAs u d st) (k : SameCommits u t) :
    EndsAs t d st := by
  unfold EndsAs
  rw [k.commits, k.results]
  exact h

/-! ### The write of CMP_COMMIT (R161) -/

theorem commit_accepted {pl : Plate} {p : Port} {v : Word} (hpl : s.boot.plate = some pl)
    (h : s.commitRefusal p v = none) : s.commit p v = (.ok, s.acceptCommit pl p v) := by
  simp only [State.commit, h, hpl]

theorem commit_refused {p : Port} {v : Word} {st : Status} (h : s.commitRefusal p v = some st) :
    s.commit p v = (st, s.sealReport p st) := by
  simp only [State.commit, h]

/-- Without an uncorrectable error in the Seal content a refused commit changes nothing. -/
theorem sealReport_clean {pl : Plate} {p : Port} (hpl : s.boot.plate = some pl)
    (h : s.sealUe pl (s.stagedLayer p 6) = false) (st : Status) : s.sealReport p st = s := by
  simp [State.sealReport, hpl, h]

/-- A write of CMP_COMMIT in a plated device is a commit. -/
theorem regWrite_commit {p : Port} {w : Path} {v : Word} {pl : Plate} (ha : s.answers .cmpCommit 0)
    (hpl : s.boot.plate = some pl) :
    (s.begun p w).regWrite p (Reg.addr .cmpCommit 0 0) v = (s.begun p w).commit p (v &&& 0xFFFF1F7F) := by
  have he : (s.begun p w).earlyRefusal .cmpCommit 0 v = none := by
    rw [earlyRefusal_begun (by decide)]
    simp [State.earlyRefusal, hpl]
  exact regWrite_reg (place_addr .cmpCommit (by decide) (by decide)) he (answers_begun ha p w)

end Sys2Proof.Machine

open Sys2Proof Sys2Proof.Machine

/-- Settles O26: a Seal commit enters the list, supersedes the earlier ones, makes the due ones READY and leaves HOLD, in
this order; the later steps keep what the earlier ones have done. -/
theorem commitAcceptance : Obligations.CommitAcceptance := by
  intro s p w v pl hi ha hpl x b seq c
  have hb : b.Inv := inv_begun hi p w
  have hplb : b.boot.plate = some pl := by rw [begun_boot]; exact hpl
  have hput {st : Status} {f : State → State} (h : b.commit p x = (st, f b)) :
      exec (.cmpCommitWrite p w v) s = .next (s.written p w st f).rests :=
    finish_writeRequest ha.1 ha.2.1 ((regWrite_commit ha hpl).trans h)
  have hstill {st : Status} {f : State → State} (h : b.commit p x = (st, f b)) (hk : (f b).Inv) :
      exec (.cmpCommitWrite p w v) s = .next (s.written p w st f) :=
    (hput h).trans (congrArg _ (rests_written hk))
  refine ⟨fun hok hv => ⟨?_, rfl, rfl, rfl, rfl, hv, newCommit_ready_iff b pl p x seq⟩, fun hok hv => ?_,
    fun st hno => ⟨hput (commit_refused hno), fun hue => ?_⟩⟩
  · have hacc := (commit_accepted hplb hok).trans (congrArg _ (acceptCommit_general hv b pl p))
    exact hstill hacc ((commitsMove_readyCommits _).inv ((commitsMove_entered b pl p x).inv (inv_numbered hb p)))
  · intro u v6 old
    obtain ⟨hstate, hcrc⟩ := checks_of_accepted hplb hok
    obtain ⟨hgroup, hfence⟩ := ungrouped_of_seal hstate hv
    have hnone : c.fence = none := if_neg (by simp [hfence])
    have hready : c.state = .ready := (newCommit_ready_iff b pl p x seq).2 ⟨hgroup, fenceMet_of_none hnone⟩
    have hu : u = (b.sealTaken pl p x).leaveHold := acceptCommit_seal hv b pl p
    have hsame : SameCommits (b.sealTaken pl p x) u := hu ▸ sameCommits_leaveHold _
    have hold (d : Commit) : d ∈ (b.entered pl p x).supersededBy seq ↔ old d := by
      rw [mem_superseded, begun_comp]
    have hpow := (sealTaken_power b pl p x).trans (begun_power s p w)
    refine ⟨hput (f := fun _ => u) (commit_accepted hplb hok), rfl, rfl, rfl, rfl, hv, hgroup, hnone, hready, ?_, ?_, ?_,
      fun he => ?_, fun d hd => ?_, fun d hd _ hne => ?_, fun hh ht => ?_, fun t hh ht hs => ?_, fun hh => ?_⟩
    · rw [hsame.commits]
      exact new_mem_sealTaken hready
    · rw [hu]
      exact count_sealTaken b pl p x
    · rw [hsame.results]
      exact head_sealTaken hready
    · rw [sealCrc_of_accepted hcrc hv he, begun_mem]
      rfl
    · exact EndsAs.congr (endsAs_sealTaken ((hold d).2 hd)) hsame
    · rw [hsame.commits]
      exact stays_sealTaken (by rw [begun_comp]; exact hd) fun e he => hne e ((hold e).1 he)
    · rw [← hpow] at hh ht ⊢
      rw [hu, leaveHold_idle hh ht, exitHold_power]
    · rw [← hpow] at hh ht ⊢
      rw [hu, leaveHold_standby hh ht hs, onPower_power]
    · rw [← hpow] at hh ⊢
      rw [hu, leaveHold_out hh]
  · have hno' := commit_refused hno
    rw [sealReport_clean hplb hue] at hno'
    exact hstill (f := id) hno' hb
end

section
/-! Link commands that act as a write of a register (R159, R167, R211, R284). -/

namespace Sys2Proof.Machine

variable {s : State}

/-! ### The control die goes on running -/

/-- Whether the control die runs depends on the stage of its start alone. -/
theorem controlOn_congr {t : State} (h : t.power.stage = s.power.stage) : t.controlOn = s.controlOn := by
  simp only [State.controlOn, h]

theorem controlOn_of_power {t : State} (h : t.power = s.power) : t.controlOn = s.controlOn :=
  controlOn_congr (congrArg _ h)

@[simp] theorem flag_power (s : State) (r : Reg) (i k : Nat) : (s.flag r i k).power = s.power := rfl

@[simp] theorem count_power (s : State) (r : Reg) (lsb width n k j : Nat) :
    (s.count r lsb width n k j).power = s.power := rfl

theorem leased_power (s : State) (p : Port) : (s.leased p).power = s.power := by simp [State.leased]

theorem blockOff_power (s : State) (p : Port) : (s.blockOff p).power = s.power := by
  rw [State.blockOff, pmc_power]
  rfl

theorem slotAction_power (s : State) (p : Port) (k action : Nat) : (s.slotAction p k action).2.power = s.power := by
  unfold State.slotAction
  extract_lets x
  split
  · rfl
  · exact leased_power s p
  · exact leased_power s p
  · simp only [apply_ite Prod.snd, apply_ite State.power, State.onSlot, onComp_power, ite_self]

theorem slotCommand_power (s : State) (p : Port) (k action : Nat) : (s.slotCommand p k action).2.power = s.power := by
  unfold State.slotCommand
  split
  · rfl
  · simp only [apply_ite Prod.snd, apply_ite State.power, slotAction_power, ite_self]

theorem semAcquire_power (s : State) (p : Port) (k : Nat) : (s.semAcquire p k).2.power = s.power := by
  unfold State.semAcquire
  split
  · rfl
  · split <;> rfl

theorem endSession_power (s : State) (t : Bool) (phase : Nat) : (s.endSession t phase).power = s.power := by
  unfold State.endSession
  split <;> rfl

theorem semFreed_power (s : State) (k : Nat) : (s.semFreed k).power = s.power := by
  simp only [State.semFreed, apply_ite State.power, endSession_power, ite_self]

theorem semRelease_power (s : State) (p : Port) (k : Nat) : (s.semRelease p k).2.power = s.power := by
  unfold State.semRelease
  split
  · rfl
  · split
    · rw [event_power, semFreed_power]
      rfl
    · rfl

theorem fenceSignal_power (s : State) (k : Nat) : (s.fenceSignal k).power = s.power :=
  (commitsMove_readyCommits _).power

/-- An exit from HOLD is no start of the device. -/
theorem leaveHold_stage (s : State) : s.leaveHold.power.stage = s.power.stage := by
  by_cases h : s.power.state = .hold
  · cases ht : s.power.trans with
    | none => rw [leaveHold_idle h ht, exitHold_power]
    | some t =>
      by_cases hs : t.target = .standby
      · rw [leaveHold_standby h ht hs, onPower_power]
      · rw [leaveHold_other h ht hs]
  · rw [leaveHold_out h]

theorem acceptCommit_stage (s : State) (pl : Plate) (p : Port) (v : Word) :
    (s.acceptCommit pl p v).power.stage = s.power.stage := by
  cases hv : bit v 6 with
  | false =>
    rw [acceptCommit_general hv, (commitsMove_readyCommits _).power, (commitsMove_entered s pl p v).power, numbered_power]
  | true =>
    rw [acceptCommit_seal hv, leaveHold_stage]
    exact congrArg _ (sealTaken_power s pl p v)

theorem sealReport_power (s : State) (p : Port) (st : Status) : (s.sealReport p st).power = s.power := by
  unfold State.sealReport
  split
  · split <;> rfl
  · rfl

theorem commit_stage (s : State) (p : Port) (v : Word) : (s.commit p v).2.power.stage = s.power.stage := by
  cases h : s.commitRefusal p v with
  | some st => rw [commit_refused h, sealReport_power]
  | none =>
    cases hpl : s.boot.plate with
    | none => simp [State.commitRefusal, hpl] at h
    | some pl => rw [commit_accepted hpl h, acceptCommit_stage]

/-- The registers whose writes are link commands too. -/
def commandRegs : List Reg := [.lyrSlotCmd, .cmpCommit, .cmpFenceSig, .hptSemAcq, .hptSemRel]

theorem writeReg_controlOn {r : Reg} (h : r ∈ commandRegs) (s : State) (p : Port) (k j : Nat) (v : Word) :
    (s.writeReg p r k j v).2.controlOn = s.controlOn := by
  simp only [commandRegs, List.mem_cons, List.not_mem_nil, or_false] at h
  rcases h with rfl | rfl | rfl | rfl | rfl
  · exact controlOn_of_power (slotCommand_power s p _ _)
  · exact controlOn_congr (commit_stage s p _)
  · exact controlOn_of_power (fenceSignal_power s _)
  · exact controlOn_of_power (semAcquire_power s p _)
  · exact controlOn_of_power (semRelease_power s p _)

/-- A request that writes one of them, refused or not, leaves the control die running. -/
theorem regWrite_controlOn {r : Reg} (h : r ∈ commandRegs) (s : State) (p : Port) (v : Word) :
    (s.regWrite p (r.addr 0 0) v).2.controlOn = s.controlOn := by
  have hdim : 0 < r.row.count ∧ 0 < r.row.each := by
    revert r
    decide
  simp only [State.regWrite, place_addr r hdim.1 hdim.2]
  split
  · rfl
  · split
    · exact writeReg_controlOn h s p 0 0 v
    · exact controlOn_of_power (blockOff_power s p)

/-! ### From an offered command to its effect (R49, R274, R275) -/

/-- What a port's own traffic changes leaves the power state. -/
theorem transmit_power (s : State) (p : Port) (ks : List TxPacket) : (s.transmit p ks).power = s.power := onPort_power _ _ _

theorem dequeue_power (s : State) (p : Port) (n : Nat) : (s.dequeue p n).power = s.power := by
  simp only [State.dequeue, State.creditAck, State.sendAck, State.sendControl, apply_ite State.power, onPort_power,
    transmit_power, ite_self]

theorem takeFront_power {p : Port} {ws : List Word} {q t : Nat} {u : State} (h : s.takeFront p ws = some (q, t, u)) :
    u.power = s.power := by
  unfold State.takeFront at h
  split at h
  · cases h
    rfl
  · split at h
    · cases h
      exact dequeue_power s p _
    · cases h

/-- A late tie does not change what stands at the front of a queue. -/
theorem takeFront_retie_isSome (s : State) (p q : Port) (ws : List Word) :
    ((s.retie p).takeFront q ws).isSome = (s.takeFront q ws).isSome := by
  simp only [State.takeFront, retie_port]
  split
  · rfl
  · split <;> rfl

@[simp] theorem retie_mayServe (s : State) (p q : Port) (n : Nat) : (s.retie p).mayServe q n = s.mayServe q n := by
  simp only [State.mayServe, retie_controlOn, retie_port]

theorem contend_alone {p : Port} (h : s.ready (otherPort p) = false) : s.contend p = s.retie p := by
  simp [State.contend, h]

/-- An offered command is served: its effect begins in `b`, and its completion ends it. -/
theorem serve_offered {code : Nat} {h : CmdHead} {ws : List Word} {c : Served} {b : State} (ho : s.offers code h ws c b)
    (f : Port → List Word → State → Reply) : s.serve code h ws f = State.conclude c (f h.port ws b) := by
  obtain ⟨hlen, hlt, hfix, hmay, halone, q, t, u, hfront, rfl, rfl⟩ := ho
  have hsome : (s.takeFront h.port (headWord code h :: ws)).isSome = true := by
    rw [← takeFront_retie_isSome s h.port, hfront]
    rfl
  have hready : s.commandReady code h ws = true := by
    simp [State.commandReady, hlt, hfix, hmay, hsome, hlen.symm]
  rw [State.serve, if_pos hready, contend_alone halone, State.serveCommand,
    if_pos (by simp [hfix, hlen.symm, hmay, hlt]), hfront]
  simp [hfix]

theorem controlOn_offered {code : Nat} {h : CmdHead} {ws : List Word} {c : Served} {b : State}
    (ho : s.offers code h ws c b) : b.controlOn = true := by
  obtain ⟨-, -, -, hmay, -, q, t, u, hfront, rfl, -⟩ := ho
  have hp : (u.turn.takes h.port).power = s.power := by
    rw [takes_power, turn_power, takeFront_power hfront, retie_power]
  rw [controlOn_of_power hp]
  simp only [State.mayServe, Bool.and_eq_true] at hmay
  obtain ⟨⟨hon, -⟩, -⟩ := hmay
  exact hon

/-- A command that acts as a write of its payload word ends as that write does. -/
theorem finish_asWrite {code : Nat} {h : CmdHead} {v : Word} {c : Served} {b : State} {r : Reg} (hr : r ∈ commandRegs)
    (ho : s.offers code h [v] c b) (value : State → Status → Word) :
    finish (s.serve code h [v] fun p ws t => t.asWrite p r ws value) =
      let t := b.regWrite h.port (r.addr 0 0) v
      .next ((t.2.completed c 1 t.1 (value t.2 t.1) []).rests) := by
  have hon : (b.regWrite h.port (r.addr 0 0) v).2.controlOn = true :=
    (regWrite_controlOn hr b h.port v).trans (controlOn_offered ho)
  rw [serve_offered ho]
  exact congrArg finish (if_pos hon)

end Sys2Proof.Machine

open Sys2Proof Sys2Proof.Machine

/-- Settles O25: each of the five commands is served as the write of its register. -/
theorem commandsThatWrite : Obligations.CommandsThatWrite := by
  intro s h v c b _ write ends
  exact ⟨fun ho => finish_asWrite (by decide) ho _, fun ho => finish_asWrite (by decide) ho _,
    fun ho => finish_asWrite (by decide) ho _, fun ho => finish_asWrite (by decide) ho _,
    fun ho => finish_asWrite (by decide) ho _⟩
end
